-- ==== Sys2Proof/Word.lean ====
section
/-!
DEFINITION. The indexes and bytes of the Iprafel 5400: bytes of frames, and the numbers of channels, heads, slots and inputs
(00_scope 2.3, 2.5).
-/

namespace Sys2Proof

/-- One byte of a frame or of the Swath Store. -/
abbrev Byte := BitVec 8

/-- An ink channel, and the cartridge slot that serves it (00_scope Table 2.3.1, 2.6). -/
abbrev Channel := Fin 6

/-- A printhead (00_scope Table 2.3.1). -/
abbrev Head := Fin 3

/-- A swath slot (R1). -/
abbrev SlotIx := Fin 8

/-- An analogue input, AIN0 to AIN11 (00_scope Table 2.5.1). -/
abbrev AIn := Fin 12

/-- A digital input, DI0 to DI15 (00_scope Table 2.5.2). -/
abbrev DIn := Fin 16

/-- A set of channels. -/
abbrev ChannelSet := Vector Bool 6

/-- A set of the 24 nozzle groups of a channel (00_scope 2.3). -/
abbrev GroupSet := Vector Bool 24

end Sys2Proof
end

