-- ==== Sys2Proof/Config.lean ====
section
/-!
DEFINITION. What the spec leaves free: the values of Sys2Proof.Config have no body, so that nothing can be proved of one.
-/

namespace Sys2Proof.Config

/-- How far the sequence of a station operation had come when it was ended before its completion: the groups of each channel
whose burst was fired whole, and the drops fired of the burst then in progress (R53, R97, R112). -/
structure StationProgress where
  groups : Vector GroupSet 6
  extra : Vector Nat 6
  deriving DecidableEq, Repr, Inhabited

/-- FREE VALUE (log 18). The spec charges and stamps "what it did before it ended" (R111, R112), and no step of the table reports
how far that was: it is a free value, one for each value of the state's counter. -/
opaque stationProgress : Nat → StationProgress

/-- FREE VALUE (log 60). Whether the post-wipe spit of the running WIPE or PRIME has begun when a table write changes the spit counts: no
step of the table reports it (R53, R155), one value for each value of the state's counter. -/
opaque spitBegun : Nat → Bool

/-- FREE VALUE (log 9). How many bytes the field with a number has in the frames of a kind (an event's kind, or the kind of the
request that a reply answers): 10.10 gives the order of these fields and states no width. -/
opaque fieldWidth : Byte → Nat → Nat

end Sys2Proof.Config
end

