-- ==== Sys2Proof/Syntax.lean ====
section
/-!
DEFINITION. The commands of the Iprafel 5400: one constructor for each row of spec/opcode_table.json.
A command that takes a forward frame has no operand of its own: its operands are the bytes of the oldest frame of the receive
buffer (R164, Table 10.10.3; log 3). A report of the mechanism carries what is reported.
-/

namespace Sys2Proof

/-- What arrives on a tag wire after a forward frame (Table 4.4.1, R69). -/
inductive TagAnswer where
  /-- A Manchester violation in the backward frame. -/
  | violation
  /-- A backward frame of the wrong length. -/
  | wrongLength
  /-- The backward frame of a READ: ink kind code, capacity (µL), remaining (µL), serial. -/
  | readData (code capacity remaining serial : Nat)
  /-- The backward frame of a DEDUCT: the new remaining (µL). -/
  | deductData (remaining : Nat)
  deriving DecidableEq, Repr, Inhabited

/-- The steps of the part, one for each row of spec/opcode_table.json, in the table's order. -/
inductive Instr where
  /-- POWER_ON (R152): the raw levels that the sixteen digital inputs have at power-on. -/
  | powerOn (raw : Vector Bool 16)
  /-- ENGINE_RESET (R171): the request is taken. -/
  | engineReset
  /-- ENGINE_RESET_LINE (R171): the reset line is asserted. -/
  | engineResetLine
  /-- LANE_ALIGNED (R161). -/
  | laneAligned
  /-- LANE_RESET (R172). -/
  | laneReset
  /-- FORWARD_FRAME_RECEIVED (R162): the bytes between a start symbol and the next start symbol or the end of the frame. -/
  | forwardFrameReceived (bytes : List Byte)
  /-- RETURN_FRAME_SENT (R166). -/
  | returnFrameSent
  /-- UNKNOWN_FRAME (R164). -/
  | unknownFrame
  /-- SWATH_OPEN (R4). -/
  | swathOpen
  /-- SLICE (R5). -/
  | slice
  /-- SWATH_CLOSE (R12). -/
  | swathClose
  /-- SWATH_DISCARD (R16). -/
  | swathDiscard
  /-- ADVANCE (R22). -/
  | advance
  /-- CUT (R22). -/
  | cut
  /-- ABORT (R41). -/
  | abort
  /-- RESUME (R150). -/
  | resume
  /-- LOAD_MEDIA (R118). -/
  | loadMedia
  /-- UNLOAD_MEDIA (R133). -/
  | unloadMedia
  /-- EJECT (R132). -/
  | eject
  /-- WIPE (R110). -/
  | wipe
  /-- PRIME (R110). -/
  | prime
  /-- CHECK_NOZZLES (R110). -/
  | checkNozzles
  /-- CAP (R110). -/
  | cap
  /-- FILL_TO_MARK (R67). -/
  | fillToMark
  /-- RESET_LADDER (R116). -/
  | resetLadder
  /-- COMMIT_MAP (R90). -/
  | commitMap
  /-- TAG_READ (R76). -/
  | tagRead
  /-- SCAN_START (R144). -/
  | scanStart
  /-- SCAN_STOP (R144). -/
  | scanStop
  /-- SCAN_NOW (R144). -/
  | scanNow
  /-- TABLE_WRITE (R153). -/
  | tableWrite
  /-- SUBSTITUTION_ADD (R86). -/
  | substitutionAdd
  /-- SUBSTITUTION_REMOVE (R87). -/
  | substitutionRemove
  /-- SUBSTITUTION_CLEAR (R87). -/
  | substitutionClear
  /-- TABLE_READ (R160). -/
  | tableRead
  /-- STATUS_READ (R170). -/
  | statusRead
  /-- CLEAR_CONDITIONS (R169). -/
  | clearConditions
  /-- ARBITER_GRANT (R108). -/
  | arbiterGrant
  /-- ADVANCE_START (R30). -/
  | advanceStart
  /-- CUT_START (R31). -/
  | cutStart
  /-- SPITTOON_STROBE (R33). -/
  | spittoonStrobe
  /-- COLUMN_STROBE (R34): the carriage column that the carriage controller names. -/
  | columnStrobe (column : Nat)
  /-- PASS_COMPLETION (R38). -/
  | passCompletion
  /-- STROBE_TIMEOUT (R37). -/
  | strobeTimeout
  /-- DOCK_REPORTED (R109). -/
  | dockReported
  /-- DOCK_FAILED (R111). -/
  | dockFailed
  /-- STATION_DRIVE_FAULT (R111). -/
  | stationDriveFault
  /-- STATION_OP_TIMEOUT (R111). -/
  | stationOpTimeout
  /-- WIPE_COMPLETION (R100). -/
  | wipeCompletion
  /-- PRIME_COMPLETION (R101). -/
  | primeCompletion
  /-- CHECK_COMPLETION (R102): the nozzles, with their channels, for which the drop detector gave no pulse. -/
  | checkCompletion (dead : List (Channel × Nat))
  /-- CAP_COMPLETION (R103). -/
  | capCompletion
  /-- CAP_DELAY_EXPIRY (R105). -/
  | capDelayExpiry
  /-- REFILL_STROKE_COMPLETE (R63). -/
  | refillStrokeComplete
  /-- TAG_BACKWARD_FRAME (R69): the cartridge slot and what arrived on its wire. -/
  | tagBackwardFrame (slot : Channel) (answer : TagAnswer)
  /-- TAG_TIMEOUT (R69). -/
  | tagTimeout (slot : Channel)
  /-- LAMP_BLINK_TOGGLE (R77). -/
  | lampBlinkToggle (lamp : Channel)
  /-- RAW_INPUT_CHANGE (R146): the input and the raw level it takes (true active). -/
  | rawInputChange (input : DIn) (level : Bool)
  /-- INPUT_FILTER_EXPIRY (R146). -/
  | inputFilterExpiry (input : DIn)
  /-- FEED_ENCODER_COUNT (R122): the counts the encoder has moved since its last report, forward positive. -/
  | feedEncoderCount (delta : Int)
  /-- ADVANCE_SETTLED (R122). -/
  | advanceSettled
  /-- FEED_STALL (R123). -/
  | feedStall
  /-- CUT_TIMEOUT (R130). -/
  | cutTimeout
  /-- LOAD_EDGE_SETTLED (R120). -/
  | loadEdgeSettled
  /-- LOAD_BACKFEED_DONE (R120). -/
  | loadBackfeedDone
  /-- LOAD_NO_EDGE (R119). -/
  | loadNoEdge
  /-- EJECT_COMPLETE (R131). -/
  | ejectComplete
  /-- EJECT_LIMIT (R131). -/
  | ejectLimit
  /-- UNLOAD_COMPLETE (R133). -/
  | unloadComplete
  /-- UNLOAD_LIMIT (R133). -/
  | unloadLimit
  /-- DRY_TIMER_EXPIRY (R128). -/
  | dryTimerExpiry
  /-- CONVERSION_END (R140): the raw value converted. -/
  | conversionEnd (raw : Nat)
  /-- PERIODIC_TIMER_EXPIRY (R143). -/
  | periodicTimerExpiry
  /-- RESULT_STALE_EXPIRY (R141). -/
  | resultStaleExpiry (input : AIn)
  deriving DecidableEq, Repr, Inhabited

end Sys2Proof
end

