-- ==== Sys2Proof/Decode.lean ====
section
/-!
DEFINITION. Reading bytes: big-endian numbers and the frame check of the print lane (10.10), and decodeTableWord.
No row of spec/opcode_table.json gives bits, so no word spells a command.
-/

namespace Sys2Proof

/-- The command that a word of the table's bits spells: the table gives no row any bits, so there is none. -/
def decodeTableWord (_nbits _w : Nat) : Option Instr := none

/-- A multi-byte number, most significant byte first (10.10). -/
def bigEndian (bytes : List Byte) : Nat := bytes.foldl (fun acc b => acc * 256 + b.toNat) 0

/-- A multi-byte number in two's complement, most significant byte first (10.10). -/
def bigEndianSigned (bytes : List Byte) : Int :=
  let n := bigEndian bytes
  if 2 * n < 256 ^ bytes.length then (n : Int) else (n : Int) - (256 ^ bytes.length : Nat)

/-- One bit step of the frame check: generator 0x1021, most significant bit first (Table 10.10.2). -/
def frameCheckBit (crc : BitVec 16) : BitVec 16 :=
  if crc.msb then (crc <<< 1) ^^^ 0x1021#16 else crc <<< 1

/-- The frame check over one more byte (Table 10.10.2). -/
def frameCheckByte (crc : BitVec 16) (b : Byte) : BitVec 16 :=
  (List.range 8).foldl (fun x _ => frameCheckBit x) (crc ^^^ (b.zeroExtend 16 <<< 8))

/-- The frame check over header and body: initial value 0xFFFF, no final inversion (Table 10.10.2). -/
def frameCheck (bytes : List Byte) : BitVec 16 := bytes.foldl frameCheckByte 0xFFFF#16

/-- A list cut into `k` pieces of `w` elements. -/
def pieces {α : Type} : Nat → Nat → List α → List (List α)
  | 0, _, _ => []
  | k + 1, w, l => l.take w :: pieces k w (l.drop w)

end Sys2Proof
end

