-- ==== Sys2Proof/Machine/Types.lean ====
section
/-!
DEFINITION. The types of the state: one structure for each block of the part, with the fields that the tables of the spec give it.
-/

namespace Sys2Proof.Machine

/-! ## Swath slots and drops (chapter 1) -/

/-- The states of a swath slot (R1). -/
inductive SlotState where
  | free | composing | queued | printing | damaged
  deriving DecidableEq, Repr, Inhabited

/-- The direction of a pass (00_scope 2.4). -/
inductive PassDir where
  | fwd | rev
  deriving DecidableEq, Repr, Inhabited

/-- The three drop sizes; a drop code is an Option DropSize (R2). -/
inductive DropSize where
  | small | medium | large
  deriving DecidableEq, Repr, Inhabited

/-- Drops counted by size. -/
structure Counts where
  small : Nat
  medium : Nat
  large : Nat
  deriving DecidableEq, Repr, Inhabited

/-- The swath slot record, Table 1.1.1. -/
structure Slot where
  state : SlotState
  dir : PassDir
  first : Nat
  last : Nat
  gen : Option Nat
  slices : Nat
  lastWritten : Vector (Option Nat) 6
  arrival : Vector Counts 6
  withheld : Vector Nat 6
  groups : Vector GroupSet 6
  deriving DecidableEq, Repr, Inhabited

/-! ## Station requests (Table 6.4.1), used by the conditions and the events as well -/

/-- A kind of station operation with its target (Table 6.4.1). -/
inductive StationOp where
  | urgentRefill (c : Channel)
  | fillToMark (c : Channel)
  | prime (c : Channel)
  | wipe (h : Head)
  | check (set : ChannelSet)
  | refill (c : Channel)
  | cap
  deriving DecidableEq, Repr, Inhabited

/-- Who asked for a station request (Table 6.4.1). -/
structure Origins where
  gate : Bool := false
  prime : Bool := false
  ladder : Bool := false
  supply : Bool := false
  wear : Bool := false
  formatter : Bool := false
  deriving DecidableEq, Repr, Inhabited

/-- The pending request record, Table 6.4.1. -/
structure Request where
  op : StationOp
  amount : Option Nat
  origins : Origins
  deriving DecidableEq, Repr, Inhabited

/-! ## Ink accounts and supply (chapters 3 and 4) -/

/-- The release record of a channel account (Table 3.1.1, R50). -/
structure ReleaseRec where
  estimate : Nat
  temp : Int
  vSmall : Nat
  vMedium : Nat
  vLarge : Nat
  coeff : Nat
  deriving DecidableEq, Repr, Inhabited

/-- The channel account, Table 3.1.1. -/
structure Account where
  level : Nat
  known : Bool
  reserved : Nat
  carry : Nat
  release : Option ReleaseRec
  deriving DecidableEq, Repr, Inhabited

/-- The supply states, Table 4.1.2. -/
inductive SupplyState where
  | unknown | ready | low | filling | starved | fault
  deriving DecidableEq, Repr, Inhabited

/-- The three kinds of refill (Table 4.2.1). -/
inductive RefillKind where
  | refill | urgent | fill
  deriving DecidableEq, Repr, Inhabited

/-- An ink need (Table 4.1.1): its kind is urgent or fill. -/
structure Need where
  kind : RefillKind
  amount : Option Nat
  origins : Origins
  deriving DecidableEq, Repr, Inhabited

/-- The refill record, Table 4.2.1, with the channel fields read at the grant (R62). -/
structure Refill where
  kind : RefillKind
  target : Option Nat
  limit : Option Nat
  strokes : Nat
  drawn : Nat
  inStroke : Bool
  markSeen : Bool
  markLevel : Nat
  strokeVolume : Nat
  floor : Nat
  refillTarget : Nat
  deriving DecidableEq, Repr, Inhabited

/-- The supply record of a channel, Table 4.1.1. -/
structure Supply where
  state : SupplyState
  faultMark : Bool
  need : Option Need
  refill : Option Refill
  deriving DecidableEq, Repr, Inhabited

/-- How a refill ends without a fault (Table 4.7.1). -/
inductive RefillEnd where
  | target | mark | cartridgeEmpty | cartridgeFault | cartridgeRemoved | stopped | abandoned
  deriving DecidableEq, Repr, Inhabited

/-- Why a refill ends by a fault (R66, R67). -/
inductive RefillFaultReason where
  | strokeLimit | pressureStale | station | timeout
  deriving DecidableEq, Repr, Inhabited

/-- The cartridge states, Table 4.5.1. -/
inductive CartState where
  | absent | reading | accepted | low | empty | rejected | tagFault
  deriving DecidableEq, Repr, Inhabited

/-- Why a cartridge was rejected (R72). -/
inductive RejectReason where
  | unknownInk | wrongSlot | mismatch
  deriving DecidableEq, Repr, Inhabited

/-- The data of a READ (Table 4.4.1), kept while the insertion goes on (R71). -/
structure TagInfo where
  code : Nat
  capacity : Nat
  remaining : Nat
  serial : Nat
  deriving DecidableEq, Repr, Inhabited

/-- A tag transaction in flight (R69): a READ of insertion handling, a DEDUCT of insertion handling (R71) or the DEDUCT of a
refill's deduction (R74). -/
inductive TagTxn where
  | read
  | insertDeduct (amount : Nat) (info : TagInfo)
  | deduct (amount : Nat)
  deriving DecidableEq, Repr, Inhabited

/-- The unsynced-deduction record (Table 4.5.1). -/
structure Unsynced where
  serial : Nat
  amount : Nat
  deriving DecidableEq, Repr, Inhabited

/-- The cartridge slot record, Table 4.5.1, and the slot's tag link with the time at which its transaction times out (R69). -/
structure Cartridge where
  state : CartState
  reject : Option RejectReason
  serial : Option Nat
  kind : Option (Fin 16)
  capacity : Option Nat
  remaining : Nat
  tagCarry : Nat
  owed : Nat
  unsynced : Option Unsynced
  link : Option (TagTxn × Nat)
  deriving DecidableEq, Repr, Inhabited

/-- The lamp patterns, Table 4.6.1. -/
inductive LampPattern where
  | off | steady | slow | fast
  deriving DecidableEq, Repr, Inhabited

/-- A lamp output (R77). -/
structure Lamp where
  pattern : LampPattern
  on : Bool
  toggleAt : Option Nat
  deriving DecidableEq, Repr, Inhabited

/-! ## Nozzle maps (chapter 5) -/

/-- The substitution policies (Table 5.3.1). -/
inductive Policy where
  | partner | shift | suppress
  deriving DecidableEq, Repr, Inhabited

/-- The resolved policy of a substitution entry with its substitute (Table 5.1.2); the substitute channel of a SHIFT entry is
the entry's own channel. -/
inductive Substitute where
  | partner (c : Channel) (nozzle : Nat)
  | shift (nozzle : Nat)
  | suppress
  deriving DecidableEq, Repr, Inhabited

/-- A substitution entry, Table 5.1.2. -/
structure SubEntry where
  dead : Nat
  sub : Substitute
  deriving DecidableEq, Repr, Inhabited

/-- The lists and overflow flags of a bank, Table 5.1.1. -/
structure Bank where
  lists : Vector (List SubEntry) 6
  overflow : Vector Bool 6
  deriving DecidableEq, Repr, Inhabited

/-- The Nozzle Map Unit: three banks, their generations and the commit pending flag (R80). -/
structure Maps where
  current : Bank
  currentGen : Nat
  retained : Bank
  retainedGen : Option Nat
  next : Bank
  nextGen : Nat
  commitPending : Bool
  deriving DecidableEq, Repr, Inhabited

/-- The three banks by name (TABLE READ of SUBSTITUTION, R93). -/
inductive BankName where
  | current | retained | next
  deriving DecidableEq, Repr, Inhabited

/-! ## Head service (chapter 6) -/

/-- The states of a recovery ladder, Table 6.5.1. -/
inductive LadderState where
  | normal | wipeCheck | primeCheck | prime2Check | degraded | suspended
  deriving DecidableEq, Repr, Inhabited

/-- The phases of a ladder step. -/
inductive LadderPhase where
  | operation | check
  deriving DecidableEq, Repr, Inhabited

/-- Why a ladder is suspended (R115). -/
inductive SuspendCause where
  | starved | fault
  deriving DecidableEq, Repr, Inhabited

/-- The recovery ladder record, Table 6.5.1. -/
structure Ladder where
  state : LadderState
  phase : Option LadderPhase
  baseline : Nat
  last : Nat
  suspStep : Option LadderState
  suspPhase : Option LadderPhase
  cause : Option SuspendCause
  deriving DecidableEq, Repr, Inhabited

/-- The station operation in flight (R109): its request, the time of its grant, the time at which it times out (R111, R157), whether
its sequence runs (the carriage is docked), the prime volume of the purge begun (R54), the spit count that the post-wipe spit fires in
each channel, and whether a table write has found that spit begun (R53, R155; log 60). -/
structure OpInFlight where
  req : Request
  grantedAt : Nat
  timeoutAt : Nat
  running : Bool
  purge : Option Nat
  spit : Vector Nat 6
  spat : Bool
  deriving DecidableEq, Repr, Inhabited

/-- The holder of the carriage, Table 6.1.1. -/
inductive Holder where
  | free
  | pass
  | op (o : OpInFlight)
  deriving DecidableEq, Repr, Inhabited

/-- The Service Controller, Table 6.1.1, with the time of the last withdrawal of a CAP (R105) and whether an uncap is in flight
(R103). -/
structure Service where
  stamps : Vector (Vector Nat 24) 6
  drops : Vector Nat 3
  capped : Bool
  docked : Bool
  holder : Holder
  idleSince : Nat
  passAsked : Bool
  pending : List Request
  ladders : Vector Ladder 6
  capWithdrawnAt : Option Nat
  uncapInFlight : Bool
  deriving DecidableEq, Repr, Inhabited

/-! ## Media feed (chapter 7) -/

/-- The media path states, Table 7.1.2. -/
inductive PathState where
  | empty | loading | aligning | ready | tailOut | cutting | ejecting | unloading | held | jammed
  deriving DecidableEq, Repr, Inhabited

/-- The media sources (LOAD MEDIA). -/
inductive Source where
  | roll1 | roll2 | sheet
  deriving DecidableEq, Repr, Inhabited

/-- The cutter states, 7.7. -/
inductive CutterState where
  | home | away | cutting | returning
  deriving DecidableEq, Repr, Inhabited

/-- The jam causes, Table 7.1.1. -/
inductive JamCause where
  | stall | cutter | limit
  deriving DecidableEq, Repr, Inhabited

/-- Who owns a motion (R117). -/
inductive Owner where
  | entry | request | orphan
  deriving DecidableEq, Repr, Inhabited

/-- The phase of a load (R119, R120): back-feeding to clear the sensors, feeding forward, coming to rest at the later edge, and the
back-feed of 33,334 counts after a failed skew check. -/
inductive LoadPhase where
  | clearing | forward | toRest | retry
  deriving DecidableEq, Repr, Inhabited

/-- The kind of a motion with the figures of that kind. Encoder counts of a load, an eject or an unload are taken from the start of
the motion, forward positive. -/
inductive MotionWork where
  /-- A LOAD: its phase, the count at which the phase began, the edge counts of DI0 and DI1, and the skew of the last check. -/
  | load (phase : LoadPhase) (phaseStart : Int) (edge0 edge1 : Option Int) (skew : Option Nat)
  /-- An ADVANCE: its distance, its counts N, and whether it has been stopped at the tail position (R125). -/
  | advance (distance counts : Nat) (short : Bool)
  /-- A CUT: the time at which it, or the return home of a paused one, fails (R130, R135), and whether DI8 has become inactive. -/
  | cut (failAt : Nat) (leftHome : Bool)
  /-- An EJECT: the count at which DI2 was found or became inactive (R131). -/
  | eject (trailAt : Option Int)
  /-- An UNLOAD: the count at which DI2 became inactive (R133). -/
  | unload (trailAt : Option Int)
  deriving DecidableEq, Repr, Inhabited

/-- The kinds of a motion (Table 7.1.1). -/
inductive MotionKind where
  | load | advance | cut | eject | unload
  deriving DecidableEq, Repr, Inhabited

/-- The motion in flight (Table 7.1.1): its kind and figures, owner, whether it is paused, the encoder counts since its start, since
when it has stayed in its settle band (R122), and the stall time (R123): the time from which the 500 ms are measured (its start or its
last progress, moved on by the time not measured), and since when they are not measured, where they are not (log 37). -/
structure Motion where
  work : MotionWork
  owner : Owner
  paused : Bool
  count : Int
  inBandSince : Option Nat
  progressAt : Nat
  heldAt : Option Nat
  deriving DecidableEq, Repr, Inhabited

/-- The Media Feed Unit record, Table 7.1.1, with the path state that a cut returns to (R129). -/
structure Feed where
  path : PathState
  source : Option Source
  profile : Option (Fin 16)
  pos : Option Nat
  target : Option Nat
  residue : Nat
  tail : Option Nat
  rollRemaining : Option Nat
  rollLow : Bool
  attempt : Nat
  window : List Nat
  dryExpiry : Option Nat
  cutter : CutterState
  motion : Option Motion
  jam : Option JamCause
  beforeCut : PathState
  deriving DecidableEq, Repr, Inhabited

/-! ## Sensing (chapter 8) -/

/-- The result record, Table 8.1.1. -/
structure Result where
  value : Int
  convertedAt : Option Nat
  valid : Bool
  deriving DecidableEq, Repr, Inhabited

/-- The scan modes. -/
inductive ScanMode where
  | continuous | triggered
  deriving DecidableEq, Repr, Inhabited

/-- The Sensor Scan Unit, Tables 8.1.1 and 8.1.2. -/
structure Scan where
  results : Vector Result 12
  running : Bool
  mode : ScanMode
  startIn : AIn
  endIn : AIn
  period : Nat
  sweep : Option AIn
  periodicAt : Option Nat
  deriving DecidableEq, Repr, Inhabited

/-- A candidate level (Table 8.4.1) with the time it has been held since and the filter time it began with (R146). -/
structure Candidate where
  level : Bool
  since : Nat
  filter : Nat
  deriving DecidableEq, Repr, Inhabited

/-- The input record, Table 8.4.1; the filtered level is none while unsettled. -/
structure InputRec where
  level : Option Bool
  candidate : Option Candidate
  deriving DecidableEq, Repr, Inhabited

/-- The cause of the stop latch with its detail, Table 8.5.1. -/
inductive StopCause where
  | input (i : DIn)
  | pressure (c : Channel)
  | strobeTimeout
  deriving DecidableEq, Repr, Inhabited

/-- The stop latch, Table 8.5.1. -/
structure StopLatch where
  set : Bool
  cause : Option StopCause
  deriving DecidableEq, Repr, Inhabited

/-! ## Loaded tables (chapter 9) -/

/-- The ink kind record, Table 9.1.2. -/
structure InkKind where
  code : Nat
  accepted : ChannelSet
  vSmall : Nat
  vMedium : Nat
  vLarge : Nat
  coeff : Nat
  headLimit : Int
  decapBase : Nat
  spitCount : Nat
  primeVolume : Nat
  deriving DecidableEq, Repr, Inhabited

/-- The channel record, Table 9.1.3, without the reverse shift, which is the head's (R152). -/
structure ChannelRec where
  kind : Option (Fin 16)
  policy : Policy
  partner : Option Channel
  floor : Nat
  refillTrigger : Nat
  refillTarget : Nat
  markLevel : Nat
  strokeVolume : Nat
  columnOffset : Int
  gateLow : Int
  gateHigh : Int
  stopLow : Int
  stopHigh : Int
  cartLow : Nat
  deriving DecidableEq, Repr, Inhabited

/-- The media profile record, Table 9.1.4. -/
structure Profile where
  calibration : Int
  skewLimit : Nat
  dryBase : Nat
  dryPerUl : Nat
  dryMax : Nat
  cold : Int
  wetEdge : Nat
  deriving DecidableEq, Repr, Inhabited

/-- The service record, Table 9.1.5. -/
structure ServiceRec where
  wipeInterval : Nat
  capDelay : Nat
  threshold : Nat
  autoRecovery : Bool
  autoCommit : Bool
  dryPercent : Nat
  normalPercent : Nat
  dampPercent : Nat
  wipeTimeout : Nat
  primeTimeout : Nat
  checkTimeout : Nat
  capTimeout : Nat
  refillTimeout : Nat
  markThreshold : Int
  deriving DecidableEq, Repr, Inhabited

/-- A scan record of one input, Table 9.1.6. -/
structure ScanRec where
  gain : Int
  offset : Int
  maxAge : Nat
  deriving DecidableEq, Repr, Inhabited

/-- The mode record of the scan table, Table 9.1.6. -/
structure ModeRec where
  mode : ScanMode
  startIn : AIn
  endIn : AIn
  period : Nat
  deriving DecidableEq, Repr, Inhabited

/-- The event edges of Table 9.1.7. -/
inductive EventEdge where
  | none | rising | falling | both
  deriving DecidableEq, Repr, Inhabited

/-- The stop routings of Table 9.1.7. -/
inductive StopRouting where
  | none | rising | falling
  deriving DecidableEq, Repr, Inhabited

/-- The input record of the input table, Table 9.1.7. -/
structure InputCfg where
  filter : Nat
  edge : EventEdge
  routing : StopRouting
  deriving DecidableEq, Repr, Inhabited

/-- The six loaded tables, Table 9.1.1, and the three reverse shifts of the heads (R152). -/
structure Tables where
  ink : Vector InkKind 16
  channel : Vector ChannelRec 6
  reverseShift : Vector Int 3
  profile : Vector Profile 16
  service : ServiceRec
  scan : Vector ScanRec 12
  mode : ModeRec
  input : Vector InputCfg 16
  deriving DecidableEq, Repr, Inhabited

/-! ## Print queue and pass (chapter 2) -/

/-- The work of a print queue entry, Table 2.1.1. -/
inductive Job where
  | swath (slot : SlotIx) (capacityReported : Bool)
  | advance (distance : Nat) (counts remaining : Option Nat) (shortReported : Bool)
  | cut
  deriving DecidableEq, Repr, Inhabited

/-- The phases of an entry, Table 2.1.1. -/
inductive Phase where
  | waiting | active
  deriving DecidableEq, Repr, Inhabited

/-- A print queue entry, Table 2.1.1. -/
structure Entry where
  job : Job
  phase : Phase
  deriving DecidableEq, Repr, Inhabited

/-- The hold-reason set, Table 2.2.1. -/
structure Holds where
  stop : Bool := false
  busy : Bool := false
  media : Bool := false
  service : Bool := false
  pressure : Bool := false
  temperature : Bool := false
  ink : Bool := false
  capacity : Bool := false
  dry : Bool := false
  deriving DecidableEq, Repr, Inhabited

/-- The pass context, 2.4 and R32, with the deadline of the next strobe (R37). -/
structure PassContext where
  slot : SlotIx
  dir : PassDir
  first : Nat
  last : Nat
  gen : Option Nat
  offsets : Vector Int 6
  temps : Vector Int 3
  spit : Vector GroupSet 6
  burst : Vector Nat 6
  colA : Nat
  colB : Nat
  spitDone : Bool
  lastCol : Option Nat
  output : Vector (Vector Counts 24) 6
  fired : Vector GroupSet 6
  deadline : Option Nat
  deriving DecidableEq, Repr, Inhabited

/-! ## Lane (chapter 10) -/

/-- A checked forward frame in the receive buffer (Table 10.10.1). -/
structure Frame where
  kind : Byte
  tag : Byte
  body : List Byte
  deriving DecidableEq, Repr, Inhabited

/-- The outcomes of a reply, Table 10.10.5; the code 5 (ORDER) is reserved and no reply carries it. -/
inductive ReplyOutcome where
  | done | clamped | busy | full | range | state | inUse | mismatch | unknown
  deriving DecidableEq, Repr, Inhabited

/-- The seven latched conditions, Table 10.6.1. -/
inductive Condition where
  | laneError | eventsLost | sensorStale | jam | stationFault | tagFault | capacity
  deriving DecidableEq, Repr, Inhabited

/-- The condition set (R168). -/
structure Conditions where
  laneError : Bool := false
  eventsLost : Bool := false
  sensorStale : Bool := false
  jam : Bool := false
  stationFault : Bool := false
  tagFault : Bool := false
  capacity : Bool := false
  deriving DecidableEq, Repr, Inhabited

/-- Why a forward frame is discarded, or the lane reset (R162, R172). -/
inductive LaneErrorReason where
  | check | length | overflow | alignment
  deriving DecidableEq, Repr, Inhabited

/-- A raising of a condition, with the detail its CONDITION event carries (Table 10.6.1). -/
inductive CondRaise where
  | laneError (reason : LaneErrorReason)
  | eventsLost
  | sensorStale (input : AIn)
  | jam (cause : JamCause)
  | stationFault (op : StationOp)
  | tagFault (slot : Channel)
  | capacity (slot : SlotIx) (c : Channel)
  deriving DecidableEq, Repr, Inhabited

/-- Why a slice is refused (R11). -/
inductive SliceReason where
  | range | order | state
  deriving DecidableEq, Repr, Inhabited

/-- Why a slot is damaged (R12, R18). -/
inductive DamageReason where
  | sliceCount | laneReset
  deriving DecidableEq, Repr, Inhabited

/-- Why a station operation failed (R101, R111). -/
inductive StationFailReason where
  | fault | timeout | noInk
  deriving DecidableEq, Repr, Inhabited

/-- Why a load failed (R119, R120). -/
inductive LoadFailReason where
  | noEdge | skew | rollEnd
  deriving DecidableEq, Repr, Inhabited

/-- The two forms of MEDIA SHORT (R30, R125). -/
inductive ShortForm where
  | blocked | short
  deriving DecidableEq, Repr, Inhabited

/-- The kinds of CUT DONE (R129, R131). -/
inductive CutDoneKind where
  | cut | eject
  deriving DecidableEq, Repr, Inhabited

/-- What CHECK RESULT carries for a channel checked (R102). -/
structure CheckFigures where
  found : Nat
  listed : Nat
  overflow : Bool
  deriving DecidableEq, Repr, Inhabited

/-- The events, with the fields of Table 10.5.1 in its order. The station events carry no debit: R44 speaks of one, and that table, R102
and R111 give them none (log 52). -/
inductive Event where
  | sliceRefused (slot channel first : Option Nat) (reason : SliceReason) (slices : Option Nat)
  | swathDamaged (slot : SlotIx) (reason : DamageReason) (slices : Nat) (stated : Option Nat)
  | swathComplete (slot : SlotIx) (debits withheld : Vector Nat 6)
  | swathAborted (slot : SlotIx) (lastFired : Option Nat) (debits withheld : Vector Nat 6)
  | bandRisk (slot : SlotIx) (gap limit : Nat)
  | forcedStop (cause : StopCause) (time : Nat) (slot : Option SlotIx)
  | sensorStale (input : AIn) (value : Int) (age : Nat)
  | inputEdge (input : DIn) (level : Bool) (time : Nat)
  | condition (raise : CondRaise)
  | supplyState (c : Channel) (state : SupplyState) (level : Nat) (known : Bool) (reserved : Nat)
  | cartridgeState (slot : Channel) (state : CartState) (reject : Option RejectReason) (serial : Option Nat)
      (kind : Option (Fin 16)) (capacity : Option Nat) (remaining : Nat)
  | refillDone (c : Channel) (kind : RefillKind) (reason : RefillEnd) (strokes drawn level : Nat) (known : Bool)
  | refillFault (c : Channel) (kind : RefillKind) (reason : RefillFaultReason) (strokes drawn level : Nat)
  | markDrift (c : Channel) (accounted mark : Nat) (difference : Int) (knownBefore : Bool)
  | stationFailed (op : StationOp) (reason : StationFailReason) (elapsed : Option Nat)
  | checkResult (set : ChannelSet) (figures : Vector (Option CheckFigures) 6) (commitSet : Bool)
  | mapCommitted (gen retained : Nat) (emptied : Bool) (entries : Vector Nat 6) (overflow : Vector Bool 6)
  | ladder (c : Channel) (state : LadderState) (phase : Option LadderPhase) (baseline last : Nat)
      (suspStep : Option LadderState) (cause : Option SuspendCause)
  | mediaState (path : PathState) (source : Option Source) (profile : Option (Fin 16)) (pos remaining : Option Nat)
      (jam : Option JamCause)
  | loadFailed (source : Option Source) (profile : Option (Fin 16)) (reason : LoadFailReason) (attempt : Nat) (skew : Option Nat)
  | mediaShort (form : ShortForm) (distance counts rest : Nat)
  | rollLow (source : Option Source) (remaining : Nat)
  | cutDone (kind : CutDoneKind) (source : Option Source) (rollRemaining : Option Nat)
  deriving DecidableEq, Repr, Inhabited

/-- An event frame with its time raised (10.5, R167). -/
structure EventFrame where
  time : Nat
  event : Event
  deriving DecidableEq, Repr, Inhabited

/-- A queue entry as STATUS READ reports it (Table 10.7.1). -/
inductive StatusEntry where
  | swath (phase : Phase) (slot : SlotIx)
  | advance (phase : Phase) (distance : Nat) (counts remaining : Option Nat)
  | cut (phase : Phase)
  deriving DecidableEq, Repr, Inhabited

/-- The channel part of STATUS READ (Table 10.7.1). -/
structure StatusChannel where
  level : Nat
  known : Bool
  reserved : Nat
  supply : SupplyState
  cartridge : CartState
  ladder : LadderState
  deriving DecidableEq, Repr, Inhabited

/-- The reply of STATUS READ, Table 10.7.1. -/
structure Status where
  time : Nat
  queue : List StatusEntry
  holds : Holds
  channels : Vector StatusChannel 6
  currentGen : Nat
  retainedGen : Option Nat
  commitPending : Bool
  station : Option StationOp
  path : PathState
  feedPos : Option Nat
  remaining : Option Nat
  conditions : Conditions
  stop : StopLatch
  deriving DecidableEq, Repr, Inhabited

/-- The result data of a reply (R165). -/
inductive ReplyData where
  | none
  /-- The stored value of each clamped field: field number and value. -/
  | clamped (fields : List (Nat × Int))
  /-- The fields of a record in the order of their numbers (R160), coded as a TABLE WRITE codes them. -/
  | fields (values : List Int)
  /-- A channel's substitution list: the bank's generation, the channel's overflow flag and its entries (R93). -/
  | substitutions (c : Channel) (gen : Option Nat) (overflow : Bool) (entries : List SubEntry)
  | status (s : Status)
  /-- The conditions still latched (R169). -/
  | conditions (set : Conditions)
  deriving DecidableEq, Repr, Inhabited

/-- A reply (Table 10.10.5): kind and tag of its request, outcome and result data. -/
structure Reply where
  kind : Byte
  tag : Byte
  outcome : ReplyOutcome
  data : ReplyData
  deriving DecidableEq, Repr, Inhabited

/-- A return frame. -/
inductive ReturnFrame where
  | reply (r : Reply)
  | event (e : EventFrame)
  deriving DecidableEq, Repr, Inhabited

/-- The Lane Interface, chapter 10 (1) to (7), and the return frame being sent. -/
structure Lane where
  aligned : Bool
  rx : List Frame
  hold : Bool
  replies : List Reply
  events : List EventFrame
  notice : Bool
  conditions : Conditions
  sending : Option ReturnFrame
  deriving DecidableEq, Repr, Inhabited

/-! ## Commands to the mechanism -/

/-- The last command on the carriage lines: dock, undock and make a pass from one carriage column to another (lifting off the cap
where needed), or stop. -/
inductive CarriageCmd where
  | none
  | dock
  | pass (liftCap : Bool) (dir : PassDir) (colA colB : Nat)
  | stop
  deriving DecidableEq, Repr, Inhabited

/-- The last command to the station drive. -/
inductive StationCmd where
  | none
  | run (op : StationOp)
  | stroke (c : Channel)
  | closeValve (c : Channel)
  | stop
  deriving DecidableEq, Repr, Inhabited

/-- The last command to the feed motor drive. -/
inductive FeedCmd where
  | stop | forward | back
  deriving DecidableEq, Repr, Inhabited

/-- The last command to the cutter drive. -/
inductive CutterCmd where
  | none | across | home | stop
  deriving DecidableEq, Repr, Inhabited

/-- What the part last commanded on its mechanism lines, and the firing data that the pass last sent to the head drivers: for each channel
the nozzles that fire and their drop sizes, and how many drops each of them fires, one at a column (R34) and the spit count at the
spittoon (R33). -/
structure Outputs where
  carriage : CarriageCmd
  station : StationCmd
  feed : FeedCmd
  cutter : CutterCmd
  firing : Vector (List (Nat × DropSize)) 6
  shots : Vector Nat 6
  deriving DecidableEq, Repr, Inhabited

end Sys2Proof.Machine
end

