-- ==== Sys2Proof/Machine/Defaults.lean ====
section
/-!
DEFINITION. The power-on values of every block: the loaded tables' defaults (Tables 9.1.2 to 9.1.7, R152) and the values that the
tables of the other chapters give.
-/

namespace Sys2Proof.Machine

/-- The six channels, ascending. -/
def channels : List Channel := [0, 1, 2, 3, 4, 5]

/-- The head of a channel (00_scope Table 2.3.1). -/
def headOf (c : Channel) : Head := if c.val < 2 then 0 else if c.val < 4 then 1 else 2

/-- Table 9.1.2, column Default. -/
def defaultInkKind : InkKind where
  code := 0
  accepted := Vector.replicate 6 false
  vSmall := 40
  vMedium := 75
  vLarge := 120
  coeff := 0
  headLimit := 58
  decapBase := 10000
  spitCount := 40
  primeVolume := 800000

/-- Table 9.1.3, column Default. -/
def defaultChannel (c : Channel) : ChannelRec where
  kind := none
  policy := if c.val < 2 then .partner else .shift
  partner := if c = 0 then some 1 else if c = 1 then some 0 else none
  floor := 1500000
  refillTrigger := 4000000
  refillTarget := 9000000
  markLevel := 10000000
  strokeVolume := 50000
  columnOffset := 0
  gateLow := -3500
  gateHigh := -800
  stopLow := -5000
  stopHigh := -300
  cartLow := 60000

/-- Table 9.1.4, column Default. -/
def defaultProfile : Profile where
  calibration := 0
  skewLimit := 1500
  dryBase := 2000
  dryPerUl := 100
  dryMax := 120000
  cold := 18
  wetEdge := 15000

/-- Table 9.1.5, column Default. -/
def defaultService : ServiceRec where
  wipeInterval := 400000000
  capDelay := 60000
  threshold := 4
  autoRecovery := true
  autoCommit := false
  dryPercent := 50
  normalPercent := 100
  dampPercent := 150
  wipeTimeout := 30000
  primeTimeout := 90000
  checkTimeout := 60000
  capTimeout := 15000
  refillTimeout := 900000
  markThreshold := 25000

/-- Table 9.1.6, column Default, records 0 to 11. -/
def defaultScan : ScanRec where
  gain := 4096
  offset := 0
  maxAge := 1000

/-- Table 9.1.6, column Default, record 12. -/
def defaultMode : ModeRec where
  mode := .continuous
  startIn := 0
  endIn := 11
  period := 100

/-- Table 9.1.7, column Default. -/
def defaultInput (i : DIn) : InputCfg where
  filter := if i = 7 ∨ i = 9 then 0 else 4
  edge := if 3 ≤ i.val ∧ i.val ≤ 9 then .both else .none
  routing := if i = 6 then .falling else if i = 7 ∨ i = 9 then .rising else .none

/-- The loaded tables at power-on (R152). -/
def defaultTables : Tables where
  ink := Vector.replicate 16 defaultInkKind
  channel := #v[defaultChannel 0, defaultChannel 1, defaultChannel 2, defaultChannel 3, defaultChannel 4, defaultChannel 5]
  reverseShift := Vector.replicate 3 0
  profile := Vector.replicate 16 defaultProfile
  service := defaultService
  scan := Vector.replicate 12 defaultScan
  mode := defaultMode
  input := #v[defaultInput 0, defaultInput 1, defaultInput 2, defaultInput 3, defaultInput 4, defaultInput 5, defaultInput 6,
    defaultInput 7, defaultInput 8, defaultInput 9, defaultInput 10, defaultInput 11, defaultInput 12, defaultInput 13,
    defaultInput 14, defaultInput 15]

/-- No drops. -/
def Counts.zero : Counts := ⟨0, 0, 0⟩

/-- The empty set of nozzle groups. -/
def noGroups : GroupSet := Vector.replicate 24 false

/-- The set of all nozzle groups. -/
def allGroups : GroupSet := Vector.replicate 24 true

/-- A slot record at its values while FREE (Table 1.1.1, R1). -/
def blankSlot : Slot where
  state := .free
  dir := .fwd
  first := 0
  last := 0
  gen := none
  slices := 0
  lastWritten := Vector.replicate 6 none
  arrival := Vector.replicate 6 Counts.zero
  withheld := Vector.replicate 6 0
  groups := Vector.replicate 6 noGroups

/-- A channel account at power-on (Table 3.1.1). -/
def initAccount : Account where
  level := 0
  known := false
  reserved := 0
  carry := 0
  release := none

/-- A supply record at power-on (Table 4.1.1). -/
def initSupply : Supply where
  state := .unknown
  faultMark := false
  need := none
  refill := none

/-- A cartridge slot record at power-on (Table 4.5.1). -/
def initCartridge : Cartridge where
  state := .absent
  reject := none
  serial := none
  kind := none
  capacity := none
  remaining := 0
  tagCarry := 0
  owed := 0
  unsynced := none
  link := none

/-- A lamp at power-on: steady on (R77). -/
def initLamp : Lamp where
  pattern := .steady
  on := true
  toggleAt := none

/-- An empty map bank (Table 5.1.1). -/
def emptyBank : Bank where
  lists := Vector.replicate 6 []
  overflow := Vector.replicate 6 false

/-- The Nozzle Map Unit at power-on (R80). -/
def initMaps : Maps where
  current := emptyBank
  currentGen := 0
  retained := emptyBank
  retainedGen := none
  next := emptyBank
  nextGen := 0
  commitPending := false

/-- A recovery ladder at power-on (Table 6.5.1). -/
def initLadder : Ladder where
  state := .normal
  phase := none
  baseline := 0
  last := 0
  suspStep := none
  suspPhase := none
  cause := none

/-- The Service Controller at power-on (Table 6.1.1). -/
def initService : Service where
  stamps := Vector.replicate 6 (Vector.replicate 24 0)
  drops := Vector.replicate 3 0
  capped := true
  docked := true
  holder := .free
  idleSince := 0
  passAsked := false
  pending := []
  ladders := Vector.replicate 6 initLadder
  capWithdrawnAt := none
  uncapInFlight := false

/-- The feed unit at power-on, before the filters of DI2 and DI8 have settled (Table 7.1.1, R117; log 6). -/
def initFeed : Feed where
  path := .empty
  source := none
  profile := none
  pos := none
  target := none
  residue := 0
  tail := none
  rollRemaining := none
  rollLow := false
  attempt := 0
  window := []
  dryExpiry := none
  cutter := .away
  motion := none
  jam := none
  beforeCut := .ready

/-- The scan unit at power-on: running in CONTINUOUS mode over AIN0 to AIN11 at once, so that AIN0 is in flight, where Table 8.1.2 gives the
sweep in flight the power-on value absent (R139, R142; log 63). -/
def initScan : Scan where
  results := Vector.replicate 12 ⟨0, none, false⟩
  running := true
  mode := .continuous
  startIn := 0
  endIn := 11
  period := 100
  sweep := some 0
  periodicAt := none

/-- The Lane Interface at power-on (chapter 10). -/
def initLane : Lane where
  aligned := false
  rx := []
  hold := false
  replies := []
  events := []
  notice := false
  conditions := {}
  sending := none

/-- Nothing commanded to the mechanism yet. -/
def initOutputs : Outputs where
  carriage := .none
  station := .none
  feed := .stop
  cutter := .none
  firing := Vector.replicate 6 []
  shots := Vector.replicate 6 0

end Sys2Proof.Machine
end

