-- ==== Sys2Proof/Machine/State.lean ====
section
/-!
DEFINITION. The state of the Iprafel 5400: everything the spec gives it, as plain data, and its value right after power-on.
-/

namespace Sys2Proof.Machine

/-- The Swath Store as (address, byte) pairs in one canonical form (R2): addresses strictly rising, no entry equal to 0, which is what
an unlisted address reads as (log 10). -/
abbrev Memory := List Host.Cell

/-- The state of the part. -/
structure State where
  /-- The time base, ms from power-on (00_scope 2.2). -/
  now : Nat
  /-- The Lane Interface (chapter 10). -/
  lane : Lane
  /-- The eight swath slot records (Table 1.1.1). -/
  slots : Vector Slot 8
  /-- The Swath Store (R2). -/
  store : Memory
  /-- The print queue, head first (R21). -/
  queue : List Entry
  /-- The hold-reason set (R24). -/
  holds : Holds
  /-- The wet-edge timer (R39). -/
  wetEdge : Option Nat
  /-- The pass context of the pass in flight (2.4). -/
  pass : Option PassContext
  /-- The head drive enable (R29, R40). -/
  driveEnable : Bool
  /-- The six channel accounts (Table 3.1.1). -/
  accounts : Vector Account 6
  /-- The six supply records (Table 4.1.1). -/
  supply : Vector Supply 6
  /-- The six cartridge slots with their tag links (Table 4.5.1). -/
  carts : Vector Cartridge 6
  /-- The six lamps (R77). -/
  lamps : Vector Lamp 6
  /-- The Nozzle Map Unit (Table 5.1.1). -/
  maps : Maps
  /-- The Service Controller (Table 6.1.1). -/
  service : Service
  /-- The Media Feed Unit (Table 7.1.1). -/
  feed : Feed
  /-- The Sensor Scan Unit (Tables 8.1.1, 8.1.2). -/
  scan : Scan
  /-- The sixteen input records (Table 8.4.1). -/
  inputs : Vector InputRec 16
  /-- The stop latch (Table 8.5.1). -/
  stop : StopLatch
  /-- The loaded tables (Table 9.1.1). -/
  tables : Tables
  /-- The last commands on the mechanism lines. -/
  out : Outputs
  /-- The MODEL's own: which free value comes next (log 18). -/
  freeCount : Nat
  /-- The MODEL's own: the commands that wait, first in first out (log 2). -/
  pending : List Instr
  deriving DecidableEq, Repr, Inhabited

/-- No command stops the part with a fault: what the spec calls a fault (STATION FAULT, TAG FAULT, a jam, a forced stop) is state,
and the part goes on (log 5). There is no constructor, so no false claim can rest on one: safe. -/
inductive Fault where
  deriving DecidableEq, Repr

/-- Why a command has no meaning here. -/
inductive Refusal where
  /-- Raised by exec's arm of a command that has no meaning yet, by its mnemonic; no arm raises it now. Safe: a claim about such a
  command could not be proved. -/
  | notModelled (mnemonic : String)
  deriving DecidableEq, Repr

/-- The part right after power-on, before a digital input has been sampled (R152; log 6, 7). -/
def State.reset : State where
  now := 0
  lane := initLane
  slots := Vector.replicate 8 blankSlot
  store := []
  queue := []
  holds := {}
  wetEdge := none
  pass := none
  driveEnable := false
  accounts := Vector.replicate 6 initAccount
  supply := Vector.replicate 6 initSupply
  carts := Vector.replicate 6 initCartridge
  lamps := Vector.replicate 6 initLamp
  maps := initMaps
  service := initService
  feed := initFeed
  scan := initScan
  inputs := Vector.replicate 16 ⟨none, none⟩
  stop := ⟨false, none⟩
  tables := defaultTables
  out := initOutputs
  freeCount := 0
  pending := []

end Sys2Proof.Machine
end

