-- ==== Sys2Proof/Machine/Ops.lean ====
section
/-!
DEFINITION. The shared operations: indexed registers, the Swath Store, the print lane's buffer, lists and queue, slot records and the
map lookups.
-/

namespace Sys2Proof.Machine

/-! ## Indexed registers -/

/-- Write one element. -/
def setAt {α : Type} {n : Nat} (v : Vector α n) (i : Fin n) (x : α) : Vector α n := v.set i.val x i.isLt

/-- Change one element. -/
def modifyAt {α : Type} {n : Nat} (v : Vector α n) (i : Fin n) (f : α → α) : Vector α n := setAt v i (f v[i])

/-- Add a group to a set of groups; a number beyond 23 names no group. -/
def GroupSet.insert (g : Nat) (set : GroupSet) : GroupSet := Vector.setIfInBounds set g true

/-- How many groups a set holds. -/
def GroupSet.size (set : GroupSet) : Nat := set.toList.countP (· = true)

/-- Whether a set of groups is empty. -/
def GroupSet.isEmpty (set : GroupSet) : Bool := set.toList.all (· = false)

/-! ## The Swath Store (R2) -/

/-- The canonical form of the store: addresses strictly rising, no entry equal to what an unlisted address reads as. -/
abbrev Memory.wf (m : Memory) : Prop := m.Pairwise (fun a b => a.1 < b.1) ∧ ∀ c ∈ m, c.2 ≠ 0

/-- One byte of the store; an unlisted address reads 0 (R2: the code none; log 10). -/
def Memory.read : Memory → Nat → Byte
  | [], _ => 0
  | (k, b) :: m, a => if k = a then b else Memory.read m a

/-- Put one cell into a rising list and go on behind it with `k`. -/
def Memory.mergeInto (c : Host.Cell) (k : Memory → Memory) : Memory → Memory
  | [] => c :: k []
  | d :: m =>
    if d.1 < c.1 then d :: Memory.mergeInto c k m
    else if d.1 = c.1 then c :: k m
    else c :: k (d :: m)

/-- Merge rising cells into a rising list, the new cells standing where both list an address. -/
def Memory.merge : List Host.Cell → Memory → Memory
  | [], m => m
  | c :: cs, m => Memory.mergeInto c (Memory.merge cs) m

/-- Write rising cells into the store; a zero byte is not listed. -/
def Memory.write (cells : List Host.Cell) (m : Memory) : Memory := (Memory.merge cells m).filter (fun c => c.2 ≠ 0)

/-- Make a set of addresses read 0. -/
def Memory.blank (inside : Nat → Bool) (m : Memory) : Memory := m.filter (fun c => !inside c.1)

/-- The address of the first byte of a column of a channel in a slot area: 66,355,200 bytes for a slot, 11,059,200 for a channel,
192 for a column (chapter 1; log 10). -/
def storeAddress (slot : SlotIx) (c : Channel) (column : Nat) : Nat :=
  slot.val * 66355200 + c.val * 11059200 + column * 192

/-- The address lies in the slot's area, in a column from first to last of some channel. -/
def inSpan (slot : SlotIx) (first last : Nat) (a : Nat) : Bool :=
  a / 66355200 = slot.val && first ≤ a % 11059200 / 192 && a % 11059200 / 192 ≤ last

/-- The drop code of one of the four nozzles of a byte: the lowest nozzle in the two least significant bits (Table 10.10.7). -/
def dropCode (b : Byte) (k : Nat) : Option DropSize :=
  match b.toNat / 4 ^ k % 4 with
  | 1 => some .small
  | 2 => some .medium
  | 3 => some .large
  | _ => none

/-- The drop code of a nozzle at a column of a channel in a slot area: byte j of group g holds nozzles 32g + 4j to 32g + 4j + 3. -/
def storedCode (m : Memory) (slot : SlotIx) (c : Channel) (column nozzle : Nat) : Option DropSize :=
  dropCode (Memory.read m (storeAddress slot c column + nozzle / 4)) (nozzle % 4)

/-! ## The print lane (chapter 10) -/

/-- Whether a condition is latched. -/
def Conditions.latched (s : Conditions) : Condition → Bool
  | .laneError => s.laneError
  | .eventsLost => s.eventsLost
  | .sensorStale => s.sensorStale
  | .jam => s.jam
  | .stationFault => s.stationFault
  | .tagFault => s.tagFault
  | .capacity => s.capacity

/-- Latch or clear a condition. -/
def Conditions.put (s : Conditions) (v : Bool) : Condition → Conditions
  | .laneError => { s with laneError := v }
  | .eventsLost => { s with eventsLost := v }
  | .sensorStale => { s with sensorStale := v }
  | .jam => { s with jam := v }
  | .stationFault => { s with stationFault := v }
  | .tagFault => { s with tagFault := v }
  | .capacity => { s with capacity := v }

/-- The condition that a raising names. -/
def CondRaise.condition : CondRaise → Condition
  | .laneError _ => .laneError
  | .eventsLost => .eventsLost
  | .sensorStale _ => .sensorStale
  | .jam _ => .jam
  | .stationFault _ => .stationFault
  | .tagFault _ => .tagFault
  | .capacity _ _ => .capacity

/-- Place an event in the return queue; an event that finds 64 frames there is lost, and EVENTS LOST is latched with the overflow
notice when it is not latched (R166, R167). -/
def Lane.raise (now : Nat) (e : Event) (l : Lane) : Lane :=
  if l.events.length < 64 then { l with events := l.events ++ [⟨now, e⟩] }
  else if l.conditions.eventsLost then l
  else { l with conditions := l.conditions.put true .eventsLost, notice := true }

/-- Raise a condition: a condition not latched is latched with one CONDITION event, a latched one stays (R168). -/
def Lane.raiseCondition (now : Nat) (r : CondRaise) (l : Lane) : Lane :=
  if l.conditions.latched r.condition then l
  else Lane.raise now (.condition r) { l with conditions := l.conditions.put true r.condition }

/-- When the return direction is ALIGNED and free it takes the oldest reply, else the oldest event; when the event's place frees, a
waiting overflow notice takes it (R166; log 8). -/
def Lane.choose (now : Nat) (l : Lane) : Lane :=
  if l.aligned ∧ l.sending = none then
    match l.replies, l.events with
    | r :: rs, _ => { l with sending := some (.reply r), replies := rs }
    | [], e :: es =>
      { l with
        sending := some (.event e)
        events := if l.notice then es ++ [⟨now, .condition .eventsLost⟩] else es
        notice := false }
    | [], [] => l
  else l

/-- Place a checked frame at the tail of the receive buffer; the count reaching 24 asserts HOLD (R163). -/
def Lane.place (f : Frame) (l : Lane) : Lane :=
  { l with rx := l.rx ++ [f], hold := l.hold || l.rx.length + 1 = 24 }

/-- The receive buffer after its oldest frame has left it; the count reaching 8 releases HOLD (R163). -/
def Lane.pop (l : Lane) : Lane :=
  { l with rx := l.rx.tail, hold := l.hold && l.rx.tail.length ≠ 8 }

/-- Place a reply at the tail of the reply list (R165). -/
def Lane.reply (r : Reply) (l : Lane) : Lane := { l with replies := l.replies ++ [r] }

/-- Queue an event. -/
def State.raise (s : State) (e : Event) : State := { s with lane := s.lane.raise s.now e }

/-- Raise a condition. -/
def State.raiseCondition (s : State) (r : CondRaise) : State := { s with lane := s.lane.raiseCondition s.now r }

/-- Let the return direction choose its next frame. -/
def State.chooseReturn (s : State) : State := { s with lane := s.lane.choose s.now }

/-! ## Inputs and results -/

/-- The filtered level of the input is active (log 35: an unsettled input is neither active nor inactive). -/
def State.active (s : State) (i : DIn) : Bool := s.inputs[i].level = some true

/-- The filtered level of the input is inactive. -/
def State.inactive (s : State) (i : DIn) : Bool := s.inputs[i].level = some false

/-- A result is valid when it is not stale: it has been converted and its age is not greater than its input's maximum age (R141,
R26; log 27). -/
def State.fresh (s : State) (i : AIn) : Bool :=
  s.scan.results[i].valid &&
  match s.scan.results[i].convertedAt with
  | some t => s.now - t ≤ s.tables.scan[i].maxAge
  | none => false

/-- The head temperature input of a head (Table 2.5.1). -/
def tempInput (h : Head) : AIn := ⟨h.val, by omega⟩

/-- The sub-tank pressure input of a channel (Table 2.5.1). -/
def pressureInput (c : Channel) : AIn := ⟨c.val + 3, by omega⟩

/-- The ink kind record bound to a channel, or none. -/
def Tables.kindOf (t : Tables) (c : Channel) : Option InkKind := t.channel[c].kind.map fun k => t.ink[k]

/-! ## Slots and map banks -/

/-- The slot refers to its bound generation (R83). -/
def Slot.refers (sl : Slot) (g : Nat) : Bool :=
  sl.gen = some g && (sl.state = .composing || sl.state = .queued || sl.state = .printing)

/-- Some slot refers to the generation. -/
def State.referenced (s : State) (g : Nat) : Bool := s.slots.toList.any (·.refers g)

/-- The Retained bank is emptied when no slot refers to its generation (R83). -/
def State.dropRetained (s : State) : State :=
  { s with maps :=
      match s.maps.retainedGen with
      | none => s.maps
      | some g => if s.referenced g then s.maps else { s.maps with retained := emptyBank, retainedGen := none } }

/-- A slot becomes FREE with all its fields at their FREE values, and its reference ends (R1, R17, R83). -/
def State.freeSlot (s : State) (i : SlotIx) : State := ({ s with slots := setAt s.slots i blankSlot } : State).dropRetained

/-- A COMPOSING slot becomes DAMAGED: its bound generation becomes absent, its slice count is kept (R12, R18). -/
def Slot.damage (sl : Slot) : Slot := { sl with state := .damaged, gen := none }

/-- The entry for a nozzle in a channel's list (R82). -/
def Bank.lookup (b : Bank) (c : Channel) (n : Nat) : Option Substitute :=
  (b.lists[c].find? (fun e => e.dead = n)).map (·.sub)

/-- The bank that answers lookups for a bound generation: Current when it holds that generation, otherwise Retained (R82). -/
def Maps.bankFor (m : Maps) (g : Option Nat) : Bank := if g = some m.currentGen then m.current else m.retained

/-! ## Drop counts -/

/-- Add drops of one size. -/
def Counts.add (c : Counts) (n : Nat) : DropSize → Counts
  | .small => { c with small := c.small + n }
  | .medium => { c with medium := c.medium + n }
  | .large => { c with large := c.large + n }

/-- Each count made no greater than 44,236,800 (R10). -/
def Counts.clip (c : Counts) : Counts := ⟨min c.small 44236800, min c.medium 44236800, min c.large 44236800⟩

/-- The sum of two counts, size by size. -/
def Counts.plus (a b : Counts) : Counts := ⟨a.small + b.small, a.medium + b.medium, a.large + b.large⟩

/-- The drops of all sizes. -/
def Counts.total (c : Counts) : Nat := c.small + c.medium + c.large

end Sys2Proof.Machine
end

