-- ==== Sys2Proof/Machine/Operands.lean ====
section
/-!
DEFINITION. The operands that frames carry: the frame envelope and its check (R162), the bodies of Table 10.10.3, and the coding of
the tables' fields (10.10, Tables 9.1.2 to 9.1.7; log 12).
-/

namespace Sys2Proof.Machine

/-! ## The envelope -/

/-- Check a received frame (R162): LENGTH when its length field is above 12,320 or fewer bytes came than it gives, CHECK when the
frame check fails, otherwise the frame. Bytes beyond the frame check do not belong to the frame. -/
def checkFrame (bytes : List Byte) : Except LaneErrorReason Frame :=
  match bytes with
  | kind :: tag :: l1 :: l0 :: rest =>
    let n := bigEndian [l1, l0]
    if 12320 < n ∨ rest.length < n + 2 then .error .length
    else if frameCheck (kind :: tag :: l1 :: l0 :: rest.take n) = BitVec.ofNat 16 (bigEndian ((rest.drop n).take 2)) then
      .ok ⟨kind, tag, rest.take n⟩
    else .error .check
  | _ => .error .length

/-- The forward frame kinds run from 0x01 to 0x1B (Table 10.10.3). -/
def isForwardKind (k : Byte) : Bool := 1 ≤ k.toNat && k.toNat ≤ 0x1B

/-- A byte as a channel or cartridge slot index. -/
def byteChannel (b : Byte) : Option Channel := if h : b.toNat < 6 then some ⟨b.toNat, h⟩ else none

/-- A byte as a head index. -/
def byteHead (b : Byte) : Option Head := if h : b.toNat < 3 then some ⟨b.toNat, h⟩ else none

/-- A byte as a swath slot index. -/
def byteSlot (b : Byte) : Option SlotIx := if h : b.toNat < 8 then some ⟨b.toNat, h⟩ else none

/-- The set of channels that the low six bits of a number name (Table 10.10.7). -/
def maskChannels (m : Nat) : ChannelSet := Vector.ofFn fun c => m.testBit c.val

/-- The number whose bits name a set of channels. -/
def channelsMask (set : ChannelSet) : Nat :=
  (channels.map fun c => if set[c] then 2 ^ c.val else 0).sum

/-- The channel mask of CHECK NOZZLES: any set bit above bit 5 is out of range, and so is the empty set (R110). -/
def checkMask (b : Byte) : Option ChannelSet := if b.toNat = 0 ∨ 64 ≤ b.toNat then none else some (maskChannels b.toNat)

/-- The conditions by the bits of a condition mask (Table 10.10.7); bit 7 is out of range. -/
def maskConditions (b : Byte) : Option (List Condition) :=
  if 128 ≤ b.toNat then none
  else some ([(0, Condition.laneError), (1, .eventsLost), (2, .sensorStale), (3, .jam), (4, .stationFault), (5, .tagFault),
    (6, .capacity)].filterMap fun p => if b.toNat.testBit p.1 then some p.2 else none)

/-- A direction as a byte: 0 FWD, 1 REV (enumerated values are numbered from 0 in the order the tables list them). -/
def byteDir (b : Byte) : Option PassDir := if b.toNat = 0 then some .fwd else if b.toNat = 1 then some .rev else none

/-- A source as a byte: 0 ROLL 1, 1 ROLL 2, 2 SHEET. -/
def byteSource (b : Byte) : Option Source :=
  if b.toNat = 0 then some .roll1 else if b.toNat = 1 then some .roll2 else if b.toNat = 2 then some .sheet else none

/-! ## SLICE (Table 10.10.7) -/

/-- The parameters and data of a SLICE. -/
structure SliceArgs where
  slot : Nat
  channel : Nat
  first : Nat
  count : Nat
  repeats : Nat
  mask : Nat
  data : List Byte
  deriving DecidableEq, Repr, Inhabited

/-- Read a SLICE body; a body shorter than the 10 bytes of the parameters gives none (R164). -/
def readSlice : List Byte → Option SliceArgs
  | a :: b :: c1 :: c0 :: n :: r1 :: r0 :: m2 :: m1 :: m0 :: data =>
    some ⟨a.toNat, b.toNat, bigEndian [c1, c0], n.toNat, bigEndian [r1, r0], bigEndian [m2, m1, m0], data⟩
  | _ => none

/-- The groups that a group mask names, ascending: bit g names group g. -/
def maskGroups (m : Nat) : List Nat := (List.range 24).filter fun g => m.testBit g

/-! ## Table fields -/

/-- What writing one field gives: stored as it is, stored clamped with the value stored, or refused (R153). -/
inductive FieldWrite (α : Type) where
  | stored (r : α)
  | clamped (r : α) (value : Int)
  | refused
  deriving Repr

/-- A numeric field: a value outside its range is clamped to the nearer end (R153 step 2). -/
def numeric {α : Type} (lo hi v : Int) (put : Int → α) : FieldWrite α :=
  if v < lo then .clamped (put lo) lo else if hi < v then .clamped (put hi) hi else .stored (put v)

/-- An enumerated field: a value outside its set is refused (R153 step 1). -/
def enumerated {α β : Type} (o : Option β) (put : β → α) : FieldWrite α :=
  match o with
  | some b => .stored (put b)
  | none => .refused

/-- A value as an index below n. -/
def intFin (n : Nat) (v : Int) : Option (Fin n) :=
  if 0 ≤ v then (if h : v.toNat < n then some ⟨v.toNat, h⟩ else none) else none

/-- A value as an index below n or none, which is coded −1. -/
def intFinOrNone (n : Nat) (v : Int) : Option (Option (Fin n)) := if v = -1 then some none else (intFin n v).map some

/-- The code of an index or none. -/
def codeOrNone {n : Nat} : Option (Fin n) → Int
  | some i => i.val
  | none => -1

/-- Policies in the order of Table 9.1.3. -/
def intPolicy (v : Int) : Option Policy := if v = 0 then some .partner else if v = 1 then some .shift else if v = 2 then some .suppress else none

/-- The code of a policy. -/
def Policy.code : Policy → Int
  | .partner => 0
  | .shift => 1
  | .suppress => 2

/-- ON, OFF in the order of Table 9.1.5. -/
def intOnOff (v : Int) : Option Bool := if v = 0 then some true else if v = 1 then some false else none

/-- The code of ON or OFF. -/
def onOffCode (b : Bool) : Int := if b then 0 else 1

/-- Scan modes in the order of Table 9.1.6. -/
def intScanMode (v : Int) : Option ScanMode := if v = 0 then some .continuous else if v = 1 then some .triggered else none

/-- The code of a scan mode. -/
def ScanMode.code : ScanMode → Int
  | .continuous => 0
  | .triggered => 1

/-- Filter times in the order of Table 9.1.7: 0, 1, 4, 16 ms. -/
def intFilter (v : Int) : Option Nat :=
  if v = 0 then some 0 else if v = 1 then some 1 else if v = 2 then some 4 else if v = 3 then some 16 else none

/-- The code of a filter time. -/
def filterCode (ms : Nat) : Int := if ms = 0 then 0 else if ms = 1 then 1 else if ms = 4 then 2 else 3

/-- Event edges in the order of Table 9.1.7. -/
def intEdge (v : Int) : Option EventEdge :=
  if v = 0 then some .none else if v = 1 then some .rising else if v = 2 then some .falling else if v = 3 then some .both else none

/-- The code of an event edge. -/
def EventEdge.code : EventEdge → Int
  | .none => 0
  | .rising => 1
  | .falling => 2
  | .both => 3

/-- Stop routings in the order of Table 9.1.7. -/
def intRouting (v : Int) : Option StopRouting :=
  if v = 0 then some .none else if v = 1 then some .rising else if v = 2 then some .falling else none

/-- The code of a stop routing. -/
def StopRouting.code : StopRouting → Int
  | .none => 0
  | .rising => 1
  | .falling => 2

/-- Write one field of an ink kind record, numbered in the order of Table 9.1.2. -/
def InkKind.put (r : InkKind) (field : Nat) (v : Int) : FieldWrite InkKind :=
  match field with
  | 0 => numeric 0 255 v fun x => { r with code := x.toNat }
  | 1 => if 0 ≤ v ∧ v < 64 then .stored { r with accepted := maskChannels v.toNat } else .refused
  | 2 => numeric 10 400 v fun x => { r with vSmall := x.toNat }
  | 3 => numeric 10 400 v fun x => { r with vMedium := x.toNat }
  | 4 => numeric 10 400 v fun x => { r with vLarge := x.toNat }
  | 5 => numeric 0 60 v fun x => { r with coeff := x.toNat }
  | 6 => numeric 40 70 v fun x => { r with headLimit := x }
  | 7 => numeric 1000 60000 v fun x => { r with decapBase := x.toNat }
  | 8 => numeric 4 200 v fun x => { r with spitCount := x.toNat }
  | 9 => numeric 100000 2000000 v fun x => { r with primeVolume := x.toNat }
  | _ => .refused

/-- The fields of an ink kind record in the order of their numbers. -/
def InkKind.fields (r : InkKind) : List Int :=
  [r.code, channelsMask r.accepted, r.vSmall, r.vMedium, r.vLarge, r.coeff, r.headLimit, r.decapBase, r.spitCount, r.primeVolume]

/-- Write one field of a channel record, with its head's reverse shift, numbered in the order of Table 9.1.3 (R152). -/
def ChannelRec.put (r : ChannelRec × Int) (field : Nat) (v : Int) : FieldWrite (ChannelRec × Int) :=
  let c := r.1
  match field with
  | 0 => enumerated (intFinOrNone 16 v) fun x => ({ c with kind := x }, r.2)
  | 1 => enumerated (intPolicy v) fun x => ({ c with policy := x }, r.2)
  | 2 => enumerated (intFinOrNone 6 v) fun x => ({ c with partner := x }, r.2)
  | 3 => numeric 0 8000000 v fun x => ({ c with floor := x.toNat }, r.2)
  | 4 => numeric 0 11500000 v fun x => ({ c with refillTrigger := x.toNat }, r.2)
  | 5 => numeric 5000000 11500000 v fun x => ({ c with refillTarget := x.toNat }, r.2)
  | 6 => numeric 5000000 11500000 v fun x => ({ c with markLevel := x.toNat }, r.2)
  | 7 => numeric 10000 200000 v fun x => ({ c with strokeVolume := x.toNat }, r.2)
  | 8 => numeric (-512) 511 v fun x => ({ c with columnOffset := x }, r.2)
  | 9 => numeric (-64) 63 v fun x => (c, x)
  | 10 => numeric (-20000) 20000 v fun x => ({ c with gateLow := x }, r.2)
  | 11 => numeric (-20000) 20000 v fun x => ({ c with gateHigh := x }, r.2)
  | 12 => numeric (-20000) 20000 v fun x => ({ c with stopLow := x }, r.2)
  | 13 => numeric (-20000) 20000 v fun x => ({ c with stopHigh := x }, r.2)
  | 14 => numeric 0 1000000 v fun x => ({ c with cartLow := x.toNat }, r.2)
  | _ => .refused

/-- The fields of a channel record in the order of their numbers. -/
def ChannelRec.fields (c : ChannelRec) (reverseShift : Int) : List Int :=
  [codeOrNone c.kind, c.policy.code, codeOrNone c.partner, c.floor, c.refillTrigger, c.refillTarget, c.markLevel, c.strokeVolume,
    c.columnOffset, reverseShift, c.gateLow, c.gateHigh, c.stopLow, c.stopHigh, c.cartLow]

/-- Write one field of a media profile, numbered in the order of Table 9.1.4. -/
def Profile.put (r : Profile) (field : Nat) (v : Int) : FieldWrite Profile :=
  match field with
  | 0 => numeric (-20000) 20000 v fun x => { r with calibration := x }
  | 1 => numeric 0 5000 v fun x => { r with skewLimit := x.toNat }
  | 2 => numeric 0 60000 v fun x => { r with dryBase := x.toNat }
  | 3 => numeric 0 1000 v fun x => { r with dryPerUl := x.toNat }
  | 4 => numeric 0 600000 v fun x => { r with dryMax := x.toNat }
  | 5 => numeric (-20) 50 v fun x => { r with cold := x }
  | 6 => numeric 1000 120000 v fun x => { r with wetEdge := x.toNat }
  | _ => .refused

/-- The fields of a media profile in the order of their numbers. -/
def Profile.fields (r : Profile) : List Int := [r.calibration, r.skewLimit, r.dryBase, r.dryPerUl, r.dryMax, r.cold, r.wetEdge]

/-- Write one field of the service record, numbered in the order of Table 9.1.5. -/
def ServiceRec.put (r : ServiceRec) (field : Nat) (v : Int) : FieldWrite ServiceRec :=
  match field with
  | 0 => numeric 10000000 2000000000 v fun x => { r with wipeInterval := x.toNat }
  | 1 => numeric 5000 600000 v fun x => { r with capDelay := x.toNat }
  | 2 => numeric 1 48 v fun x => { r with threshold := x.toNat }
  | 3 => enumerated (intOnOff v) fun x => { r with autoRecovery := x }
  | 4 => enumerated (intOnOff v) fun x => { r with autoCommit := x }
  | 5 => numeric 10 400 v fun x => { r with dryPercent := x.toNat }
  | 6 => numeric 10 400 v fun x => { r with normalPercent := x.toNat }
  | 7 => numeric 10 400 v fun x => { r with dampPercent := x.toNat }
  | 8 => numeric 1000 120000 v fun x => { r with wipeTimeout := x.toNat }
  | 9 => numeric 1000 300000 v fun x => { r with primeTimeout := x.toNat }
  | 10 => numeric 1000 300000 v fun x => { r with checkTimeout := x.toNat }
  | 11 => numeric 1000 60000 v fun x => { r with capTimeout := x.toNat }
  | 12 => numeric 10000 1800000 v fun x => { r with refillTimeout := x.toNat }
  | 13 => numeric 1000 100000 v fun x => { r with markThreshold := x }
  | _ => .refused

/-- The fields of the service record in the order of their numbers. -/
def ServiceRec.fields (r : ServiceRec) : List Int :=
  [r.wipeInterval, r.capDelay, r.threshold, onOffCode r.autoRecovery, onOffCode r.autoCommit, r.dryPercent, r.normalPercent,
    r.dampPercent, r.wipeTimeout, r.primeTimeout, r.checkTimeout, r.capTimeout, r.refillTimeout, r.markThreshold]

/-- Write one field of the scan record of an input, numbered in the order of Table 9.1.6. -/
def ScanRec.put (r : ScanRec) (field : Nat) (v : Int) : FieldWrite ScanRec :=
  match field with
  | 0 => numeric (-65536) 65535 v fun x => { r with gain := x }
  | 1 => numeric (-100000) 100000 v fun x => { r with offset := x }
  | 2 => numeric 50 5000 v fun x => { r with maxAge := x.toNat }
  | _ => .refused

/-- The fields of a scan record in the order of their numbers. -/
def ScanRec.fields (r : ScanRec) : List Int := [r.gain, r.offset, r.maxAge]

/-- Write one field of the mode record, numbered in the order of Table 9.1.6. -/
def ModeRec.put (r : ModeRec) (field : Nat) (v : Int) : FieldWrite ModeRec :=
  match field with
  | 0 => enumerated (intScanMode v) fun x => { r with mode := x }
  | 1 => enumerated (intFin 12 v) fun x => { r with startIn := x }
  | 2 => enumerated (intFin 12 v) fun x => { r with endIn := x }
  | 3 => numeric 10 1000 v fun x => { r with period := x.toNat }
  | _ => .refused

/-- The fields of the mode record in the order of their numbers. -/
def ModeRec.fields (r : ModeRec) : List Int := [r.mode.code, r.startIn.val, r.endIn.val, r.period]

/-- Write one field of an input record, numbered in the order of Table 9.1.7. -/
def InputCfg.put (r : InputCfg) (field : Nat) (v : Int) : FieldWrite InputCfg :=
  match field with
  | 0 => enumerated (intFilter v) fun x => { r with filter := x }
  | 1 => enumerated (intEdge v) fun x => { r with edge := x }
  | 2 => enumerated (intRouting v) fun x => { r with routing := x }
  | _ => .refused

/-- The fields of an input record in the order of their numbers. -/
def InputCfg.fields (r : InputCfg) : List Int := [filterCode r.filter, r.edge.code, r.routing.code]

/-- Write a list of fields into a record, with the fields clamped (field number and value stored); none when one is refused. A field
named twice takes the later value (log 13). -/
def putFields {α : Type} (put : α → Nat → Int → FieldWrite α) : List (Nat × Int) → α → Option (α × List (Nat × Int))
  | [], r => some (r, [])
  | (f, v) :: rest, r =>
    match put r f v with
    | .stored r' => putFields put rest r'
    | .clamped r' x => (putFields put rest r').map fun p => (p.1, (f, x) :: p.2)
    | .refused => none

/-- Read the fields of a TABLE WRITE body to its exact end: each a number (1 byte) and a value (4 bytes, signed). -/
def readFields : Nat → List Byte → Option (List (Nat × Int))
  | 0, [] => some []
  | 0, _ :: _ => none
  | k + 1, f :: a :: b :: c :: d :: rest => (readFields k rest).map fun l => (f.toNat, bigEndianSigned [a, b, c, d]) :: l
  | _ + 1, _ => none

/-- Read a TABLE WRITE body of a loaded table: table, index, a field count 1..32 and the fields. -/
def readTableWrite : List Byte → Option (Nat × Nat × List (Nat × Int))
  | t :: i :: n :: rest => if 1 ≤ n.toNat ∧ n.toNat ≤ 32 then (readFields n.toNat rest).map fun l => (t.toNat, i.toNat, l) else none
  | _ => none

/-- The frame is a TABLE WRITE of the table SUBSTITUTION with the operation: table 6, channel, operation, nozzle (2 bytes). -/
def isSubstitution (op : Nat) (f : Frame) : Bool :=
  f.kind = 0x18#8 &&
  match f.body with
  | [t, _, o, _, _] => t.toNat = 6 && o.toNat = op
  | _ => false

end Sys2Proof.Machine
end

