-- ==== Sys2Proof/Machine/Flags.lean ====
section
/-!
DEFINITION. Flag-like sets: origins of requests, sets of channels, hold reasons; and the kinds of requests.
-/

namespace Sys2Proof.Machine

/-- The union of two sets of origins (R106). -/
def Origins.union (a b : Origins) : Origins :=
  ⟨a.gate || b.gate, a.prime || b.prime, a.ladder || b.ladder, a.supply || b.supply, a.wear || b.wear, a.formatter || b.formatter⟩

/-- No origin is left. -/
def Origins.isEmpty (o : Origins) : Bool := !(o.gate || o.prime || o.ladder || o.supply || o.wear || o.formatter)

/-- The union of two sets of channels. -/
def channelUnion (a b : ChannelSet) : ChannelSet := Vector.zipWith (· || ·) a b

/-- The set of one channel. -/
def channelSingle (c : Channel) : ChannelSet := (Vector.replicate 6 false).set c.val true c.isLt

/-- The greater of two amounts, where present. -/
def maxAmount : Option Nat → Option Nat → Option Nat
  | some a, some b => some (max a b)
  | some a, none => some a
  | none, b => b

/-- The channel of a refill or fill to mark. -/
def StationOp.refillChannel : StationOp → Option Channel
  | .urgentRefill c | .fillToMark c | .refill c => some c
  | _ => none

/-- The refill kind of a refill or fill to mark. -/
def StationOp.refillKind : StationOp → Option RefillKind
  | .urgentRefill _ => some .urgent
  | .fillToMark _ => some .fill
  | .refill _ => some .refill
  | _ => none

/-- The station operation of a refill kind for a channel. -/
def RefillKind.op (k : RefillKind) (c : Channel) : StationOp :=
  match k with
  | .refill => .refill c
  | .urgent => .urgentRefill c
  | .fill => .fillToMark c

/-- The kinds that uncap the heads at their grant from CAPPED: WIPE, PRIME and CHECK (R109). -/
def StationOp.uncaps : StationOp → Bool
  | .prime _ | .wipe _ | .check _ => true
  | _ => false

/-- The kinds that the arbiter grants ahead of the print pass (R25): ranks 1 to 4 of Table 6.4.2. -/
def StationOp.aheadOfPass : StationOp → Bool
  | .urgentRefill _ | .fillToMark _ | .prime _ | .wipe _ | .check _ => true
  | .refill _ | .cap => false

/-- The rank of a kind in Table 6.4.2. -/
def StationOp.rank : StationOp → Nat
  | .urgentRefill _ | .fillToMark _ => 1
  | .prime _ => 2
  | .wipe _ => 3
  | .check _ => 4
  | .refill _ => 6
  | .cap => 7

/-- The number that orders requests within a rank: the lower channel or head first. -/
def StationOp.order : StationOp → Nat
  | .urgentRefill c | .fillToMark c | .prime c | .refill c => c.val
  | .wipe h => h.val
  | .check _ | .cap => 0

/-- The ladder states that perform a step (R114). -/
def LadderState.inStep : LadderState → Bool
  | .wipeCheck | .primeCheck | .prime2Check => true
  | _ => false

/-- The operation of phase OPERATION of a ladder step of a channel (Table 6.5.2). -/
def LadderState.stepOp (st : LadderState) (c : Channel) : Option StationOp :=
  match st with
  | .wipeCheck => some (.wipe (headOf c))
  | .primeCheck | .prime2Check => some (.prime c)
  | _ => none

/-- The state that a failed check leads to (Table 6.5.2). -/
def LadderState.afterFailure : LadderState → LadderState
  | .wipeCheck => .primeCheck
  | .primeCheck => .prime2Check
  | _ => .degraded

/-- No reason holds the entry. -/
def Holds.isEmpty (h : Holds) : Bool :=
  !(h.stop || h.busy || h.media || h.service || h.pressure || h.temperature || h.ink || h.capacity || h.dry)

/-- A cartridge state that can supply its channel (Table 4.1.2). -/
def CartState.canSupply : CartState → Bool
  | .accepted | .low => true
  | _ => false

/-- A cartridge state of an identified cartridge (R73). -/
def CartState.identified : CartState → Bool
  | .accepted | .low | .empty => true
  | _ => false

end Sys2Proof.Machine
end

