-- ==== Sys2Proof/Machine/Maps.lean ====
section
/-!
DEFINITION. The Nozzle Map Unit's operations: resolution, edits of the Next bank, check results and the switch (chapter 5).
-/

namespace Sys2Proof.Machine

/-- The nozzle is listed dead in the bank. -/
def Bank.listed (b : Bank) (c : Channel) (n : Nat) : Bool := b.lists[c].any (fun e => e.dead = n)

/-- Steps (2) and (3) of the chain of R84: the next nozzle, else the one before, else none. -/
def shiftOrSuppress (b : Bank) (c : Channel) (n : Nat) : Substitute :=
  if n + 1 ≤ 767 ∧ b.listed c (n + 1) = false then .shift (n + 1)
  else if 1 ≤ n ∧ b.listed c (n - 1) = false then .shift (n - 1)
  else .suppress

/-- The chain of R84 for nozzle n of channel c; a partner that names c itself is none. -/
def resolve (t : Tables) (b : Bank) (c : Channel) (n : Nat) : Substitute :=
  match t.channel[c].policy, t.channel[c].partner with
  | .suppress, _ => .suppress
  | .shift, _ => shiftOrSuppress b c n
  | .partner, some p => if p ≠ c ∧ b.listed p n = false then .partner p n else shiftOrSuppress b c n
  | .partner, none => shiftOrSuppress b c n

/-- Re-resolve the lists of the channels of a set against the dead nozzles of the bank (R85). -/
def Bank.reResolve (t : Tables) (set : ChannelSet) (b : Bank) : Bank :=
  { b with lists := Vector.ofFn fun c : Fin 6 =>
      if set[c] then b.lists[c].map fun e => { e with sub := resolve t b c e.dead } else b.lists[c] }

/-- The channels whose lists a change of dead sets reaches: those channels and each whose partner is one of them (R85). -/
def Tables.reached (t : Tables) (changed : ChannelSet) : ChannelSet :=
  Vector.ofFn fun d : Fin 6 =>
    changed[d] || match t.channel[d].partner with
      | some p => changed[p]
      | none => false

/-- Insert an entry at the place its dead nozzle takes in ascending order (R81). -/
def insertEntry (e : SubEntry) : List SubEntry → List SubEntry
  | [] => [e]
  | d :: l => if e.dead < d.dead then e :: d :: l else d :: insertEntry e l

/-- Change a channel's list and re-resolve what that reaches (R85). -/
def Bank.editList (t : Tables) (b : Bank) (c : Channel) (l : List SubEntry) : Bank :=
  Bank.reResolve t (t.reached (channelSingle c)) { b with lists := setAt b.lists c l }

/-- ADD of a nozzle in the Next bank with its outcome (R86). -/
def Bank.add (t : Tables) (b : Bank) (c : Channel) (n : Nat) : Bank × ReplyOutcome :=
  if b.listed c n then (b, .done)
  else if 48 ≤ b.lists[c].length then (b, .full)
  else (b.editList t c (insertEntry ⟨n, .suppress⟩ b.lists[c]), .done)

/-- REMOVE of a nozzle in the Next bank (R87). -/
def Bank.remove (t : Tables) (b : Bank) (c : Channel) (n : Nat) : Bank :=
  if b.listed c n then b.editList t c (b.lists[c].filter fun e => e.dead ≠ n) else b

/-- CLEAR of a channel's list and overflow flag in the Next bank (R87). -/
def Bank.clear (t : Tables) (b : Bank) (c : Channel) : Bank :=
  Bank.editList t { b with overflow := setAt b.overflow c false } c []

/-- The nozzles of a channel that a check found dead, ascending (R88). -/
def foundDead (dead : List (Channel × Nat)) (c : Channel) : List Nat := (List.range 768).filter fun n => dead.contains (c, n)

/-- A check's results applied to the Next bank in one step: the lowest 48 nozzles of each checked channel are listed, the overflow
flag says whether there were more, and the lists are re-resolved (R88). -/
def Bank.applyCheck (t : Tables) (b : Bank) (set : ChannelSet) (dead : List (Channel × Nat)) : Bank :=
  Bank.reResolve t (t.reached set)
    { lists := Vector.ofFn fun c : Fin 6 => if set[c] then ((foundDead dead c).take 48).map fun n => ⟨n, .suppress⟩ else b.lists[c]
      overflow := Vector.ofFn fun c : Fin 6 => if set[c] then decide (48 < (foundDead dead c).length) else b.overflow[c] }

/-- The figures handed back for each channel checked (R88). -/
def checkFigures (set : ChannelSet) (dead : List (Channel × Nat)) : Vector (Option CheckFigures) 6 :=
  Vector.ofFn fun c : Fin 6 =>
    if set[c] then
      some ⟨(foundDead dead c).length, min 48 (foundDead dead c).length, decide (48 < (foundDead dead c).length)⟩
    else none

/-- A check has changed the dead nozzles listed in a list of the Next bank, or one of its overflow flags (R90). -/
def Bank.deadChanged (b b' : Bank) : Bool :=
  channels.any fun c => b.lists[c].map (·.dead) ≠ b'.lists[c].map (·.dead) || b.overflow[c] ≠ b'.overflow[c]

/-- The three banks after the switch of R91: Retained takes Current, Current takes Next under the next generation, Next takes a copy,
and the pending flag is cleared. -/
def Maps.switch (m : Maps) : Maps :=
  let gen := (m.currentGen + 1) % 4294967296
  { current := m.next, currentGen := gen
    retained := m.current, retainedGen := some m.currentGen
    next := m.next, nextGen := gen
    commitPending := false }

/-- Some slot refers to the Retained generation. -/
def State.retainedReferenced (s : State) : Bool :=
  match s.maps.retainedGen with
  | some g => s.referenced g
  | none => false

/-- The switch with its MAP COMMITTED event, and the emptying of a Retained bank to which no slot refers (R91, R93; log 31). -/
def State.switchMaps (s : State) : State :=
  let m := s.maps.switch
  let emptied := !s.referenced s.maps.currentGen
  (({ s with maps := m } : State).raise
    (.mapCommitted m.currentGen s.maps.currentGen emptied (Vector.ofFn fun c : Fin 6 => m.current.lists[c].length)
      m.current.overflow)).dropRetained

/-- What an accepted SWATH OPEN offers the map unit: the switch when the commit is pending and Retained is referenced by no slot (R91,
R92). -/
def State.offerCommit (s : State) : State :=
  if s.maps.commitPending && !s.retainedReferenced then s.switchMaps else s

end Sys2Proof.Machine
end

