-- ==== Sys2Proof/Machine/Requests.lean ====
section
/-!
DEFINITION. The station arbiter's pending requests (R106, R107) and the recovery ladders (R113 to R116).
-/

namespace Sys2Proof.Machine

/-! ## Pending requests -/

/-- Two requests match (R106): the refills and the fill to mark of one channel, the PRIMEs of one channel, the WIPEs of one head, any
two CHECKs, any two CAPs. -/
def StationOp.matches : StationOp → StationOp → Bool
  | .prime c, .prime d => c = d
  | .wipe h, .wipe g => h = g
  | .check _, .check _ => true
  | .cap, .cap => true
  | a, b =>
    match a.refillChannel, b.refillChannel with
    | some c, some d => c = d
    | _, _ => false

/-- The kind of two matching requests merged (R106): FILL TO MARK over URGENT REFILL over REFILL, the union of two CHECK sets. -/
def StationOp.merge : StationOp → StationOp → StationOp
  | .check a, .check b => .check (channelUnion a b)
  | .fillToMark c, _ => .fillToMark c
  | _, .fillToMark c => .fillToMark c
  | .urgentRefill c, _ => .urgentRefill c
  | _, b => b

/-- Two matching requests merged, with the union of the origins and the greater required amount, which a FILL TO MARK has none of
(R106). -/
def Request.merge (old new : Request) : Request :=
  let op := old.op.merge new.op
  { op := op
    amount := match op with
      | .urgentRefill _ => maxAmount old.amount new.amount
      | _ => none
    origins := old.origins.union new.origins }

/-- Place a request among the pending ones, merged into the one it matches (R106). -/
def addRequest (r : Request) : List Request → List Request
  | [] => [r]
  | p :: ps => if p.op.matches r.op then p.merge r :: ps else p :: addRequest r ps

/-- Place a request with the arbiter. -/
def State.place (s : State) (op : StationOp) (amount : Option Nat) (origins : Origins) : State :=
  { s with service := { s.service with pending := addRequest ⟨op, amount, origins⟩ s.service.pending } }

/-- Withdraw the pending requests of a kind and target (R107). -/
def State.withdraw (s : State) (p : StationOp → Bool) : State :=
  { s with service := { s.service with pending := s.service.pending.filter fun r => !p r.op } }

/-- The operation in flight, if the carriage is held by one. -/
def Service.inFlight (v : Service) : Option OpInFlight :=
  match v.holder with
  | .op o => some o
  | _ => none

/-- The carriage is given back: its holder becomes FREE and idle since records the time (R105, R109). -/
def State.freeCarriage (s : State) : State :=
  { s with service := { s.service with holder := .free, idleSince := s.now, uncapInFlight := false } }

/-- The carriage position becomes UNDOCKED. -/
def State.undock (s : State) : State := { s with service := { s.service with docked := false } }

/-- The last-fire stamps of the groups of a set become the time; a stamp is never moved back (R97). -/
def stampGroups (now : Nat) (set : GroupSet) (stamps : Vector Nat 24) : Vector Nat 24 :=
  Vector.zipWith (fun fired t => if fired then max t now else t) set stamps

/-- Stamp the groups of each channel with the present time (R97). -/
def State.stamp (s : State) (sets : Vector GroupSet 6) : State :=
  { s with service := { s.service with stamps := Vector.zipWith (stampGroups s.now) sets s.service.stamps } }

/-- An uncap: the cap state becomes UNCAPPED and every group of every channel is stamped (R97, R103). -/
def State.uncap (s : State) : State :=
  let s' := s.stamp (Vector.replicate 6 allGroups)
  { s' with service := { s'.service with capped := false, uncapInFlight := false } }

/-! ## Recovery ladders -/

/-- The LADDER event of a ladder (R113). -/
def Ladder.event (c : Channel) (l : Ladder) : Event := .ladder c l.state l.phase l.baseline l.last l.suspStep l.cause

/-- A step state of channel c asks for the request (Table 6.5.2): the operation of its phase OPERATION, or a CHECK of the channel. -/
def LadderState.asks (st : LadderState) (c : Channel) (op : StationOp) : Bool :=
  st.inStep && (st.stepOp c = some op || match op with
    | .check set => set[c]
    | _ => false)

/-- Some ladder's step state asks for the request. -/
def Service.asked (v : Service) (op : StationOp) : Bool := channels.any fun d => v.ladders[d].state.asks d op

/-- LADDER removed from the origins of a request; a request left with no origin is withdrawn (R107). -/
def Request.withoutLadder (r : Request) : Option Request :=
  let o := { r.origins with ladder := false }
  if o.isEmpty then none else some { r with origins := o }

/-- LADDER leaves the origins of the requests of some kinds and targets, unless a ladder asks for them (R107; log 21). -/
def State.dropLadder (s : State) (named : StationOp → Bool) : State :=
  { s with service := { s.service with pending := s.service.pending.filterMap fun r =>
      if r.origins.ladder && (named r.op) && !(s.service.asked r.op) then r.withoutLadder else some r } }

/-- When channel c's ladder leaves a step state, LADDER leaves the origins of the requests that state asked for (R107). -/
def State.dropAsked (s : State) (c : Channel) (old : LadderState) : State := s.dropLadder (LadderState.asks old c)

/-- The requests that a ladder of channel c may place in some step: a WIPE of its head, its PRIME, a CHECK of it (Table 6.5.2). -/
def StationOp.ofLadder (op : StationOp) (c : Channel) : Bool :=
  match op with
  | .wipe h => h = headOf c
  | .prime d => d = c
  | .check set => set[c]
  | _ => false

/-- Write a ladder record; a change of its state or phase queues one LADDER event (R113), and a state left drops what it asked for
(R107). -/
def State.setLadder (s : State) (c : Channel) (l : Ladder) : State :=
  let old := s.service.ladders[c]
  let s1 : State := { s with service := { s.service with ladders := setAt s.service.ladders c l } }
  let s2 := if old.state ≠ l.state ∨ old.phase ≠ l.phase then s1.raise (l.event c) else s1
  if old.state ≠ l.state then s2.dropAsked c old.state else s2

/-- The origin LADDER alone. -/
def byLadder : Origins := { ladder := true }

/-- Place what a ladder step's phase calls for, with origin LADDER: its operation, or a CHECK of the channel (R114). -/
def State.placeStep (s : State) (c : Channel) (st : LadderState) (ph : LadderPhase) : State :=
  match ph, st.stepOp c with
  | .operation, some op => s.place op none byLadder
  | .operation, none => s
  | .check, _ => s.place (.check (channelSingle c)) none byLadder

/-- A ladder enters a state that performs a step, in phase OPERATION, or DEGRADED (R113, R114). -/
def State.enterStep (s : State) (c : Channel) (l : Ladder) (st : LadderState) : State :=
  let ph := if st.inStep then some LadderPhase.operation else none
  let s' := s.setLadder c { l with state := st, phase := ph, suspStep := none, suspPhase := none, cause := none }
  if st.inStep then s'.placeStep c st .operation else s'

/-- The completion of an operation that serves channel c's step in one of the states moves its ladder to phase CHECK (R114). -/
def State.serveLadder (s : State) (states : List LadderState) (c : Channel) : State :=
  let l := s.service.ladders[c]
  if states.contains l.state && l.phase = some .operation then
    (s.setLadder c { l with phase := some .check }).placeStep c l.state .check
  else s

/-- A completed check decides a step when it finds no overflow and at most baseline + threshold − 1 nozzles (R114). -/
def checkSucceeds (l : Ladder) (threshold : Nat) (f : CheckFigures) : Bool := !f.overflow && f.found < l.baseline + threshold

/-- A ladder takes the result of a completed check of its channel (R113, R114, R115, R116). A check that RESET LADDER found in flight finds
the ladder NORMAL and makes the entry test of R113 (log 57). -/
def State.ladderResult (s : State) (c : Channel) (f : CheckFigures) : State :=
  let l := { s.service.ladders[c] with last := f.found }
  let t := s.tables.service
  match l.state with
  | .normal =>
    if t.autoRecovery && (l.baseline + t.threshold ≤ f.found || f.overflow) then s.enterStep c l .wipeCheck
    else s.setLadder c { l with baseline := min l.baseline f.found }
  | .degraded | .suspended => s.setLadder c l
  | st =>
    if l.phase = some .check then
      if checkSucceeds l t.threshold f then s.setLadder c { l with state := .normal, phase := none, baseline := f.found }
      else s.enterStep c l st.afterFailure
    else s.setLadder c l

/-- A ladder in a step suspends with a cause, keeping the step and phase it left (R115). -/
def State.suspendLadder (s : State) (c : Channel) (cause : SuspendCause) : State :=
  let l := s.service.ladders[c]
  if l.state.inStep then
    s.setLadder c
      { l with state := .suspended, phase := none, suspStep := some l.state, suspPhase := l.phase, cause := some cause }
  else s

/-- A ladder SUSPENDED with cause STARVED returns to its step and phase and places that phase's operation again (R115). -/
def State.resumeLadder (s : State) (c : Channel) : State :=
  let l := s.service.ladders[c]
  match l.state, l.cause, l.suspStep, l.suspPhase with
  | .suspended, some .starved, some st, some ph =>
    (s.setLadder c { l with state := st, phase := some ph, suspStep := none, suspPhase := none, cause := none }).placeStep c st ph
  | _, _, _, _ => s

/-- ENGINE RESET makes a ladder in a step or suspended NORMAL with its baseline unchanged; DEGRADED stays (R113). -/
def State.resetLadder (s : State) (c : Channel) : State :=
  let l := s.service.ladders[c]
  if l.state.inStep || l.state = .suspended then
    s.setLadder c { l with state := .normal, phase := none, suspStep := none, suspPhase := none, cause := none }
  else s

end Sys2Proof.Machine
end

