-- ==== Sys2Proof/Machine/SupplyOps.lean ====
section
/-!
DEFINITION. The Supply Controller's operations: supply states, requests that pass through it, cartridge states, refills, tag
transactions and lamps (chapter 4).
-/

namespace Sys2Proof.Machine

/-! ## Supply states and requests -/

/-- The first entry of Table 4.1.2 whose condition holds. -/
def State.formedSupply (s : State) (c : Channel) : SupplyState :=
  let r := s.supply[c]
  let a := s.accounts[c]
  if r.faultMark then .fault
  else if r.refill.isSome then .filling
  else if r.need.isSome then .starved
  else if a.known = false then .unknown
  else if a.level < s.tables.channel[c].refillTrigger + a.reserved then .low
  else .ready

/-- The channel's cartridge can supply it (Table 4.1.2). -/
def State.canSupply (s : State) (c : Channel) : Bool := s.carts[c].state.canSupply

/-- The origin SUPPLY alone. -/
def bySupply : Origins := { supply := true }

/-- Form the supply state again; a change queues one SUPPLY STATE event (R58), a channel that leaves STARVED resumes its ladder
(R115), and one that becomes LOW places a non-urgent REFILL where the cartridge can supply (R59). -/
def State.reformSupply (s : State) (c : Channel) : State :=
  let old := s.supply[c].state
  let st := s.formedSupply c
  if st = old then s
  else
    let a := s.accounts[c]
    let s1 := ({ s with supply := modifyAt s.supply c fun r => { r with state := st } } : State).raise
      (.supplyState c st a.level a.known a.reserved)
    let s2 := if old = .starved then s1.resumeLadder c else s1
    if st = .low ∧ s2.canSupply c then s2.place (.refill c) none bySupply else s2

/-- Record an ink need; one already recorded keeps the greater amount and takes the union of the origins, and FILL TO MARK stays
(R60 step 4). -/
def Need.join (old : Option Need) (new : Need) : Need :=
  match old with
  | none => new
  | some o => ⟨if o.kind = .fill then .fill else new.kind, maxAmount o.amount new.amount, o.origins.union new.origins⟩

/-- Record an ink need for a channel. -/
def State.recordNeed (s : State) (c : Channel) (n : Need) : State :=
  { s with supply := modifyAt s.supply c fun r => { r with need := some (Need.join r.need n) } }

/-- A refill or fill to mark request passes through the supply controller (R60): dropped under the fault mark, turned into FILL TO MARK
where the level is not known, placed where the cartridge can supply, otherwise an ink need when the gate or a prime asked. -/
def State.requestRefill (s : State) (c : Channel) (kind : RefillKind) (amount : Option Nat) (origins : Origins) : State :=
  if s.supply[c].faultMark && !(kind = .fill && origins.formatter) then s
  else
    let kind' : RefillKind := if s.accounts[c].known then kind else .fill
    if s.canSupply c then s.place (kind'.op c) (if kind' = RefillKind.urgent then amount else none) origins
    else if kind' ≠ RefillKind.refill && (origins.gate || origins.prime) then s.recordNeed c ⟨kind', amount, origins⟩
    else s

/-- The pending refill or fill to mark of a channel whose cartridge ceases to be able to supply is handed back (R107): an ink need when
its origins hold GATE or PRIME, otherwise dropped. -/
def State.handBack (s : State) (c : Channel) : State :=
  let mine := s.service.pending.filter fun r => r.op.refillChannel = some c
  let s1 := s.withdraw fun op => op.refillChannel = some c
  mine.foldl (fun t r => t.requestRefill c (r.op.refillKind.getD .refill) r.amount r.origins) s1

/-- The channel's cartridge becomes able to supply: a recorded need becomes a pending request (R61), and R59 places a FILL TO MARK
where the level is not known, or a REFILL where the channel is LOW. -/
def State.cartridgeAble (s : State) (c : Channel) : State :=
  let s1 := match s.supply[c].need with
    | some n =>
      (({ s with supply := modifyAt s.supply c fun r => { r with need := none } } : State).place (n.kind.op c)
        (if n.kind = .urgent then n.amount else none) n.origins).reformSupply c
    | none => s
  if s1.supply[c].faultMark then s1
  else if s1.accounts[c].known = false then s1.place (.fillToMark c) none bySupply
  else if s1.supply[c].state = SupplyState.low then s1.place (.refill c) none bySupply
  else s1

/-- What R59 calls for in the present state; ENGINE RESET places it once more. -/
def State.replaceSupplyRequests (s : State) (c : Channel) : State :=
  if s.supply[c].faultMark || !s.canSupply c then s
  else if s.accounts[c].known = false then s.place (.fillToMark c) none bySupply
  else if s.supply[c].state = .low then s.place (.refill c) none bySupply
  else s

/-- The fault mark is set: the ink need becomes absent (R61) and the channel's pending refills whose origins do not hold FORMATTER are
withdrawn (R107). -/
def State.setFaultMark (s : State) (c : Channel) : State :=
  { s with
    supply := modifyAt s.supply c fun r => { r with faultMark := true, need := none }
    service := { s.service with pending := s.service.pending.filter fun r =>
      !(r.op.refillChannel = some c && !r.origins.formatter) } }

/-! ## Cartridges -/

/-- The CARTRIDGE STATE event of a slot. -/
def Cartridge.event (c : Channel) (r : Cartridge) : Event :=
  .cartridgeState c r.state r.reject r.serial r.kind r.capacity r.remaining

/-- Write a cartridge slot record, with its event where the rule queues one, and what a change of its ability to supply brings (R59,
R61, R107). -/
def State.setCart (s : State) (c : Channel) (r : Cartridge) (report : Bool) : State :=
  let was := s.canSupply c
  let s1 : State := { s with carts := setAt s.carts c r }
  let s2 := if report then s1.raise (r.event c) else s1
  if was && !r.state.canSupply then s2.handBack c
  else if !was && r.state.canSupply then s2.cartridgeAble c
  else s2

/-- The state of an identified cartridge from its remaining and the channel's record (R73). -/
def formedCart (t : ChannelRec) (remaining : Nat) : CartState :=
  if remaining < t.strokeVolume then .empty else if remaining < t.cartLow * 1000 then .low else .accepted

/-- Form an identified cartridge's state again; a change queues CARTRIDGE STATE (R73). -/
def State.reformCart (s : State) (c : Channel) : State :=
  let r := s.carts[c]
  let st := formedCart s.tables.channel[c] r.remaining
  if r.state.identified && r.state ≠ st then s.setCart c { r with state := st } true else s

/-- Add a deduction to the unsynced-deduction record: added to one of the same serial, replacing one of another (R70, R75). -/
def addUnsynced (serial amount : Nat) (old : Option Unsynced) : Option Unsynced :=
  match old with
  | some u => if u.serial = serial then some ⟨serial, u.amount + amount⟩ else some ⟨serial, amount⟩
  | none => some ⟨serial, amount⟩

/-- The deduction owed becomes the unsynced-deduction record where the serial is known (R70, R75). -/
def Cartridge.keepOwed (r : Cartridge) : Cartridge :=
  match r.serial with
  | some ser => if 0 < r.owed then { r with unsynced := addUnsynced ser r.owed r.unsynced, owed := 0 } else r
  | none => r

/-- A refill's drawn volume with the tag carry turned into µL owed (R74). -/
def State.formDeduction (s : State) (c : Channel) (drawn : Nat) : State :=
  { s with carts := modifyAt s.carts c fun r =>
      { r with owed := r.owed + (drawn + r.tagCarry) / 1000, tagCarry := (drawn + r.tagCarry) % 1000 } }

/-- Whenever a deduction is owed, the cartridge is identified and the link is idle, DEDUCT is sent, at most 65,535 µL (R74). -/
def Cartridge.sendOwed (now : Nat) (r : Cartridge) : Cartridge :=
  if 0 < r.owed && r.state.identified && r.link.isNone then { r with link := some (.deduct (min r.owed 65535), now + 20) } else r

/-! ## Refills -/

/-- A refill's record serves the tag deduction and is removed, the valve is closed and the station freed (R64). Where the
station drive is stopped too, log 69 gives the order. -/
def State.closeRefill (s : State) (c : Channel) (k : Refill) : State :=
  let s1 := s.formDeduction c k.drawn
  ({ s1 with
    supply := modifyAt s1.supply c fun r => { r with refill := none }
    out := { s1.out with station := .closeValve c } } : State).freeCarriage

/-- REFILL DONE of a refill (R64). -/
def State.refillDone (s : State) (c : Channel) (k : Refill) (reason : RefillEnd) : State :=
  s.raise (.refillDone c k.kind reason k.strokes k.drawn s.accounts[c].level s.accounts[c].known)

/-- The refill ends without a fault: it is closed, REFILL DONE is queued and the supply state is formed again (R64). -/
def State.endRefill (s : State) (c : Channel) (k : Refill) (reason : RefillEnd) : State :=
  ((s.closeRefill c k).refillDone c k reason).reformSupply c

/-- The refill ends with REFILL FAULT: the fault mark is set, STATION FAULT is raised, and the rest is as for any end (R66, R67). That
REFILL FAULT is queued first, then CONDITION, then SUPPLY STATE is the model's choice (log 65). -/
def State.faultRefill (s : State) (c : Channel) (k : Refill) (reason : RefillFaultReason) : State :=
  (((((s.closeRefill c k).setFaultMark c).raise
    (.refillFault c k.kind reason k.strokes k.drawn s.accounts[c].level)).raiseCondition
    (.stationFault (k.kind.op c))).reformSupply c)

/-- The check before a stroke, and the stroke's beginning (R63, R66; log 30). -/
def State.beginStroke (s : State) (c : Channel) : State :=
  match s.supply[c].refill with
  | none => s
  | some k =>
    let r := s.carts[c]
    if !r.state.identified then s.endRefill c k .cartridgeFault
    else if r.state = .empty || r.remaining < k.strokeVolume then
      (if r.state = .empty then s else s.setCart c { r with state := .empty } true).endRefill c k .cartridgeEmpty
    else if k.kind = .fill && (k.limit.getD 0 ≤ k.strokes || 12000000 < s.accounts[c].level + k.strokeVolume) then
      s.faultRefill c k .strokeLimit
    else if k.kind = .fill && !s.fresh 9 then s.faultRefill c k .pressureStale
    else
      { s with
        supply := modifyAt s.supply c fun q => { q with refill := some { k with inStroke := true, markSeen := false } }
        out := { s.out with station := .stroke c } }

/-- The refill record written at a grant (R62): the mark level, stroke volume, floor and refill target that stand then are those of the whole
refill, as R62, R65, R79 and R156 say; R56, which credits under the conditions of that chapter, speaks of those that stand at the stroke and at the
detection (log 50). -/
def newRefill (t : ChannelRec) (reserved : Nat) (kind : RefillKind) (amount : Option Nat) : Refill where
  kind := kind
  target := match kind with
    | .fill => none
    | .refill => some (min t.refillTarget t.markLevel)
    | .urgent => some (min (max t.refillTarget (t.floor + reserved + amount.getD 0)) t.markLevel)
  limit := if kind = .fill then some ((t.markLevel + t.strokeVolume - 1) / t.strokeVolume + 8) else none
  strokes := 0
  drawn := 0
  inStroke := false
  markSeen := false
  markLevel := t.markLevel
  strokeVolume := t.strokeVolume
  floor := t.floor
  refillTarget := t.refillTarget

/-- The target of a refill is reached (R64); a FILL TO MARK has none. -/
def Refill.reached (k : Refill) (level : Nat) : Bool :=
  match k.target with
  | some t => t ≤ level
  | none => false

/-- A granted refill: the record is written, a FILL TO MARK of an unknown level counts from 0, the channel becomes FILLING, a target
already reached ends it at once, and with the carriage docked the first stroke is begun (R62, R64; log 17). -/
def State.startRefill (s : State) (c : Channel) (kind : RefillKind) (amount : Option Nat) : State :=
  let k := newRefill s.tables.channel[c] s.accounts[c].reserved kind amount
  let s1 : State := { s with
    accounts := if kind = .fill ∧ s.accounts[c].known = false then modifyAt s.accounts c fun a => { a with level := 0 } else s.accounts
    supply := modifyAt s.supply c fun q => { q with refill := some k } }
  let s2 := s1.reformSupply c
  if k.reached s2.accounts[c].level then s2.endRefill c k .target
  else if s2.service.docked then s2.beginStroke c else s2

/-- A mark detection: the level becomes the mark level, the known flag yes, a FILL TO MARK clears the fault mark, the refill ends with
MARK, and MARK DRIFT reports the difference (R56, R65; log 34). -/
def State.markDetected (s : State) (c : Channel) (k : Refill) : State :=
  let a := s.accounts[c]
  let s1 : State := { s with
    accounts := modifyAt s.accounts c fun a => { a with level := k.markLevel, known := true }
    supply := modifyAt s.supply c fun q => { q with faultMark := if k.kind = .fill then false else q.faultMark } }
  ((((s1.closeRefill c k).refillDone c k .mark).raise
    (.markDrift c a.level k.markLevel ((a.level : Int) - k.markLevel) a.known)).reformSupply c)

/-- A completed stroke (R63): the level is credited and the cartridge charged with the stroke volume of the grant (log 50), its
remaining not below 0 (log 55), the cartridge state is formed again, and the refill ends at the mark or the target, or goes on to the
next stroke. -/
def State.strokeDone (s : State) (c : Channel) (k : Refill) : State :=
  let k' := { k with strokes := k.strokes + 1, drawn := k.drawn + k.strokeVolume, inStroke := false }
  let s1 : State := { s with
    accounts := modifyAt s.accounts c fun a => { a with level := a.level + k.strokeVolume }
    carts := modifyAt s.carts c fun r => { r with remaining := r.remaining - k.strokeVolume }
    supply := modifyAt s.supply c fun q => { q with refill := some k' } }
  let s2 := s1.reformCart c
  if k.markSeen then s2.markDetected c k'
  else if k'.reached s2.accounts[c].level then s2.endRefill c k' .target
  else s2.beginStroke c

/-! ## The tag link -/

/-- A tag fault (R70): the cartridge becomes TAG FAULT, what is owed is kept in the unsynced-deduction record, the condition is raised and
CARTRIDGE STATE is queued, in that order (R167). A reject reason becomes absent (log 54). -/
def State.tagFaults (s : State) (c : Channel) : State :=
  (s.raiseCondition (.tagFault c)).setCart c { (s.carts[c]).keepOwed with state := .tagFault, link := none, reject := none } true

/-- Insertion handling begins: the slot becomes READING and READ is sent (R71, R76); a reject reason becomes absent (log 54). -/
def State.beginInsertion (s : State) (c : Channel) : State :=
  s.setCart c { s.carts[c] with state := .reading, reject := none, link := some (.read, s.now + 20) } false

/-- The first ink kind record that holds a code (R72). -/
def Tables.findCode (t : Tables) (code : Nat) : Option (Fin 16) := (List.finRange 16).find? fun i => t.ink[i].code = code

/-- Why a cartridge with a code is rejected in slot c, if it is (R72). -/
def Tables.rejects (t : Tables) (c : Channel) (code : Nat) : Option RejectReason :=
  match t.findCode code with
  | none => some .unknownInk
  | some k =>
    if t.ink[k].accepted[c] = false then some .wrongSlot
    else if t.channel[c].kind ≠ some k then some .mismatch
    else none

/-- Identification (R72): the cartridge is REJECTED with a reason, or keeps its tag's data and takes the state of R73. -/
def State.identify (s : State) (c : Channel) (i : TagInfo) : State :=
  let r := s.carts[c]
  match s.tables.rejects c i.code with
  | some why =>
    s.setCart c { r with state := .rejected, reject := some why, serial := some i.serial, kind := s.tables.findCode i.code,
                         tagCarry := 0, owed := 0, link := none } true
  | none =>
    s.setCart c { r with state := formedCart s.tables.channel[c] (i.remaining * 1000), reject := none, serial := some i.serial,
                         kind := s.tables.findCode i.code, capacity := some i.capacity, remaining := i.remaining * 1000,
                         link := none } true

/-- A READ of insertion handling has succeeded (R71): an unsynced record of the same serial is paid first, one of another is discarded;
a remaining above the capacity is a tag fault. -/
def State.readSucceeds (s : State) (c : Channel) (i : TagInfo) : State :=
  let r := s.carts[c]
  if i.capacity < i.remaining then s.tagFaults c
  else
    match r.unsynced with
    | some u =>
      if u.serial = i.serial then
        { s with carts := setAt s.carts c { r with link := some (.insertDeduct (min u.amount 65535) i, s.now + 20) } }
      else ({ s with carts := setAt s.carts c { r with unsynced := none } } : State).identify c i
    | none => s.identify c i

/-- A DEDUCT of insertion handling has succeeded (R71): the record's amount falls by what was sent; at 0 it becomes absent and the
answer stands as the tag's remaining, otherwise the next DEDUCT is sent. -/
def State.insertDeductSucceeds (s : State) (c : Channel) (amount : Nat) (i : TagInfo) (remaining : Nat) : State :=
  let r := s.carts[c]
  let i' := { i with remaining := remaining }
  match r.unsynced with
  | some u =>
    if u.amount ≤ amount then ({ s with carts := setAt s.carts c { r with unsynced := none } } : State).identify c i'
    else
      { s with carts := setAt s.carts c { r with
          unsynced := some ⟨u.serial, u.amount - amount⟩
          link := some (.insertDeduct (min (u.amount - amount) 65535) i', s.now + 20) } }
  | none => s.identify c i'

/-- A cartridge is removed (R75): the transaction and a refill of the channel end, what is owed is kept unsynced, the record is cleared
and the slot becomes ABSENT; a reject reason becomes absent with it (log 54). -/
def State.removeCartridge (s : State) (c : Channel) : State :=
  let s1 : State := { s with carts := modifyAt s.carts c fun r => { r with link := none } }
  let s2 := match s1.supply[c].refill with
    | some k => s1.endRefill c k .cartridgeRemoved
    | none => s1
  let r := (s2.carts[c]).keepOwed
  s2.setCart c { r with state := .absent, reject := none, serial := none, kind := none, capacity := none, remaining := 0,
                        tagCarry := 0, owed := 0, link := none } true

/-! ## Lamps -/

/-- The first pattern of Table 4.6.1 whose condition holds. -/
def lampPattern (cart : CartState) (supply : SupplyState) : LampPattern :=
  match cart with
  | .rejected | .tagFault => .fast
  | .absent | .empty => .steady
  | .low => if supply = .starved then .steady else .slow
  | .accepted | .reading => if supply = .starved then .steady else .off

/-- Half of the period of a blinking pattern, in ms (Table 4.6.1). -/
def LampPattern.half : LampPattern → Option Nat
  | .fast => some 200
  | .slow => some 800
  | .off | .steady => none

/-- A lamp that enters a pattern begins with its on period; one that stays keeps its phase (R77). -/
def Lamp.enter (now : Nat) (p : LampPattern) (l : Lamp) : Lamp :=
  if l.pattern = p then l else ⟨p, p ≠ .off, p.half.map (now + ·)⟩

/-- Form every lamp pattern again (R77). -/
def State.reformLamps (s : State) : State :=
  { s with lamps := Vector.ofFn fun c : Fin 6 => (s.lamps[c]).enter s.now (lampPattern s.carts[c].state s.supply[c].state) }

end Sys2Proof.Machine
end

