-- ==== Sys2Proof/Machine/InkOps.lean ====
section
/-!
DEFINITION. The Ink Accounting Unit: the drop-volume computation, estimates, debits and the level's limits (chapter 3).
-/

namespace Sys2Proof.Machine

/-- A head temperature clamped to 5..70 °C (R46). -/
def clampTemp (t : Int) : Int := max 5 (min 70 t)

/-- The first stage: the volume sum V in tenths of a picolitre (R45). -/
def volumeSum (vS vM vL : Nat) (n : Counts) (spit : Nat) : Nat := n.small * vS + n.medium * vM + n.large * vL + spit * vL

/-- The second stage: the temperature factor F = 10,000 + k·(T − 25), T clamped (R46). -/
def tempFactor (k : Nat) (t : Int) : Nat := (10000 + (k : Int) * (clampTemp t - 25)).toNat

/-- The third stage: the product P = V·F in units of 10⁻⁵ pL (R47). -/
def dropProduct (vS vM vL k : Nat) (t : Int) (n : Counts) (spit : Nat) : Nat := volumeSum vS vM vL n spit * tempFactor k t

/-- The fourth stage: the estimate, P rounded up to whole nanolitres (R48). -/
def estimateOf (p : Nat) : Nat := (p + 99999999) / 100000000

/-- The fifth stage: the debit in nL and the new carry (R49). -/
def debitOf (p carry : Nat) : Nat × Nat := ((p + carry) / 100000000, (p + carry) % 100000000)

/-- A debit charged to an account (R55): a debit above the level takes it to 0 and the known flag to no. -/
def Account.charge (a : Account) (d : Nat) : Account :=
  if d ≤ a.level then { a with level := a.level - d } else { a with level := 0, known := false }

/-- Write a channel's account; an account that loses its known level forms the supply state again and places a FILL TO MARK (R55,
R59). -/
def State.setAccount (s : State) (c : Channel) (a : Account) : State :=
  let lost := s.accounts[c].known && !a.known
  let s1 := ({ s with accounts := setAt s.accounts c a } : State).reformSupply c
  if lost then s1.requestRefill c .fill none bySupply else s1

/-- Charge a debit by drops: its carry and its nanolitres (R49, R55). -/
def State.chargeDrops (s : State) (c : Channel) (p : Nat) : State :=
  let d := debitOf p s.accounts[c].carry
  s.setAccount c (({ s.accounts[c] with carry := d.2 } : Account).charge d.1)

/-- The temperature of a service debit: the head's present result, or 70 °C when it is stale (R46, R53). -/
def State.serviceTemp (s : State) (h : Head) : Int := if s.fresh (tempInput h) then s.scan.results[tempInput h].value else 70

/-- The product of station drops of a channel at the present binding and temperature; none for a channel bound to no ink (R53). -/
def State.serviceProduct (s : State) (c : Channel) (n : Counts) : Option Nat :=
  (s.tables.kindOf c).map fun k => dropProduct k.vSmall k.vMedium k.vLarge k.coeff (s.serviceTemp (headOf c)) n 0

/-- Charge a channel the drops that a station operation fired for it (R53). -/
def State.chargeService (s : State) (c : Channel) (n : Counts) : State :=
  if n.total = 0 then s
  else match s.serviceProduct c n with
    | some p => s.chargeDrops c p
    | none => s

/-- Charge a channel the prime volume of a purge that was begun, directly in nL (R54). -/
def State.chargePurge (s : State) (c : Channel) (volume : Nat) : State := s.setAccount c (s.accounts[c].charge volume)

/-- The release record of a channel with estimate e (R50); for a channel bound to no ink, whose volumes and coefficient no rule gives, they
are 0 (log 51). -/
def releaseRecord (kind : Option InkKind) (temp : Int) (e : Nat) : ReleaseRec :=
  match kind with
  | some k => ⟨e, temp, k.vSmall, k.vMedium, k.vLarge, k.coeff⟩
  | none => ⟨e, temp, 0, 0, 0, 0⟩

/-- Reserve the estimate of a channel at release (R50). -/
def Account.reserve (a : Account) (r : ReleaseRec) : Account := { a with reserved := a.reserved + r.estimate, release := some r }

/-- The debit of a pass for an account and its new carry: the output counts at the values of the release record (R51). -/
def Account.passDebit (a : Account) (n : Counts) : Nat × Nat :=
  match a.release with
  | some r => debitOf (dropProduct r.vSmall r.vMedium r.vLarge r.coeff r.temp n 0) a.carry
  | none => (0, a.carry)

/-- The account after a pass has ended: debited, the reservation removed, the release record absent (R51). -/
def Account.settle (a : Account) (n : Counts) : Account :=
  let d := a.passDebit n
  let e := match a.release with
    | some r => r.estimate
    | none => 0
  { ({ a with carry := d.2 } : Account).charge d.1 with reserved := a.reserved - e, release := none }

end Sys2Proof.Machine
end

