-- ==== Sys2Proof/Machine/StationOps.lean ====
section
/-!
DEFINITION. The station: what an operation fires and charges, its ends, the automatic WIPE and CAP, and what a grant begins (6.3, 6.4).
-/

namespace Sys2Proof.Machine

/-! ## What an operation fires (R53, R99 to R102) -/

/-- The spit count of each channel's ink kind as the tables stand; 0 for a channel bound to none, which fires no spit. -/
def Tables.spitCounts (t : Tables) : Vector Nat 6 := Vector.ofFn fun c : Fin 6 => ((t.kindOf c).map (·.spitCount)).getD 0

/-- The burst that an operation fires in each group of a channel: 32 × spit count large drops for the post-wipe spit, 8 medium drops from
each of 32 nozzles for a check (R53). -/
def StationOp.burst (spit : Vector Nat 6) (op : StationOp) (c : Channel) : Counts :=
  match op with
  | .wipe h => if headOf c = h then ⟨0, 0, 32 * spit[c]⟩ else Counts.zero
  | .prime d => if headOf c = headOf d then ⟨0, 0, 32 * spit[c]⟩ else Counts.zero
  | .check set => if set[c] then ⟨0, 256, 0⟩ else Counts.zero
  | _ => Counts.zero

/-- A burst fired n times over. -/
def Counts.times (n : Nat) (b : Counts) : Counts := ⟨n * b.small, n * b.medium, n * b.large⟩

/-- At most n drops of a burst, which has one size. -/
def Counts.upTo (n : Nat) (b : Counts) : Counts := ⟨min n b.small, min n b.medium, min n b.large⟩

/-- How far an operation came when it has completed: every group of every channel. -/
def wholeProgress : Config.StationProgress := ⟨Vector.replicate 6 allGroups, Vector.replicate 6 0⟩

/-- The groups of a channel whose burst was fired whole. -/
def StationOp.firedGroups (spit : Vector Nat 6) (op : StationOp) (p : Config.StationProgress) (c : Channel) : GroupSet :=
  if (op.burst spit c).total = 0 then noGroups else p.groups[c]

/-- The drops an operation has fired for a channel: its whole bursts, and less than one burst more while a group remains (R53). -/
def StationOp.firedDrops (spit : Vector Nat 6) (op : StationOp) (p : Config.StationProgress) (c : Channel) : Counts :=
  let b := op.burst spit c
  let n := GroupSet.size p.groups[c]
  (b.times n).plus (if n < 24 then b.upTo (min p.extra[c] (b.total - 1)) else Counts.zero)

/-- Charge and stamp what an operation did: a purge begun, first (R54), the drops fired for each channel (R53), and the stamps of the
groups whose burst was fired (R97); the channels in ascending order (log 66). -/
def State.opCharged (s : State) (o : OpInFlight) (p : Config.StationProgress) : State :=
  let s1 := match o.req.op, o.purge with
    | .prime c, some v => s.chargePurge c v
    | _, _ => s
  let s2 := channels.foldl (fun t c => t.chargeService c (o.req.op.firedDrops o.spit p c)) s1
  s2.stamp (Vector.ofFn fun c : Fin 6 => o.req.op.firedGroups o.spit p c)

/-- An operation ended before its completion is charged and stamped for what it did, which is a free value (R111, R112; log 18); one
whose sequence has not begun did nothing. -/
def State.opInterrupted (s : State) (o : OpInFlight) : State :=
  if o.running && o.req.op.uncaps then
    ({ s with freeCount := s.freeCount + 1 } : State).opCharged o (Config.stationProgress s.freeCount)
  else s

/-- The operations that end with a post-wipe spit: WIPE and PRIME (R53). -/
def StationOp.spits : StationOp → Bool
  | .wipe _ | .prime _ => true
  | _ => false

/-- A table write may change the spit counts under a running WIPE or PRIME: they enter the next spit fired (R155), and a spit begun before
keeps the drops it fires (R53). No step reports the beginning of the spit, so whether it has begun is a free value (log 60). -/
def State.respit (s : State) : State :=
  match s.service.inFlight with
  | some o =>
    if o.running && o.req.op.spits && !o.spat && decide (o.spit ≠ s.tables.spitCounts) then
      let begun := Config.spitBegun s.freeCount
      { s with
        freeCount := s.freeCount + 1
        service := { s.service with
          holder := .op { o with spat := begun, spit := if begun then o.spit else s.tables.spitCounts } } }
    else s
  | none => s

/-! ## Drops since wipe and the automatic requests (R104, R105) -/

/-- The origin WEAR alone. -/
def byWear : Origins := { wear := true }

/-- A WIPE of the head is pending or in flight. -/
def Service.wipeAsked (v : Service) (h : Head) : Bool :=
  v.pending.any (fun r => r.op = .wipe h) || match v.inFlight with
    | some o => o.req.op = .wipe h
    | none => false

/-- The test of R104 for a head. -/
def State.wearTest (s : State) (h : Head) : State :=
  if s.tables.service.wipeInterval ≤ s.service.drops[h] && !s.service.wipeAsked h && !s.lane.conditions.stationFault then
    s.place (.wipe h) none byWear
  else s

/-- The test of R104 for every head. -/
def State.wearTests (s : State) : State := (([0, 1, 2] : List Head).foldl State.wearTest) s

/-- Add output drops to a head's drops since wipe, which stay at 4,294,967,295 once there, and make the test (R104). -/
def State.addDrops (s : State) (h : Head) (n : Nat) : State :=
  ({ s with service := { s.service with drops := modifyAt s.service.drops h fun d => min (d + n) 4294967295 } } : State).wearTest h

/-- A head has been wiped (R100, R101). -/
def State.wiped (s : State) (h : Head) : State :=
  { s with service := { s.service with drops := setAt s.service.drops h 0 } }

/-- When the cap delay ends: from the later of idle since and the last withdrawal of a CAP (R105). -/
def State.capDueAt (s : State) : Nat :=
  max s.service.idleSince (s.service.capWithdrawnAt.getD 0) + s.tables.service.capDelay

/-- The test of R105. -/
def State.capTest (s : State) : State :=
  if !s.service.capped && s.service.holder = .free && !s.lane.conditions.stationFault && s.capDueAt ≤ s.now then
    s.place .cap none byWear
  else s

/-! ## Ends of an operation (R109 to R112) -/

/-- A CAP that ends before it is done leaves the heads UNCAPPED (R103). -/
def State.capLost (s : State) (op : StationOp) : State :=
  if op = .cap then { s with service := { s.service with capped := false } } else s

/-- The ladder waits in its present phase on an operation of the kind and target (R114). -/
def Ladder.waitsOn (l : Ladder) (c : Channel) (op : StationOp) : Bool :=
  match l.phase, op with
  | some .operation, _ => l.state.stepOp c = some op
  | some .check, .check set => set[c]
  | _, _ => false

/-- An operation that ended by a fault or a timeout suspends the ladders whose step it was (R115; log 22), in ascending channel order
(log 66). -/
def State.suspendWaiting (s : State) (req : Request) : State :=
  if req.origins.ladder then
    channels.foldl (fun t c => if (t.service.ladders[c]).waitsOn c req.op then t.suspendLadder c .fault else t) s
  else s

/-- A refill in flight of a station operation ends without a fault; another operation leaves the supply records. -/
def State.endRefillOf (s : State) (op : StationOp) (reason : RefillEnd) : State :=
  match op.refillChannel with
  | some c =>
    match s.supply[c].refill with
    | some k => s.endRefill c k reason
    | none => s
  | none => s

/-- A refill in flight of a station operation ends with REFILL FAULT (R67). -/
def State.faultRefillOf (s : State) (op : StationOp) (reason : RefillFaultReason) : State :=
  match op.refillChannel with
  | some c =>
    match s.supply[c].refill with
    | some k => s.faultRefill c k reason
    | none => s
  | none => s

/-- The station drive is commanded to stop. -/
def State.stopStation (s : State) : State := { s with out := { s.out with station := .stop } }

/-- An operation in flight ends by a fault or a timeout (R111, R67); the station drive is stopped before a refill's valve is closed (log
69). -/
def State.failOp (s : State) (o : OpInFlight) (timeout : Bool) : State :=
  let s1 := ((s.opInterrupted o).stopStation.faultRefillOf o.req.op (if timeout then .timeout else .station)).capLost o.req.op
  let s2 := (s1.freeCarriage.undock).raise
    (.stationFailed o.req.op (if timeout then .timeout else .fault) (some (s.now - o.grantedAt)))
  (s2.raiseCondition (.stationFault o.req.op)).suspendWaiting o.req

/-- An operation in flight ends because the engine stops: charged and stamped for what it did, a refill ending with the reason, the
carriage free and UNDOCKED (R112, R68); the station drive is stopped before the valve is closed (log 69). -/
def State.haltOp (s : State) (o : OpInFlight) (reason : RefillEnd) : State :=
  let s1 := (((s.opInterrupted o).stopStation.endRefillOf o.req.op reason).capLost o.req.op).freeCarriage.undock
  { s1 with out := { s1.out with carriage := .stop } }

/-- Place a request again (R112); a refill passes through the supply controller (R68, R106). -/
def State.replaceRequest (s : State) (r : Request) : State :=
  match r.op.refillChannel, r.op.refillKind with
  | some c, some k => s.requestRefill c k r.amount r.origins
  | _, _ => s.place r.op r.amount r.origins

/-- The stop latch ends an operation in flight, whose request is placed again (R112). -/
def State.stopOp (s : State) : State :=
  match s.service.inFlight with
  | some o => (s.haltOp o .stopped).replaceRequest o.req
  | none => s

/-- ENGINE RESET ends an operation in flight (R96, R112). -/
def State.abandonOp (s : State) : State :=
  match s.service.inFlight with
  | some o => s.haltOp o .abandoned
  | none => s

/-- A completed operation gives the carriage back, docked as it stands (R109). -/
def State.opDone (s : State) : State := s.freeCarriage

/-! ## Grants (R101, R108, R109) -/

/-- The operation timeout of a kind (R111). -/
def StationOp.timeout (t : ServiceRec) : StationOp → Nat
  | .urgentRefill _ | .fillToMark _ | .refill _ => t.refillTimeout
  | .prime _ => t.primeTimeout
  | .wipe _ => t.wipeTimeout
  | .check _ => t.checkTimeout
  | .cap => t.capTimeout

/-- The sequence of the operation in flight runs, the carriage being docked: the heads uncap where they must, a PRIME's purge begins and
a refill's first stroke is checked (R109, R103, R63; log 17, 19). -/
def State.beginSequence (s : State) (o : OpInFlight) : State :=
  let purge := match o.req.op with
    | .prime c => (s.tables.kindOf c).map (·.primeVolume)
    | _ => none
  let s1 : State := { s with
    service := { s.service with holder := .op { o with running := true, purge := purge, spit := s.tables.spitCounts } }
    out := { s.out with station := .run o.req.op } }
  let s2 := if o.req.op.uncaps && s1.service.capped then s1.uncap else s1
  match o.req.op.refillChannel with
  | some c => s2.beginStroke c
  | none => s2

/-- A station request is granted (R109): it leaves the pending requests and becomes the operation in flight, timed from now; the carriage
is commanded to dock, or the sequence runs at once where it is docked (log 20). A refill's record is written (R62). -/
def State.grantOp (s : State) (r : Request) : State :=
  let o : OpInFlight := ⟨r, s.now, s.now + r.op.timeout s.tables.service, false, none, s.tables.spitCounts, false⟩
  let s1 : State := { s with service := { s.service with
    pending := s.service.pending.filter fun q => q ≠ r
    holder := .op o
    uncapInFlight := r.op.uncaps && s.service.capped && !s.service.docked } }
  let s2 : State := if s.service.docked then s1 else { s1 with out := { s1.out with carriage := .dock } }
  match r.op.refillChannel, r.op.refillKind with
  | some c, some k =>
    if s.service.docked then
      ({ s2 with service := { s2.service with holder := .op { o with running := true } } } : State).startRefill c k r.amount
    else s2.startRefill c k r.amount
  | _, _ => if s.service.docked then s2.beginSequence o else s2

/-- The test that a PRIME is granted by (R101). -/
def State.primeFits (s : State) (c : Channel) : Bool :=
  match s.tables.kindOf c with
  | some k => s.accounts[c].known && s.tables.channel[c].floor + k.primeVolume ≤ s.accounts[c].level
  | none => false

/-- Why a failed PRIME is withdrawn, if it is, as the cause with which its ladder suspends (R101, R115): STARVED before every other cause
(log 36). -/
def State.primeLost (s : State) (c : Channel) : Option SuspendCause :=
  if s.supply[c].state = .starved then some .starved
  else match s.tables.kindOf c with
  | none => some .fault
  | some k =>
    if s.supply[c].state = .fault then some .fault
    else if s.tables.channel[c].markLevel < s.tables.channel[c].floor + k.primeVolume then some .fault
    else none

/-- The origin PRIME alone. -/
def byPrime : Origins := { prime := true }

/-- A pending PRIME fails its test at an arbitration: an urgent REFILL is sent, and the PRIME is withdrawn with STATION FAILED reason NO
INK where no refill can make it grantable, suspending its ladder (R101, R111, R115). -/
def State.primeFails (s : State) (c : Channel) (origins : Origins) : State :=
  let s1 := match s.tables.kindOf c with
    | some k => (s.requestRefill c .urgent (some k.primeVolume) byPrime).reformSupply c
    | none => s
  match s1.primeLost c with
  | none => s1
  | some cause =>
    let s2 := (s1.withdraw fun op => op = .prime c).raise (.stationFailed (.prime c) .noInk none)
    let l := s2.service.ladders[c]
    if origins.ladder && l.waitsOn c (.prime c) then s2.suspendLadder c cause else s2

/-- A pending request of rank 1 exists. -/
def Service.refillFirst (v : Service) : Bool := v.pending.any fun r => r.op.rank = 1

/-- The arbiter tests the pending PRIMEs in their order, when nothing of rank 1 is pending, until one is grantable or a refill has been
placed (R101, R108). A PRIME that passes the level test of R101 is grantable in STARVED and FAULT too, and where
floor and prime volume exceed the mark level (log 56). -/
def State.arbitratePrimes : List Channel → State → State
  | [], s => s
  | c :: cs, s =>
    if s.service.refillFirst then s
    else match s.service.pending.find? (fun r => r.op = .prime c) with
      | none => State.arbitratePrimes cs s
      | some r => if s.primeFits c then s else State.arbitratePrimes cs (s.primeFails c r.origins)

/-- A pending request is grantable unless it is a PRIME that fails its test (R108). -/
def State.grantable (s : State) (r : Request) : Bool :=
  match r.op with
  | .prime c => s.primeFits c
  | _ => true

/-- One request goes before another: by the rank of Table 6.4.2, then by the lower channel or head. -/
def Request.before (a b : Request) : Bool := a.op.rank < b.op.rank || (a.op.rank = b.op.rank && a.op.order < b.op.order)

/-- The first grantable request in the order of Table 6.4.2, the print pass apart. -/
def State.firstRequest (s : State) : Option Request :=
  (s.service.pending.filter s.grantable).foldl
    (fun best r => match best with
      | none => some r
      | some b => if r.before b then some r else some b) none

/-- The arbiter may grant (R108): the carriage holder is FREE, no pass is PRINTING and the stop latch is clear. -/
def State.mayGrant (s : State) : Bool := s.service.holder = .free && s.pass.isNone && !s.stop.set

end Sys2Proof.Machine
end

