-- ==== Sys2Proof/Machine/FeedOps.lean ====
section
/-!
DEFINITION. The Media Feed Unit: path states, motions, advances, tail events, cuts, ejects, unloads and jams (chapter 7).
-/

namespace Sys2Proof.Machine

/-- The remaining counts: tail position − feed position in TAIL OUT, 0 when negative; absent in every other state (7.1, R117). After a SHORT
completion within the settle band they may be 1 or 2 by this, where R125 says 0 (log 59). -/
def Feed.remaining (f : Feed) : Option Nat :=
  match f.path, f.tail, f.pos with
  | .tailOut, some t, some p => some (t - p)
  | _, _, _ => none

/-- The MEDIA STATE event of a feed record; the jam cause is carried in JAMMED (R117). -/
def Feed.event (f : Feed) : Event :=
  .mediaState f.path f.source f.profile f.pos f.remaining (if f.path = .jammed then f.jam else none)

/-- Write the feed record; a change of the media path state queues one MEDIA STATE event (R117). -/
def State.setFeed (s : State) (f : Feed) : State :=
  let s1 : State := { s with feed := f }
  if s.feed.path ≠ f.path then s1.raise f.event else s1

/-- A load, a cut, an eject or an unload is reported to the gate: the wet-edge timer becomes absent (R39). -/
def State.sheetEnds (s : State) : State := { s with wetEdge := none }

/-- The kind of a motion. -/
def MotionWork.kind : MotionWork → MotionKind
  | .load .. => .load
  | .advance .. => .advance
  | .cut .. => .cut
  | .eject _ => .eject
  | .unload _ => .unload

/-- The feed motor drive is commanded. -/
def State.driveFeed (s : State) (c : FeedCmd) : State := { s with out := { s.out with feed := c } }

/-- The cutter drive is commanded. -/
def State.driveCutter (s : State) (c : CutterCmd) : State := { s with out := { s.out with cutter := c } }

/-! ## Goals and the settle rule (R122) -/

/-- How far the measured position stands from the position at which the motion comes to rest by the settle rule, where it has one: the
target of an advance, or the tail position once stopped there (R125); the later edge of a load (R119); 133,334 counts beyond the
trailing edge for an eject (R131), and 20,000 counts back for an unload (R133). -/
def Feed.offTarget (f : Feed) (m : Motion) : Option Int :=
  match m.work with
  | .advance _ _ short =>
    match f.pos, if short then f.tail else f.target with
    | some p, some g => some ((p : Int) - g)
    | _, _ => none
  | .load .toRest _ (some a) (some b) _ => some (m.count - max a b)
  | .eject (some t) => some (m.count - (t + 133334))
  | .unload (some t) => some (m.count - (t - 20000))
  | _ => none

/-- The motion stands within its settle band of 2 counts either side (R122). -/
def Feed.inBand (f : Feed) (m : Motion) : Bool :=
  match f.offTarget m with
  | some d => decide (-2 ≤ d ∧ d ≤ 2)
  | none => false

/-- The stall time of R123 is held, or measured on from where it was held: the time it was held is not measured (log 37). -/
def Motion.hold (now : Nat) (held : Bool) (m : Motion) : Motion :=
  if held then { m with heldAt := some (m.heldAt.getD now) }
  else { m with progressAt := m.progressAt + (now - m.heldAt.getD now), heldAt := none }

/-- The stall time is not measured: the motion is paused, or an advance stands within its settle band (R123). -/
def Feed.stallHeld (f : Feed) (m : Motion) : Bool := m.paused || (m.work.kind = .advance && f.inBand m)

/-- Measure the settle band again, a move out of it restarting the 20 ms (R122), and hold the stall time or measure it on (R123). -/
def Feed.reband (now : Nat) (f : Feed) : Feed :=
  { f with motion := f.motion.map fun m =>
      let m' : Motion := { m with inBandSince := if f.inBand m then some (m.inBandSince.getD now) else none }
      m'.hold now (f.stallHeld m) }

/-- The motion, not paused, has stayed within its settle band for 20 ms (R122); the 20 ms run on in a pause (log 72). -/
def Motion.settled (now : Nat) (m : Motion) : Bool :=
  !m.paused && match m.inBandSince with
    | some t => t + 20 ≤ now
    | none => false

/-- The direction in which the feed motor is driven for a motion; none for a cut and where a motion stands at its goal. -/
def Feed.direction (f : Feed) (m : Motion) : FeedCmd :=
  let toward : FeedCmd := match f.offTarget m with
    | some d => if d < 0 then .forward else if 0 < d then .back else .stop
    | none => .stop
  match m.work with
  | .advance .. => toward
  | .load .clearing .. => .back
  | .load .retry .. => .back
  | .load .forward .. => .forward
  | .load .toRest .. => toward
  | .cut .. => .stop
  | .eject none => .forward
  | .eject (some _) => toward
  | .unload none => .back
  | .unload (some _) => toward

/-- The feed motor drive is commanded for the motion in flight, or stopped where there is none or it is paused (R135). -/
def State.redrive (s : State) : State :=
  match s.feed.motion with
  | some m => s.driveFeed (if m.paused then .stop else s.feed.direction m)
  | none => s.driveFeed .stop

/-- A motion that starts now. -/
def newMotion (now : Nat) (w : MotionWork) (o : Owner) : Motion := ⟨w, o, false, 0, none, now, none⟩

/-! ## The head entry of a motion -/

/-- The ACTIVE entry of an ended motion with owner ENTRY is removed from the queue (R23). -/
def State.dropEntry (s : State) (o : Owner) : State := if o = .entry then { s with queue := s.queue.tail } else s

/-- The head entry's counts remaining follow the feed (R122). -/
def State.trackEntry (s : State) : State :=
  match s.feed.motion, s.queue, s.feed.pos, s.feed.target with
  | some ⟨.advance .., .entry, _, _, _, _, _⟩, ⟨.advance d n _ r, ph⟩ :: rest, some p, some t =>
    { s with queue := ⟨.advance d n (some (t - p)) r, ph⟩ :: rest }
  | _, _, _, _ => s

/-! ## Jams -/

/-- The media path jams: the motion ends, the feed and cutter stop, the condition JAM is raised and an ENTRY's entry is removed (R123,
R130, R131, R133). -/
def State.jam (s : State) (cause : JamCause) : State :=
  match s.feed.motion with
  | none => s
  | some m =>
    let s1 := s.setFeed { s.feed with path := .jammed, motion := none, jam := some cause }
    let s2 := if m.work.kind = .cut then s1.driveCutter .stop else s1.driveFeed .stop
    (s2.raiseCondition (.jam cause)).dropEntry m.owner

/-! ## Media gone -/

/-- The record once the media is out: path EMPTY; source, profile, positions, roll remaining and jam cause absent, residue 0, window
empty, no motion (R131, R133, R134). -/
def Feed.cleared (f : Feed) : Feed :=
  { f with path := .empty, source := none, profile := none, pos := none, target := none, residue := 0, tail := none,
           rollRemaining := none, window := [], motion := none, jam := none }

/-- The media is out: the record is cleared and the gate told (R131, R133, R134). -/
def State.mediaOut (s : State) : State := ((s.setFeed s.feed.cleared).driveFeed .stop).sheetEnds

/-! ## Tail events (R124) -/

/-- The roll end input of the engaged roll, DI3 or DI4. -/
def Source.rollEnd : Source → Option DIn
  | .roll1 => some 3
  | .roll2 => some 4
  | .sheet => none

/-- A tail event's condition stands: DI2 is inactive, or the engaged roll's end input is active (R124). -/
def State.tailSeen (s : State) : Bool :=
  s.inactive 2 || match s.feed.source.bind Source.rollEnd with
    | some i => s.active i
    | none => false

/-- The path becomes TAIL OUT with the tail position 28,000 counts beyond the feed position (R124). -/
def State.tailOut (s : State) : State :=
  s.setFeed { s.feed with path := .tailOut, tail := s.feed.pos.map (· + 28000) }

/-- In READY a standing tail condition makes the path TAIL OUT (R124). -/
def State.checkTail (s : State) : State := if s.feed.path = .ready && s.tailSeen then s.tailOut else s

/-! ## Loads (R118 to R120) -/

/-- A new attempt of a load begins: back-feeding while either leading-edge sensor is active, else forward (R119). -/
def State.beginAttempt (s : State) (m : Motion) (skew : Option Nat) : Motion :=
  { m with
    work := .load (if s.active 0 || s.active 1 then .clearing else .forward) m.count none none skew
    inBandSince := none }

/-- A load fails: the feed stops, LOAD FAILED is queued, the path becomes EMPTY and source, profile and roll remaining absent (R119). -/
def State.loadFails (s : State) (reason : LoadFailReason) : State :=
  match s.feed.motion with
  | some ⟨.load _ _ _ _ skew, _, _, _, _, _, _⟩ =>
    ((s.raise (.loadFailed s.feed.source s.feed.profile reason s.feed.attempt skew)).setFeed
      { s.feed with path := .empty, source := none, profile := none, rollRemaining := none, motion := none }).driveFeed .stop
  | _ => s

/-- The skew of a difference of edge counts in µm per metre (R120). -/
def skewOf (a b : Int) : Nat := (a - b).natAbs * 1500000 / 914400

/-- The later edge has been brought to rest: ALIGNING, the skew is judged, and the load succeeds or back-feeds for a retry (R120). -/
def State.loadRests (s : State) : State :=
  match s.feed.motion with
  | some m =>
    match m.work with
    | .load .toRest _ (some a) (some b) _ =>
      let skew := skewOf a b
      let limit := match s.feed.profile with
        | some p => s.tables.profile[p].skewLimit
        | none => 0
      let s1 := s.setFeed { s.feed with path := .aligning }
      if skew ≤ limit then
        ((s1.setFeed { s1.feed with path := .ready, pos := some 0, target := some 0, tail := none, motion := none }).driveFeed
          .stop).checkTail
      else
        let m' : Motion := { m with
          work := .load .retry m.count none none (some skew) }
        ({ s1 with feed := ({ s1.feed with motion := some m' } : Feed).reband s.now } : State).redrive
    | _ => s
  | none => s

/-- The back-feed after a failed skew check has moved 33,334 counts: the load fails at its third attempt, otherwise a new attempt begins
in LOADING (R120). -/
def State.retryDone (s : State) : State :=
  match s.feed.motion with
  | some m =>
    match m.work with
    | .load .retry _ _ _ skew =>
      if 3 ≤ s.feed.attempt then s.loadFails .skew
      else
        (s.setFeed { s.feed with path := .loading, attempt := s.feed.attempt + 1, motion := some (s.beginAttempt m skew) }).redrive
    | _ => s
  | none => s

/-- A leading-edge sensor's level has changed during a load: an edge is recorded in the forward feed, and the back-feed that clears the
sensors ends when both are inactive (R119), in a paused load too (log 67). -/
def State.loadSensor (s : State) (left : Bool) (level : Bool) : State :=
  match s.feed.motion with
  | some m =>
    match m.work with
    | .load .forward st e0 e1 skew =>
      if level then
        let e0' := if left then some (e0.getD m.count) else e0
        let e1' := if left then e1 else some (e1.getD m.count)
        let ph := if e0'.isSome && e1'.isSome then LoadPhase.toRest else .forward
        let f := { s.feed with motion := some { m with work := .load ph st e0' e1' skew } }
        ({ s with feed := f.reband s.now } : State).redrive
      else s
    | .load .clearing _ _ _ skew =>
      if level = false && !s.active 0 && !s.active 1 then
        ({ s with feed := { s.feed with motion := some (s.beginAttempt m skew) } } : State).redrive
      else s
    | _ => s
  | none => s

/-! ## Advances (R121 to R126) -/

/-- The counts N and the new residue of an advance (R121). -/
def advanceCounts (d : Nat) (calibration : Int) (residue : Nat) : Nat × Nat :=
  let x := ((d : Int) * 2 * (1000000 + calibration) + residue).toNat
  (x / 3000000, x % 3000000)

/-- The calibration of the bound profile. -/
def State.calibration (s : State) : Int :=
  match s.feed.profile with
  | some p => s.tables.profile[p].calibration
  | none => 0

/-- The counts and the residue that an advance would take if started now (R30, R121). -/
def State.advanceFigures (s : State) (d : Nat) : Nat × Nat := advanceCounts d s.calibration s.feed.residue

/-- Roll remaining falls by an advance's distance, and ROLL LOW is queued when it first falls below 1,000,000 µm (R126). -/
def State.useRoll (s : State) (d : Nat) : State :=
  match s.feed.rollRemaining with
  | none => s
  | some r =>
    let low := r - d < 1000000 && !s.feed.rollLow
    let s1 : State := { s with feed := { s.feed with rollRemaining := some (r - d), rollLow := s.feed.rollLow || low } }
    if low then s1.raise (.rollLow s.feed.source (r - d)) else s1

/-- An advance completes: at its target, or SHORT with MEDIA SHORT and the tail position as its target (R122, R125). -/
def State.advanceDone (s : State) : State :=
  match s.feed.motion with
  | some ⟨.advance d n short, owner, _, _, _, _, _⟩ =>
    let s1 : State := { s with feed := { s.feed with motion := none, target := if short then s.feed.tail else s.feed.target } }
    let rest := s.feed.target.getD 0 - s.feed.pos.getD 0
    ((if short then s1.raise (.mediaShort .short d n rest) else s1).driveFeed .stop).dropEntry owner
  | _ => s

/-- An advance of distance d starts for the head entry (R30, R121, R126): residue, target, the entry's counts and phase, roll remaining
and the motion; one of 0 counts settles at once. A target that would pass 4,294,967,295 is cut there (log 61). -/
def State.startAdvance (s : State) (d : Nat) (short : Bool) (rest : List Entry) : State :=
  let (n, residue) := s.advanceFigures d
  let f := { s.feed with
    residue := residue
    target := s.feed.target.map fun t => min (t + n) 4294967295
    motion := some (newMotion s.now (.advance d n false) .entry) }
  let s1 := ({ s with queue := ⟨.advance d (some n) (some n) short, .active⟩ :: rest, feed := f.reband s.now } : State).useRoll d
  if n = 0 then s1.advanceDone else s1.redrive

/-- The feed has moved: an advance whose feed reaches the tail position short of its target stops there (R125). -/
def Feed.stopAtTail (f : Feed) : Feed :=
  match f.motion with
  | some m =>
    match m.work, f.path, f.tail, f.target, f.pos with
    | .advance d n false, .tailOut, some t, some g, some p =>
      if t ≤ p && t < g then { f with motion := some { m with work := .advance d n true } } else f
    | _, _, _, _, _ => f
  | none => f

/-- The feed position follows the encoder, within 0..4,294,967,295; in JAMMED it is kept (R122, R123; log 23). -/
def Feed.move (f : Feed) (delta : Int) : Feed :=
  if f.path = .jammed then f
  else { f with pos := f.pos.map fun p => min ((p : Int) + delta).toNat 4294967295 }

/-- The encoder reports counts for the motion in flight: its count moves, and a move in the commanded direction is progress (R123). -/
def Feed.moveMotion (now : Nat) (f : Feed) (delta : Int) : Feed :=
  { f with motion := f.motion.map fun m =>
      let forward := !m.paused && match f.direction m with
        | .forward => decide (0 < delta)
        | .back => decide (delta < 0)
        | .stop => false
      { m with
        count := m.count + delta
        progressAt := if forward then now else m.progressAt
        heldAt := if forward then m.heldAt.map fun _ => now else m.heldAt } }

/-! ## Cuts (R129, R130) -/

/-- The cutter state that DI8 gives an idle cutter. -/
def State.idleCutter (s : State) : CutterState := if s.active 8 then .home else .away

/-- A cut begins from its beginning with a new 4,000 ms (R129, R135). -/
def State.driveCut (s : State) (m : Motion) : State :=
  ({ s with feed := { s.feed with
      cutter := .cutting, motion := some { m with work := .cut (s.now + 4000) false, paused := false } } } : State).driveCutter .across

/-- A CUT entry starts with a roll engaged (R129). -/
def State.startCut (s : State) (rest : List Entry) : State :=
  let s1 := ({ s with queue := ⟨.cut, .active⟩ :: rest } : State).setFeed { s.feed with path := .cutting, beforeCut := s.feed.path }
  s1.driveCut (newMotion s.now (.cut 0 false) .entry)

/-- A cut completes (R129): the cut line is feed position 0, the residue is 0 and the window empty, the path returns to what it was with
its tail position lowered by the feed position replaced, and CUT DONE is queued. -/
def State.cutDone (s : State) (m : Motion) : State :=
  let f := s.feed
  let s1 := s.setFeed { f with
    cutter := .home
    path := f.beforeCut
    pos := some 0, target := some 0, residue := 0, window := [], motion := none
    tail := f.tail.map fun t => t - f.pos.getD 0 }
  ((s1.checkTail.sheetEnds).raise (.cutDone .cut f.source f.rollRemaining)).dropEntry m.owner

/-- A cut has failed, or its return home has (R130, R135): JAMMED with cause CUTTER, the cutter state from DI8. -/
def State.cutFails (s : State) : State :=
  ({ s with feed := { s.feed with cutter := s.idleCutter } } : State).jam .cutter

/-- DI8 has changed. A cut whose cutter comes home within its 4,000 ms completes (R129), one whose cutter comes home later has failed by R130,
whether CUT TIMEOUT has been taken or not; so has a return home of a paused cut that comes late (R135). -/
def State.cutterSensor (s : State) (level : Bool) : State :=
  match s.feed.motion with
  | some m =>
    match m.work, m.paused with
    | .cut failAt left, false =>
      if level = false then { s with feed := { s.feed with motion := some { m with work := .cut failAt true } } }
      else if left then (if s.now ≤ failAt then s.cutDone m else s.cutFails) else s
    | .cut failAt _, true =>
      if level && s.feed.cutter = .returning && failAt < s.now then s.cutFails
      else if level then { s with feed := { s.feed with cutter := .home } }
      else if s.feed.cutter = .home then { s with feed := { s.feed with cutter := .away } }
      else s
    | _, _ => { s with feed := { s.feed with cutter := s.idleCutter } }
  | none => { s with feed := { s.feed with cutter := s.idleCutter } }

/-! ## Ejects and unloads (R131, R133) -/

/-- An eject begins (R131). -/
def State.startEject (s : State) (o : Owner) : State :=
  let m := newMotion s.now (.eject (if s.inactive 2 then some 0 else none)) o
  let f := { s.feed with path := .ejecting, pos := none, target := none, motion := some m }
  (s.setFeed (f.reband s.now)).redrive

/-- An eject comes to rest: the media is out; CUT DONE for one begun by a CUT entry (R131, R136). -/
def State.ejectDone (s : State) (m : Motion) : State :=
  let s1 := s.mediaOut
  (if m.owner = .request then s1 else s1.raise (.cutDone .eject s.feed.source s.feed.rollRemaining)).dropEntry m.owner

/-- An unload begins (R133). -/
def State.startUnload (s : State) : State :=
  let m := newMotion s.now (.unload (if s.inactive 2 then some 0 else none)) .request
  let f := { s.feed with path := .unloading, pos := none, target := none, motion := some m }
  (s.setFeed (f.reband s.now)).redrive

/-- DI2 has become inactive (R117, R124, R131, R133), in a paused eject or unload too (log 67). -/
def State.pathSensorClears (s : State) : State :=
  match s.feed.path, s.feed.motion with
  | .ready, _ => s.checkTail
  | .held, _ => s.setFeed { s.feed with path := .empty }
  | .ejecting, some m =>
    match m.work with
    | .eject none =>
      let f := { s.feed with motion := some { m with work := .eject (some m.count) } }
      ({ s with feed := f.reband s.now } : State).redrive
    | _ => s
  | .unloading, some m =>
    match m.work with
    | .unload none =>
      let f := { s.feed with motion := some { m with work := .unload (some m.count) } }
      ({ s with feed := f.reband s.now } : State).redrive
    | _ => s
  | _, _ => s

/-- A roll end input has become active (R119, R124). -/
def State.rollEnds (s : State) (i : DIn) : State :=
  if s.feed.source.bind Source.rollEnd = some i then
    match s.feed.path with
    | .ready => s.checkTail
    | .loading | .aligning => s.loadFails .rollEnd
    | _ => s
  else s

/-! ## The tail window and the drying delay (R127, R128) -/

/-- Append a debit sum, oldest removed beyond four (R127). -/
def appendWindow (sum : Nat) (w : List Nat) : List Nat := (if 4 ≤ w.length then w.tail else w) ++ [sum]

/-- The drying delay of a window sum in ms (R128). -/
def dryingDelay (p : Profile) (sum : Nat) (cold : Bool) : Nat :=
  let d := p.dryBase + sum * p.dryPerUl / 1000
  min (if cold then d * 3 / 2 else d) p.dryMax

/-- The ambient temperature result is below the profile's cold threshold, or stale (R128). -/
def State.isCold (s : State) (p : Profile) : Bool := !s.fresh 10 || s.scan.results[(10 : AIn)].value < p.cold

/-- A pass's debit sum enters the tail window and the dry timer is started (R127, R128). -/
def State.startDrying (s : State) (sum : Nat) : State :=
  let w := appendWindow sum s.feed.window
  match s.feed.profile with
  | some i =>
    let p := s.tables.profile[i]
    { s with feed := { s.feed with window := w, dryExpiry := some (s.now + dryingDelay p w.sum (s.isCold p)) } }
  | none => { s with feed := { s.feed with window := w } }

/-- The dry timer has expired or is not running (R31). -/
def State.dryDone (s : State) : Bool :=
  match s.feed.dryExpiry with
  | some t => decide (t ≤ s.now)
  | none => true

/-! ## Stop, abort and reset (R135 to R137) -/

/-- The stop latch pauses the motion in flight; a cut sends the cutter home, RETURNING, with a new 4,000 ms (R135; log 43). -/
def State.pauseMotion (s : State) : State :=
  match s.feed.motion with
  | none => s
  | some m =>
    match m.work with
    | .cut _ left =>
      ({ s with feed := { s.feed with
          cutter := .returning
          motion := some { m with work := .cut (s.now + 4000) left, paused := true } } } : State).driveCutter .home
    | _ =>
      ({ s with feed := { s.feed with motion := some (({ m with paused := true } : Motion).hold s.now true) } } : State).redrive

/-- RESUME lets a paused motion continue; a cut starts again from its beginning (R135; log 25, 37). -/
def State.resumeMotion (s : State) : State :=
  match s.feed.motion with
  | none => s
  | some m =>
    if m.paused then
      match m.work with
      | .cut _ _ => s.driveCut m
      | _ =>
        let m' : Motion := { m with paused := false }
        ({ s with feed := { s.feed with motion := some (m'.hold s.now (s.feed.stallHeld m')) } } : State).redrive
    else s

/-- ABORT makes a motion with owner ENTRY an ORPHAN (R136). -/
def Feed.orphaned (f : Feed) : Feed :=
  { f with motion := f.motion.map fun m => if m.owner = .entry then { m with owner := .orphan } else m }

/-- What ENGINE RESET makes of the record (R137). -/
def State.resetFeed (s : State) : State :=
  ((s.setFeed { s.feed.cleared with
      path := if s.active 2 then .held else .empty
      attempt := 0, rollLow := false, cutter := s.idleCutter }).driveFeed .stop).driveCutter .stop

end Sys2Proof.Machine
end

