-- ==== Sys2Proof/Machine/PassOps.lean ====
section
/-!
DEFINITION. The pass: traverse, spit plan, firing, merge and output counts, its end, and release (2.3 to 2.6, 6.2).
-/

namespace Sys2Proof.Machine

/-! ## The spit plan (R98, R99) -/

/-- The percent of the humidity band (Table 6.2.1); a stale result falls in the DRY band (R98). -/
def State.bandPercent (s : State) : Nat :=
  let t := s.tables.service
  let h := s.scan.results[(11 : AIn)].value
  if !s.fresh 11 || h < 30 then t.dryPercent else if h ≤ 60 then t.normalPercent else t.dampPercent

/-- The effective decap limit of an ink in ms (R98). -/
def State.decapLimit (s : State) (k : InkKind) : Nat := k.decapBase * s.bandPercent / 100

/-- The groups of a channel that get a burst if the swath of the slot were released now (R99): none while CAPPED, since the release
stamps every group. -/
def State.spitGroups (s : State) (sl : Slot) (c : Channel) : GroupSet :=
  match s.tables.kindOf c with
  | some k =>
    if s.service.capped then noGroups
    else Vector.ofFn fun g : Fin 24 => sl.groups[c][g] && decide (s.decapLimit k < s.now - s.service.stamps[c][g])
  | none => noGroups

/-- The drops of one burst of a channel: 32 × spit count, none for a channel bound to no ink (R99). -/
def Tables.burstSize (t : Tables) (c : Channel) : Nat :=
  match t.kindOf c with
  | some k => 32 * k.spitCount
  | none => 0

/-- The estimate of a channel for the swath of a slot with the candidate plan of now; none where it has no ink bound (R27, R48). -/
def State.estimate (s : State) (sl : Slot) (c : Channel) : Option Nat :=
  (s.tables.kindOf c).map fun k =>
    estimateOf (dropProduct k.vSmall k.vMedium k.vLarge k.coeff s.scan.results[tempInput (headOf c)].value sl.arrival[c]
      (GroupSet.size (s.spitGroups sl c) * s.tables.burstSize c))

/-! ## The traverse (R32, R33) -/

/-- The effective offset of a channel for a direction (R32). -/
def Tables.offset (t : Tables) (dir : PassDir) (c : Channel) : Int :=
  match dir with
  | .fwd => t.channel[c].columnOffset
  | .rev => t.channel[c].columnOffset + t.reverseShift[headOf c]

/-- A carriage column limited to 0..57,599. -/
def clampColumn (x : Int) : Nat := (max 0 (min 57599 x)).toNat

/-- The carriage columns A and B of the traverse (R32). -/
def traverse (sl : Slot) (offsets : Vector Int 6) : Nat × Nat :=
  let used := (channels.filter fun c => !GroupSet.isEmpty sl.groups[c]).map fun c => offsets[c]
  match used with
  | [] => (sl.first, sl.last)
  | e :: es => (clampColumn (sl.first + es.foldl min e), clampColumn (sl.last + es.foldl max e))

/-- The next carriage column that a column strobe is accepted for; none before the spittoon strobe and after the last (R33). -/
def PassContext.nextColumn (p : PassContext) : Option Nat :=
  if p.spitDone then
    match p.dir, p.lastCol with
    | .fwd, none => some p.colA
    | .rev, none => some p.colB
    | .fwd, some x => if x < p.colB then some (x + 1) else none
    | .rev, some x => if p.colA < x then some (x - 1) else none
  else none

/-- The last column of the pass has been strobed (R37). -/
def PassContext.crossed (p : PassContext) : Bool := p.spitDone && p.nextColumn.isNone

/-! ## Firing (R33 to R36) -/

/-- The drop codes stored for a channel at a store column, nozzle and size, ascending. -/
def columnDrops (m : Memory) (slot : SlotIx) (c : Channel) (column : Nat) : List (Nat × DropSize) :=
  let base := storeAddress slot c column
  (m.filter fun cell => base ≤ cell.1 && cell.1 < base + 192).flatMap fun cell =>
    (List.range 4).filterMap fun k => (dropCode cell.2 k).map fun d => (4 * (cell.1 - base) + k, d)

/-- Where a drop code of nozzle n of channel c is fired under a bank: its own nozzle, its substitute, or nowhere (R35). -/
def Bank.route (b : Bank) (c : Channel) (n : Nat) : Option (Channel × Nat) :=
  match b.lookup c n with
  | none => some (c, n)
  | some (.partner p m) => some (p, m)
  | some (.shift m) => some (c, m)
  | some .suppress => none

/-- The larger of two sizes (R35). -/
def DropSize.larger : DropSize → DropSize → DropSize
  | .large, _ => .large
  | _, .large => .large
  | .medium, _ => .medium
  | _, .medium => .medium
  | .small, .small => .small

/-- Merge a drop into an ascending list: two codes on one nozzle fire as one drop of the larger size (R35). -/
def mergeDrop (n : Nat) (d : DropSize) : List (Nat × DropSize) → List (Nat × DropSize)
  | [] => [(n, d)]
  | (k, e) :: l => if n < k then (n, d) :: (k, e) :: l else if n = k then (k, d.larger e) :: l else (k, e) :: mergeDrop n d l

/-- What a channel fires of a store column: the codes of every channel at that store column that the bank sends to it, merged (R35). -/
def mergedColumn (m : Memory) (b : Bank) (slot : SlotIx) (c : Channel) (column : Nat) : List (Nat × DropSize) :=
  (channels.flatMap fun d => (columnDrops m slot d column).filterMap fun x =>
    match b.route d x.1 with
    | some (p, n) => if p = c then some (n, x.2) else none
    | none => none).foldl (fun l x => mergeDrop x.1 x.2 l) []

/-- What each channel fires at a carriage column: its store column x − e(c) where that lies in the span (R34); nothing while the head
drive enable is low. -/
def State.fires (s : State) (p : PassContext) (x : Nat) : Vector (List (Nat × DropSize)) 6 :=
  Vector.ofFn fun c : Fin 6 =>
    let col : Int := (x : Int) - p.offsets[c]
    if s.driveEnable ∧ (p.first : Int) ≤ col ∧ col ≤ p.last then
      mergedColumn s.store (s.maps.bankFor p.gen) p.slot c col.toNat
    else []

/-- Count fired drops by group and size (R36). -/
def countDrops (drops : List (Nat × DropSize)) (v : Vector Counts 24) : Vector Counts 24 :=
  drops.foldl (fun v x => if h : x.1 / 32 < 24 then modifyAt v ⟨x.1 / 32, h⟩ fun n => n.add 1 x.2 else v) v

/-- Add the groups of fired drops to a fired-group set (R36). -/
def fireGroups (drops : List (Nat × DropSize)) (set : GroupSet) : GroupSet :=
  drops.foldl (fun v x => GroupSet.insert (x.1 / 32) v) set

/-- The pass context after an accepted column strobe (R34, R36, R37). -/
def PassContext.strobed (p : PassContext) (now x : Nat) (fired : Vector (List (Nat × DropSize)) 6) : PassContext :=
  let p' := { p with
    lastCol := some x
    output := Vector.zipWith countDrops fired p.output
    fired := Vector.zipWith fireGroups fired p.fired }
  { p' with deadline := if p'.crossed then none else some (now + 200) }

/-- The pass context after the spittoon strobe: the planned bursts are fired as large drops of their groups (R33, R37); nothing is fired
while the head drive enable is low. -/
def PassContext.spat (p : PassContext) (now : Nat) (enable : Bool) : PassContext :=
  let spit : Vector GroupSet 6 := if enable then p.spit else Vector.replicate 6 noGroups
  { p with
    spitDone := true
    deadline := some (now + 2000)
    output := Vector.ofFn fun c : Fin 6 => Vector.ofFn fun g : Fin 24 =>
      if spit[c][g] then p.output[c][g].add p.burst[c] .large else p.output[c][g]
    fired := Vector.ofFn fun c : Fin 6 => Vector.zipWith (· || ·) p.fired[c] spit[c] }

/-- The nozzles that the planned bursts fire, ascending, every nozzle of a planned group, with large drops (R33). -/
def PassContext.spitDrops (p : PassContext) (enable : Bool) : Vector (List (Nat × DropSize)) 6 :=
  Vector.ofFn fun c : Fin 6 =>
    if enable then ((List.range 768).filter fun n => p.spit[c].toList.getD (n / 32) false).map fun n => (n, .large) else []

/-- The spit count of each channel's bursts (R33). -/
def PassContext.spitShots (p : PassContext) : Vector Nat 6 := p.burst.map (· / 32)

/-- The output counts of a channel, all groups (R36). -/
def PassContext.counts (p : PassContext) (c : Channel) : Counts := p.output[c].toList.foldl Counts.plus Counts.zero

/-! ## The end of a pass (R38, R40) -/

/-- The debit of each channel for the pass in flight (R51). -/
def State.passDebits (s : State) (p : PassContext) : Vector Nat 6 :=
  Vector.ofFn fun c : Fin 6 => (s.accounts[c].passDebit (p.counts c)).1

/-- The output drops of a head's two channels (R38). -/
def PassContext.headDrops (p : PassContext) (h : Head) : Nat :=
  ((channels.filter fun c => headOf c = h).map fun c => (p.counts c).total).sum

/-- The six accounts charged for the pass (R51), in ascending channel order (log 66). -/
def State.chargePass (s : State) (p : PassContext) : State :=
  channels.foldl (fun t c => t.setAccount c (t.accounts[c].settle (p.counts c))) s

/-- Groups stamped and drops counted at a pass's end (R38 step 2). -/
def State.countPass (s : State) (p : PassContext) : State :=
  ([0, 1, 2] : List Head).foldl (fun t h => t.addDrops h (p.headDrops h)) (s.stamp p.fired)

/-- A pass ends by its completion (R38) or by an abort (R40): charge, stamps and drops, drying, the event, the slot and entry, the
wet-edge timer; the head drive enable is lowered and the carriage given back. -/
def State.endPass (s : State) (p : PassContext) (complete : Bool) : State :=
  let debits := s.passDebits p
  let withheld := s.slots[p.slot].withheld
  let s1 := ((s.chargePass p).countPass p).startDrying debits.toList.sum
  let s2 := s1.raise (if complete then .swathComplete p.slot debits withheld else .swathAborted p.slot p.lastCol debits withheld)
  let s3 := s2.freeSlot p.slot
  let s4 : State := { s3 with
    queue := s3.queue.tail
    wetEdge := if complete then some s.now else none
    driveEnable := false
    pass := none
    out := if complete then s3.out else { s3.out with carriage := .stop } }
  s4.freeCarriage

/-- The pass in flight, if any, is aborted (R40). -/
def State.abortPass (s : State) : State :=
  match s.pass with
  | some p => s.endPass p false
  | none => s

/-! ## Triggers of the scan (R143) -/

/-- A trigger in TRIGGERED SWEEP mode that finds no sweep in flight begins one at the start input (R143, R144). -/
def Scan.trigger (v : Scan) : Scan :=
  if v.running && v.mode = .triggered && v.sweep.isNone then { v with sweep := some v.startIn } else v

/-! ## Release (R29, R32, R39, R50) -/

/-- The pass context that release sets up (R32). -/
def State.passContext (s : State) (i : SlotIx) : PassContext :=
  let sl := s.slots[i]
  let offsets : Vector Int 6 := Vector.ofFn fun c : Fin 6 => s.tables.offset sl.dir c
  let ab := traverse sl offsets
  { slot := i, dir := sl.dir, first := sl.first, last := sl.last, gen := sl.gen
    offsets := offsets
    temps := Vector.ofFn fun h : Fin 3 => clampTemp s.scan.results[tempInput h].value
    spit := Vector.ofFn fun c : Fin 6 => s.spitGroups sl c
    burst := Vector.ofFn fun c : Fin 6 => s.tables.burstSize c
    colA := ab.1, colB := ab.2
    spitDone := false, lastCol := none
    output := Vector.replicate 6 (Vector.replicate 24 Counts.zero)
    fired := Vector.replicate 6 noGroups
    deadline := some (s.now + 2000) }

/-- BAND RISK when the gap since the last completion exceeds the bound profile's wet-edge limit (R39). -/
def State.bandRisk (s : State) (i : SlotIx) : State :=
  match s.wetEdge, s.feed.profile with
  | some t, some k =>
    if s.tables.profile[k].wetEdge < s.now - t then s.raise (.bandRisk i (s.now - t) s.tables.profile[k].wetEdge) else s
  | _, _ => s

/-- The estimates of a swath reserved for its pass (R29 step 3, R50). -/
def State.reserveAll (s : State) (sl : Slot) (temps : Vector Int 3) : Vector Account 6 :=
  Vector.ofFn fun c : Fin 6 =>
    s.accounts[c].reserve (releaseRecord (s.tables.kindOf c) temps[headOf c] ((s.estimate sl c).getD 0))

/-- The swath of a slot is released (R29), the carriage being granted to the pass. -/
def State.release (s : State) (i : SlotIx) (capRep : Bool) (rest : List Entry) : State :=
  let s0 := s.bandRisk i
  let p := s0.passContext i
  let accounts := s0.reserveAll s0.slots[i] p.temps
  let s1 := if s0.service.capped then s0.uncap else s0
  { s1 with
    service := { s1.service with holder := .pass, docked := false, passAsked := false }
    accounts := accounts
    slots := modifyAt s1.slots i fun sl => { sl with state := .printing }
    queue := ⟨.swath i capRep, .active⟩ :: rest
    pass := some p
    driveEnable := true
    scan := s1.scan.trigger
    out := { s1.out with carriage := .pass s0.service.capped p.dir p.colA p.colB } }

end Sys2Proof.Machine
end

