-- ==== Sys2Proof/Machine/GateOps.lean ====
section
/-!
DEFINITION. The release gate: the hold reasons of each kind of head entry, and when it evaluates (2.2).
-/

namespace Sys2Proof.Machine

/-! ## Conditions (R25, R26, R30, R31) -/

/-- A motion of an entry that ABORT removed is still in flight (R25, R136). -/
def State.orphanInFlight (s : State) : Bool :=
  match s.feed.motion with
  | some m => m.owner = .orphan
  | none => false

/-- The media condition of a swath: READY, or TAIL OUT with remaining counts at least 10,838 (R25). -/
def State.swathMedia (s : State) : Bool :=
  match s.feed.path, s.feed.remaining with
  | .ready, _ => true
  | .tailOut, some r => decide (10838 ≤ r)
  | _, _ => false

/-- The service condition of a swath (R25): no operation in flight, none pending that goes ahead of the pass, no ladder in a step. -/
def State.swathService (s : State) : Bool :=
  s.service.inFlight.isNone && !(s.service.pending.any fun r => r.op.aheadOfPass)
    && !(channels.any fun c => (s.service.ladders[c]).state.inStep)

/-- Every channel's pressure result is valid and inside its gate window (R26). -/
def State.pressuresFit (s : State) : Bool :=
  channels.all fun c =>
    let v := s.scan.results[pressureInput c].value
    s.fresh (pressureInput c) && decide (s.tables.channel[c].gateLow ≤ v) && decide (v ≤ s.tables.channel[c].gateHigh)

/-- The head temperature limit of a channel's kind, 58 °C for a channel bound to none (R26). -/
def Tables.kindLimit (t : Tables) (c : Channel) : Int :=
  match t.kindOf c with
  | some k => k.headLimit
  | none => 58

/-- A temperature is not above the limit of a head, which is the lower of the limits of its two channels (R26). -/
def Tables.withinLimit (t : Tables) (h : Head) (v : Int) : Bool := channels.all fun c => headOf c ≠ h || decide (v ≤ t.kindLimit c)

/-- Every head's temperature result is valid and not above its limit (R26). -/
def State.temperaturesFit (s : State) : Bool :=
  ([0, 1, 2] : List Head).all fun h =>
    s.fresh (tempInput h) && s.tables.withinLimit h s.scan.results[tempInput h].value

/-- What the ink test finds for a channel (R27, R28, R48). -/
inductive InkTest where
  /-- Nothing fails: not tested, or enough ink. -/
  | fits
  /-- The estimate exceeds mark level − floor: CAPACITY. -/
  | capacity
  /-- INK; an urgent REFILL of this amount is sent. -/
  | short (estimate : Nat)
  /-- INK; the level is not known and a FILL TO MARK is sent. -/
  | unknown
  /-- INK for want of an ink kind; nothing is sent. -/
  | unbound
  deriving DecidableEq, Repr

/-- The ink test of a channel for the swath of a slot (R27, R28, R48; log 15). -/
def State.inkTest (s : State) (sl : Slot) (c : Channel) : InkTest :=
  if !s.fresh (tempInput (headOf c)) then .fits
  else match s.estimate sl c with
    | none => if sl.arrival[c].total = 0 then .fits else .unbound
    | some e =>
      let t := s.tables.channel[c]
      let a := s.accounts[c]
      if e = 0 then .fits
      else if (t.markLevel : Int) - t.floor < e then .capacity
      else if a.known = false then .unknown
      else if a.reserved + e + t.floor ≤ a.level then .fits
      else .short e

/-- The reason is INK. -/
def InkTest.isInk : InkTest → Bool
  | .short _ | .unknown | .unbound => true
  | _ => false

/-- The hold reasons of a WAITING SWATH head entry (R25 to R28). -/
def State.swathHolds (s : State) (sl : Slot) : Holds where
  stop := s.stop.set
  busy := s.orphanInFlight
  media := !s.swathMedia
  service := !s.swathService
  pressure := !s.pressuresFit
  temperature := !s.temperaturesFit
  ink := channels.any fun c => (s.inkTest sl c).isInk
  capacity := channels.any fun c => s.inkTest sl c = .capacity

/-- The media condition of an advance of distance d: READY, or TAIL OUT with no more counts than remain (R30). -/
def State.advanceMedia (s : State) (d : Nat) : Bool :=
  match s.feed.path, s.feed.remaining with
  | .ready, _ => true
  | .tailOut, some r => decide ((s.advanceFigures d).1 ≤ r)
  | _, _ => false

/-- The hold reasons of a WAITING ADVANCE head entry (R30). -/
def State.advanceHolds (s : State) (d : Nat) : Holds :=
  { stop := s.stop.set, busy := s.orphanInFlight, media := !s.advanceMedia d }

/-- The hold reasons of a WAITING CUT head entry (R31). -/
def State.cutHolds (s : State) : Holds :=
  { stop := s.stop.set
    busy := s.orphanInFlight || decide (s.feed.cutter ≠ .home)
    media := !(s.feed.path = .ready || s.feed.path = .tailOut)
    dry := !s.dryDone }

/-! ## What an evaluation does -/

/-- The origin GATE alone. -/
def byGate : Origins := { gate := true }

/-- The refill requests that an evaluation sends for a channel (R27). Each evaluation sends them anew, also while a refill of the channel is
in flight, as R27 and R106 say and Table 11.2.2 does not show (log 49). -/
def State.gateRequest (s : State) (t : InkTest) (c : Channel) : State :=
  match t with
  | .short e => (s.requestRefill c .urgent (some e) byGate).reformSupply c
  | .unknown => (s.requestRefill c .fill none byGate).reformSupply c
  | _ => s

/-- CAPACITY found for an entry not yet reported raises the condition and sets the flag (R28). Where several channels show CAPACITY, the
condition carries the lowest of them, which R28 does not say (log 62). -/
def State.reportCapacity (s : State) (sl : Slot) (i : SlotIx) (rep : Bool) (rest : List Entry) : State :=
  match rep, channels.find? (fun c => s.inkTest sl c = .capacity) with
  | false, some c => ({ s with queue := ⟨.swath i true, .waiting⟩ :: rest } : State).raiseCondition (.capacity i c)
  | _, _ => s

/-- The gate asks the arbiter for the carriage: a pending CAP is withdrawn with the time recorded (R24, R105, R108). -/
def State.askPass (s : State) : State :=
  let capPending := s.service.pending.any fun r => r.op = .cap
  let s1 := s.withdraw fun op => op = .cap
  { s1 with service := { s1.service with
      passAsked := true, capWithdrawnAt := if capPending then some s.now else s1.service.capWithdrawnAt } }

/-- One evaluation of a WAITING SWATH head entry (R24 to R28). -/
def State.evaluateSwath (s : State) (i : SlotIx) (rep : Bool) (rest : List Entry) : State :=
  let sl := s.slots[i]
  let h := s.swathHolds sl
  let s1 := channels.foldl (fun t c => t.gateRequest (s.inkTest sl c) c) (s.reportCapacity sl i rep rest)
  let s2 : State := { s1 with holds := h }
  if h.isEmpty then s2.askPass else { s2 with service := { s2.service with passAsked := false } }

/-- One evaluation of a WAITING ADVANCE head entry: in TAIL OUT a reason MEDIA raises MEDIA SHORT, form BLOCKED, once (R30, R124). -/
def State.evaluateAdvance (s : State) (d : Nat) (n rem : Option Nat) (short : Bool) (rest : List Entry) : State :=
  let h := s.advanceHolds d
  let s1 : State := { s with holds := h }
  if h.media && s.feed.path = .tailOut && !short then
    ({ s1 with queue := ⟨.advance d n rem true, .waiting⟩ :: rest } : State).raise
      (.mediaShort .blocked d (s.advanceFigures d).1 (s.feed.remaining.getD 0))
  else s1

/-- The gate evaluates the head entry when it is WAITING (R24). -/
def State.evaluate (s : State) : State :=
  match s.queue with
  | ⟨.swath i rep, .waiting⟩ :: rest => s.evaluateSwath i rep rest
  | ⟨.advance d n rem short, .waiting⟩ :: rest => s.evaluateAdvance d n rem short rest
  | ⟨.cut, .waiting⟩ :: _ => { s with holds := s.cutHolds }
  | _ => s

/-! ## When it evaluates (R24) -/

/-- A head entry without its reported flags. -/
def Entry.bare (e : Entry) : Entry :=
  match e.job with
  | .swath i _ => { e with job := .swath i false }
  | .advance d n r _ => { e with job := .advance d n r false }
  | .cut => e

/-- The state that enters the gate's conditions (R24 to R31). -/
structure GateInputs where
  head : Option Entry
  stop : Bool
  path : PathState
  motion : Option (MotionKind × Owner)
  cutter : CutterState
  remaining : Option Nat
  residue : Nat
  profile : Option (Fin 16)
  dryExpiry : Option Nat
  operation : Bool
  requests : List Request
  ladders : Vector LadderState 6
  results : Vector Result 12
  accounts : Vector Account 6
  tables : Tables
  stamps : Vector (Vector Nat 24) 6
  capped : Bool
  deriving DecidableEq

/-- The gate's inputs in a state; every pending request counts, a CAP and a non-urgent REFILL too (log 70). -/
def State.gateInputs (s : State) : GateInputs where
  head := s.queue.head?.map Entry.bare
  stop := s.stop.set
  path := s.feed.path
  motion := s.feed.motion.map fun m => (m.work.kind, m.owner)
  cutter := s.feed.cutter
  remaining := s.feed.remaining
  residue := s.feed.residue
  profile := s.feed.profile
  dryExpiry := s.feed.dryExpiry
  operation := s.service.inFlight.isSome
  requests := s.service.pending
  ladders := s.service.ladders.map (·.state)
  results := s.scan.results
  accounts := s.accounts
  tables := s.tables
  stamps := s.service.stamps
  capped := s.service.capped

/-- With no WAITING head entry there is nothing to evaluate: the set is empty, but for STOP on an ACTIVE head while the latch is set, and
the pass is not asked for (R24, R108). -/
def State.idleGate (s : State) : State :=
  match s.queue with
  | [] => { s with holds := {}, service := { s.service with passAsked := false } }
  | e :: _ =>
    if e.phase = .active then { s with holds := { stop := s.stop.set }, service := { s.service with passAsked := false } }
    else match e.job with
      | .swath _ _ => s
      | _ => { s with service := { s.service with passAsked := false } }

/-- Evaluate again while an evaluation itself changes the gate's inputs, at most `n` times (R24; log 32). -/
def State.evaluateAgain : Nat → State → State
  | 0, s => s
  | n + 1, s =>
    let t := s.evaluate
    if t.gateInputs = s.gateInputs then t else State.evaluateAgain n t

/-- The gate after a step from s0 to s1: it evaluates when some input of its conditions has changed, or where the step says so (R24). -/
def State.runGate (s1 : State) (force : Bool) (s0 : State) : State :=
  let t := s1.idleGate
  if force || s1.gateInputs ≠ s0.gateInputs then State.evaluateAgain 3 t else t

/-- Supply states are formed again for every channel (R58), ascending (log 66). -/
def State.reformAll (s : State) : State := channels.foldl State.reformSupply s

/-- Every slot whose deduction is owed and whose link is idle sends DEDUCT (R74). -/
def State.sendDeductions (s : State) : State := { s with carts := s.carts.map (Cartridge.sendOwed s.now) }

/-- What follows every step within the same step: supply states, deductions and lamps are formed again, the gate evaluates where its
inputs changed, and the return direction takes its next frame, once and at the end, so that a reply that becomes ready with an event
goes out first (log 68). -/
def State.finish (force : Bool) (s0 s1 : State) : State :=
  ((((s1.reformAll).runGate force s0).sendDeductions).reformLamps).chooseReturn

end Sys2Proof.Machine
end

