-- ==== Sys2Proof/Machine/StopOps.lean ====
section
/-!
DEFINITION. The stop latch, the filtered inputs and the analogue results (chapter 8).
-/

namespace Sys2Proof.Machine

/-! ## The stop latch (R148, R149) -/

/-- A stop request (R148): a CLEAR latch is set with the cause, the head drive enable lowered and FORCED STOP queued; then the pass in
flight is aborted (R40), the station operation stopped (R112) and the motion paused (R135). A SET latch keeps its first cause. -/
def State.setStop (s : State) (cause : StopCause) : State :=
  if s.stop.set then s
  else
    let s1 := ({ s with stop := ⟨true, some cause⟩, driveEnable := false } : State).raise
      (.forcedStop cause s.now (s.pass.map (·.slot)))
    s1.abortPass.stopOp.pauseMotion

/-- An input stands at its stop level (R147). -/
def State.atStopLevel (s : State) (i : DIn) : Bool :=
  match s.tables.input[i].routing with
  | .rising => s.active i
  | .falling => s.inactive i
  | .none => false

/-- The settling test of R147 on every input, ascending, as ENGINE RESET makes it (R151). -/
def State.settlingTest (s : State) : State :=
  (List.finRange 16).foldl (fun t i => if t.atStopLevel i then t.setStop (.input i) else t) s

/-- A channel's pressure result is valid and outside its stop window (R150). -/
def State.pressureStops (s : State) (c : Channel) : Bool :=
  let v := s.scan.results[pressureInput c].value
  s.fresh (pressureInput c) && (decide (v < s.tables.channel[c].stopLow) || decide (s.tables.channel[c].stopHigh < v))

/-- Some stop source is active (R150). -/
def State.stopSource (s : State) : Bool :=
  (List.finRange 16).any s.atStopLevel || channels.any s.pressureStops

/-! ## Filtered inputs (R146, R147) -/

/-- The event edge of an input matches a change to a level (R147). -/
def EventEdge.matchesLevel : EventEdge → Bool → Bool
  | .both, _ => true
  | .rising, b => b
  | .falling, b => !b
  | .none, _ => false

/-- The stop routing of an input matches a change to a level (R147). -/
def StopRouting.matchesLevel : StopRouting → Bool → Bool
  | .rising, b => b
  | .falling, b => !b
  | .none, _ => false

/-- The cartridge slot that a digital input serves: DI10 to DI15 (R71). -/
def cartInput (i : DIn) : Option Channel := if h : 10 ≤ i.val then some ⟨i.val - 10, by omega⟩ else none

/-- A cartridge present input has changed (R71, R75). -/
def State.cartSensor (s : State) (c : Channel) (level : Bool) : State :=
  if level then (if s.carts[c].state = .absent then s.beginInsertion c else s)
  else if s.carts[c].state = .absent then s
  else s.removeCartridge c

/-- DI2 has changed: a level lost is the trailing end; at the settling of power-on an active DI2 makes the path HELD (R117). -/
def State.pathSensor (s : State) (level settling : Bool) : State :=
  if !level then s.pathSensorClears
  else if settling && s.feed.path = .empty then s.setFeed { s.feed with path := .held }
  else s

/-- What the blocks do with a changed filtered level (R117, R119, R124, R129, R71, R75). -/
def State.sensed (s : State) (i : DIn) (level settling : Bool) : State :=
  match cartInput i with
  | some c => s.cartSensor c level
  | none =>
    if i = 0 then s.loadSensor true level
    else if i = 1 then s.loadSensor false level
    else if i = 2 then s.pathSensor level settling
    else if i = 3 ∨ i = 4 then (if level then s.rollEnds i else s)
    else if i = 8 then s.cutterSensor level
    else s

/-- A filtered level is accepted (R146, R147): a change gives INPUT EDGE where the event edge matches and a stop where the routing
matches; a settling gives no event, and a stop at its stop level. -/
def State.acceptInput (s : State) (i : DIn) (level : Bool) : State :=
  let settling := s.inputs[i].level.isNone
  let cfg := s.tables.input[i]
  let s1 : State := { s with inputs := setAt s.inputs i ⟨some level, none⟩ }
  let s2 := if !settling && cfg.edge.matchesLevel level then s1.raise (.inputEdge i level s.now) else s1
  let s3 := if cfg.routing.matchesLevel level then s2.setStop (.input i) else s2
  s3.sensed i level settling

/-- The raw input takes a level (R146): the filtered level drops a candidate; another level becomes the candidate, which a filter of 0 ms
accepts as it comes. -/
def State.rawInput (s : State) (i : DIn) (raw : Bool) : State :=
  let r := s.inputs[i]
  if r.level = some raw then { s with inputs := setAt s.inputs i { r with candidate := none } }
  else if r.candidate.map (·.level) = some raw then s
  else if s.tables.input[i].filter = 0 then s.acceptInput i raw
  else { s with inputs := setAt s.inputs i { r with candidate := some ⟨raw, s.now, s.tables.input[i].filter⟩ } }

/-! ## Analogue results (R140 to R145) -/

/-- The result of a raw value: offset + floor(raw × gain / 4,096) (R140). -/
def scaled (t : ScanRec) (raw : Nat) : Int := t.offset + ((raw : Int) * t.gain) / 4096

/-- The sweep after the conversion of input i (R142, R143). -/
def Scan.after (v : Scan) (i : AIn) : Option AIn :=
  if i = v.endIn then (if v.mode = .continuous then some v.startIn else none) else some (i + 1)

/-- The channel whose sub-tank pressure an analogue input measures: AIN3 to AIN8 (R145). -/
def pressureChannel (i : AIn) : Option Channel := if h : 3 ≤ i.val ∧ i.val < 9 then some ⟨i.val - 3, by omega⟩ else none

/-- A new pressure result is compared with the channel's stop window while a pass is in flight (R145). -/
def State.guardPressure (s : State) (i : AIn) (v : Int) : State :=
  match pressureChannel i with
  | some c =>
    if s.pass.isSome && (decide (v < s.tables.channel[c].stopLow) || decide (s.tables.channel[c].stopHigh < v)) then
      s.setStop (.pressure c)
    else s
  | none => s

/-- A new AIN9 result above the mark threshold sets mark seen in a refill whose stroke is in progress (R63). -/
def State.watchMark (s : State) (i : AIn) (v : Int) : State :=
  if i = 9 ∧ s.tables.service.markThreshold < v then
    { s with supply := s.supply.map fun q =>
        { q with refill := q.refill.map fun k => if k.inStroke then { k with markSeen := true } else k } }
  else s

/-- A valid result becomes stale: SENSOR STALE is queued and the condition raised (R141). -/
def State.makeStale (s : State) (i : AIn) : State :=
  let r := s.scan.results[i]
  let s1 : State := { s with scan := { s.scan with results := setAt s.scan.results i { r with valid := false } } }
  (s1.raise (.sensorStale i r.value (s.now - r.convertedAt.getD 0))).raiseCondition (.sensorStale i)

end Sys2Proof.Machine
end

