-- ==== Sys2Proof/Machine/Frames.lean ====
section
/-!
DEFINITION. How a request is taken from the receive buffer and answered (R164, R165), and how a step ends.
-/

namespace Sys2Proof.Machine

/-- The outcome of a step from s whose own effects give s1: what follows within the same step, then the next state. -/
def ends (force : Bool) (s s1 : State) : Host.Outcome State Fault Refusal := .next (State.finish force s s1)

/-- What a block answers to a request: the state, the outcome and the result data (R165). -/
structure Answer where
  state : State
  outcome : ReplyOutcome
  data : ReplyData
  deriving DecidableEq, Repr

/-- DONE without result data. -/
def Answer.done (s : State) : Answer := ⟨s, .done, .none⟩

/-- A refusal: nothing has changed. -/
def Answer.refuse (s : State) (o : ReplyOutcome) : Answer := ⟨s, o, .none⟩

/-- The oldest frame of the receive buffer, where it satisfies p and the reply list has room (R164). -/
def Lane.request (l : Lane) (p : Frame → Bool) : Option Frame :=
  match l.rx with
  | f :: _ => if p f && decide (l.replies.length < 8) then some f else none
  | [] => none

/-- Take the oldest frame as a request (R164, R165): it leaves the buffer, its block answers it from the body and the state, and the
reply is placed. With no such frame to take, nothing happens (log 2). A request that stores something the gate reads (`store`) makes the
gate evaluate when it is answered DONE or CLAMPED (R153). -/
def serveWith (store : Bool) (p : Frame → Bool) (act : List Byte → State → Answer) (s : State) :
    Host.Outcome State Fault Refusal :=
  match s.lane.request p with
  | none => .next s
  | some f =>
    let a := act f.body { s with lane := s.lane.pop }
    ends (store && (a.outcome = .done || a.outcome = .clamped)) s
      { a.state with lane := a.state.lane.reply ⟨f.kind, f.tag, a.outcome, a.data⟩ }

/-- Take the oldest frame as a request that stores nothing the gate reads. -/
def serve (p : Frame → Bool) (act : List Byte → State → Answer) (s : State) : Host.Outcome State Fault Refusal :=
  serveWith false p act s

/-- The frame is of a kind (Table 10.10.3). -/
def ofKind (k : Byte) (f : Frame) : Bool := f.kind = k

/-- A request without a body; a body of another length is answered RANGE (R164). -/
def noBody (act : State → Answer) (body : List Byte) (s : State) : Answer :=
  match body with
  | [] => act s
  | _ => .refuse s .range

/-- A request of one byte that gives an index or a mask; another length, or a byte that gives none, is answered RANGE (R164). -/
def oneByte {α : Type} (read : Byte → Option α) (act : α → State → Answer) (body : List Byte) (s : State) : Answer :=
  match body with
  | [b] =>
    match read b with
    | some x => act x s
    | none => .refuse s .range
  | _ => .refuse s .range

/-- The origin FORMATTER alone (Table 6.4.1). -/
def byFormatter : Origins := { formatter := true }

end Sys2Proof.Machine
end

