-- ==== Sys2Proof/Machine/ComposerCommands.lean ====
section
/-!
DEFINITION. The Swath Composer: SWATH OPEN, SLICE, SWATH CLOSE and SWATH DISCARD (chapter 1).
-/

namespace Sys2Proof.Machine

/-! ## SWATH OPEN (R3, R4) -/

/-- A swath is opened (R4): a pending commit is offered, the Current generation bound, the record set and the area blank over the span. -/
def State.openSlot (s : State) (i : SlotIx) (dir : PassDir) (first last : Nat) : State :=
  let s1 := s.offerCommit
  { s1 with
    slots := setAt s1.slots i { blankSlot with
      state := .composing, dir := dir, first := first, last := last, gen := some s1.maps.currentGen }
    store := Memory.blank (inSpan i first last) s1.store }

/-- The answer to SWATH OPEN (R3, R4): slot, direction, first column and last column. -/
def openSwath (body : List Byte) (s : State) : Answer :=
  match body with
  | [i, d, f1, f0, l1, l0] =>
    match byteSlot i, byteDir d with
    | some slot, some dir =>
      let first := bigEndian [f1, f0]
      let last := bigEndian [l1, l0]
      if 57599 < last ∨ last < first then .refuse s .range
      else if s.slots[slot].state ≠ .free then .refuse s .busy
      else .done (s.openSlot slot dir first last)
    | _, _ => .refuse s .range
  | _ => .refuse s .range

/-- SWATH_OPEN (R3, R4). -/
def execSwathOpen (s : State) : Host.Outcome State Fault Refusal := serve (ofKind 0x01#8) openSwath s

/-! ## SLICE (R5 to R11) -/

/-- The end column of a slice (R6). -/
def SliceArgs.endColumn (a : SliceArgs) : Nat := a.first + a.count * a.repeats - 1

/-- The range check of a slice against its slot, its channel apart (R6). -/
def SliceArgs.inRange (a : SliceArgs) (sl : Slot) : Bool :=
  1 ≤ a.count && a.count ≤ 64 && 1 ≤ a.repeats && a.repeats ≤ 4096 && sl.first ≤ a.first && a.endColumn ≤ sl.last
    && a.data.length = a.count * (maskGroups a.mask).length * 8

/-- The order check of a slice on its channel (R7). -/
def Slot.inOrder (sl : Slot) (c : Channel) (first : Nat) : Bool :=
  match sl.lastWritten[c] with
  | some l => l < first
  | none => true

/-- The bytes of one column of a slice: each masked group with its 8 bytes, ascending (Table 10.10.7). -/
def SliceArgs.columnGroups (a : SliceArgs) (column : List Byte) : List (Nat × List Byte) :=
  let gs := maskGroups a.mask
  gs.zip (pieces gs.length 8 column)

/-- The columns of data of a slice, each as its groups. -/
def SliceArgs.columns (a : SliceArgs) : List (List (Nat × List Byte)) :=
  (pieces a.count ((maskGroups a.mask).length * 8) a.data).map a.columnGroups

/-- The store cells of one column. -/
def columnCells (base : Nat) (groups : List (Nat × List Byte)) : List Host.Cell :=
  groups.flatMap fun g => g.2.mapIdx fun j b => (base + g.1 * 8 + j, b)

/-- The store cells that an accepted slice writes, ascending: its columns, repeat times in all (R8). -/
def SliceArgs.cells (a : SliceArgs) (slot : SlotIx) (c : Channel) : List Host.Cell :=
  ((List.replicate a.repeats a.columns).flatten).mapIdx (fun k col => columnCells (storeAddress slot c (a.first + k)) col) |>.flatten

/-- The drop codes other than none of one column: nozzle and size. -/
def groupDrops (groups : List (Nat × List Byte)) : List (Nat × DropSize) :=
  groups.flatMap fun g => (g.2.mapIdx fun j b =>
    (List.range 4).filterMap fun q => (dropCode b q).map fun d => (32 * g.1 + 4 * j + q, d)).flatten

/-- Count n drops of a size of nozzle x of channel c where its substitute fires them, or withhold them (R9, R10). -/
def Slot.attribute (b : Bank) (c : Channel) (n : Nat) (sl : Slot) (x : Nat × DropSize) : Slot :=
  let count (d : Channel) (nozzle : Nat) : Slot := { sl with
    arrival := modifyAt sl.arrival d fun k => (k.add n x.2).clip
    groups := modifyAt sl.groups d fun set => GroupSet.insert (nozzle / 32) set }
  match b.lookup c x.1 with
  | none => count c x.1
  | some (.partner p m) => count p m
  | some (.shift m) => count c m
  | some .suppress => { sl with withheld := modifyAt sl.withheld c fun k => min (k + n) 44236800 }

/-- The slot record after an accepted slice: its drops counted, each code once for every column written, and the last written column
(R8 to R10). -/
def Slot.take (b : Bank) (sl : Slot) (c : Channel) (a : SliceArgs) : Slot :=
  let counted := (a.columns.flatMap groupDrops).foldl (Slot.attribute b c a.repeats) sl
  { counted with lastWritten := setAt counted.lastWritten c (some a.endColumn) }

/-- SLICE REFUSED (R11). -/
def State.refuseSlice (s : State) (a : SliceArgs) (why : SliceReason) (slices : Option Nat) : State :=
  s.raise (.sliceRefused (some a.slot) (some a.channel) (some a.first) why slices)

/-- A SLICE naming a COMPOSING slot: counted, checked, and accepted or refused (R5 to R8). -/
def State.admitSlice (s : State) (a : SliceArgs) (i : SlotIx) : State :=
  let sl := { s.slots[i] with slices := min (s.slots[i].slices + 1) 4294967295 }
  let s1 : State := { s with slots := setAt s.slots i sl }
  if h : a.channel < 6 then
    let c : Channel := ⟨a.channel, h⟩
    if !a.inRange sl then s1.refuseSlice a .range (some sl.slices)
    else if !sl.inOrder c a.first then s1.refuseSlice a .order (some sl.slices)
    else
      { s1 with
        slots := setAt s1.slots i (sl.take (s.maps.bankFor sl.gen) c a)
        store := Memory.write (a.cells i c) s1.store }
  else s1.refuseSlice a .range (some sl.slices)

/-- What a SLICE does (R5, R164). -/
def State.sliceEffect (s : State) (body : List Byte) : State :=
  match readSlice body with
  | none => s.raise (.sliceRefused none none none .range none)
  | some a =>
    if h : a.slot < 8 then
      let i : SlotIx := ⟨a.slot, h⟩
      if s.slots[i].state = .composing then s.admitSlice a i
      else s.refuseSlice a .state (some s.slots[i].slices)
    else s.refuseSlice a .range none

/-- SLICE (R5 to R11): the one frame without a reply (R165). -/
def execSlice (s : State) : Host.Outcome State Fault Refusal :=
  match s.lane.rx with
  | f :: _ =>
    if f.kind = 0x02#8 then ends false s (({ s with lane := s.lane.pop } : State).sliceEffect f.body) else .next s
  | [] => .next s

/-! ## SWATH CLOSE (R12, R13) -/

/-- Append an entry at the tail of the print queue, in phase WAITING (R21). -/
def State.append (s : State) (j : Job) : State := { s with queue := s.queue ++ [⟨j, .waiting⟩] }

/-- SWATH CLOSE of a COMPOSING slot whose counts differ (R12). -/
def State.damageByCount (s : State) (i : SlotIx) (stated : Nat) : State :=
  let sl := s.slots[i]
  (({ s with slots := setAt s.slots i sl.damage } : State).raise (.swathDamaged i .sliceCount sl.slices (some stated))).dropRetained

/-- The answer to SWATH CLOSE (R12, R13): slot and slice count. -/
def closeSwath (body : List Byte) (s : State) : Answer :=
  match body with
  | [i, n3, n2, n1, n0] =>
    match byteSlot i with
    | some slot =>
      let stated := bigEndian [n3, n2, n1, n0]
      let sl := s.slots[slot]
      if sl.state ≠ .composing then .refuse s .state
      else if sl.slices ≠ stated then ⟨s.damageByCount slot stated, .mismatch, .none⟩
      else if 16 ≤ s.queue.length then .refuse s .full
      else .done (({ s with slots := setAt s.slots slot { sl with state := .queued } } : State).append (.swath slot false))
    | none => .refuse s .range
  | _ => .refuse s .range

/-- SWATH_CLOSE (R12, R13). -/
def execSwathClose (s : State) : Host.Outcome State Fault Refusal := serve (ofKind 0x03#8) closeSwath s

/-! ## SWATH DISCARD (R16) -/

/-- The answer to SWATH DISCARD (R16). -/
def discardSwath (i : SlotIx) (s : State) : Answer :=
  match s.slots[i].state with
  | .composing | .damaged => .done (s.freeSlot i)
  | .free => .done s
  | .queued | .printing => .refuse s .state

/-- SWATH_DISCARD (R16). -/
def execSwathDiscard (s : State) : Host.Outcome State Fault Refusal := serve (ofKind 0x04#8) (oneByte byteSlot discardSwath) s

end Sys2Proof.Machine
end

