-- ==== Sys2Proof/Machine/FeedReports.lean ====
section
/-!
DEFINITION. The feed unit's steps: starts of advances and cuts, encoder counts, settles, stalls, limits and the dry timer (chapter 7).
-/

namespace Sys2Proof.Machine

/-- ADVANCE_START (R30, R121): a WAITING ADVANCE head entry whose conditions hold. -/
def execAdvanceStart (s : State) : Host.Outcome State Fault Refusal :=
  match s.queue with
  | ⟨.advance d _ _ short, .waiting⟩ :: rest =>
    if (s.advanceHolds d).isEmpty then ends false s (s.startAdvance d short rest) else .next s
  | _ => .next s

/-- CUT_START (R31, R129, R131): a WAITING CUT head entry whose conditions hold; a cut with a roll engaged, an eject with SHEET. -/
def execCutStart (s : State) : Host.Outcome State Fault Refusal :=
  match s.queue with
  | ⟨.cut, .waiting⟩ :: rest =>
    if s.cutHolds.isEmpty then
      if (s.feed.source.bind Source.rollEnd).isSome then ends false s (s.startCut rest)
      else ends false s (({ s with queue := ⟨.cut, .active⟩ :: rest } : State).startEject .entry)
    else .next s
  | _ => .next s

/-- The encoder has moved (R122, R123, R125). -/
def State.encoder (s : State) (delta : Int) : State :=
  let f := ((s.feed.moveMotion s.now delta).move delta).stopAtTail.reband s.now
  (({ s with feed := f } : State).trackEntry).redrive

/-- FEED_ENCODER_COUNT (R122). -/
def execFeedEncoderCount (delta : Int) (s : State) : Host.Outcome State Fault Refusal := ends false s (s.encoder delta)

/-- ADVANCE_SETTLED (R122, R125). An advance that rests in the band of its own target just before the tail position completes by R122, not as
SHORT (log 71). -/
def execAdvanceSettled (s : State) : Host.Outcome State Fault Refusal :=
  match s.feed.motion with
  | some m => if m.work.kind = .advance ∧ m.settled s.now then ends false s s.advanceDone else .next s
  | none => .next s

/-- FEED_STALL (R123): a driven feed motion has shown no progress for 500 ms, a motion in flight counting as driven unless it is paused
(log 23). -/
def execFeedStall (s : State) : Host.Outcome State Fault Refusal :=
  match s.feed.motion with
  | some m =>
    if m.work.kind ≠ .cut ∧ s.feed.stallHeld m = false ∧ m.progressAt + 500 ≤ s.now then
      ends false s (s.jam .stall)
    else .next s
  | none => .next s

/-- CUT_TIMEOUT (R130, R135): a cut has taken 4,000 ms, or the return home of a paused one has not reached DI8 in that time. -/
def execCutTimeout (s : State) : Host.Outcome State Fault Refusal :=
  match s.feed.motion with
  | some ⟨.cut failAt _, _, paused, _, _, _, _⟩ =>
    if failAt ≤ s.now ∧ (paused = false ∨ (s.feed.cutter = .returning ∧ s.active 8 = false)) then ends false s s.cutFails else .next s
  | _ => .next s

/-- LOAD_EDGE_SETTLED (R119, R120): the media has come to rest at the later edge. -/
def execLoadEdgeSettled (s : State) : Host.Outcome State Fault Refusal :=
  match s.feed.motion with
  | some m => if m.work.kind = .load ∧ m.settled s.now then ends false s s.loadRests else .next s
  | none => .next s

/-- LOAD_BACKFEED_DONE (R120): 33,334 counts back after a failed check. -/
def execLoadBackfeedDone (s : State) : Host.Outcome State Fault Refusal :=
  match s.feed.motion with
  | some ⟨.load .retry st _ _ _, _, false, count, _, _, _⟩ =>
    if count ≤ st - 33334 then ends false s s.retryDone else .next s
  | _ => .next s

/-- LOAD_NO_EDGE (R119): 2,000,000 counts back with a sensor still active, or 1,000,000 counts forward without both edges. -/
def execLoadNoEdge (s : State) : Host.Outcome State Fault Refusal :=
  match s.feed.motion with
  | some ⟨.load .clearing st _ _ _, _, false, count, _, _, _⟩ =>
    if count ≤ st - 2000000 then ends false s (s.loadFails .noEdge) else .next s
  | some ⟨.load .forward st _ _ _, _, false, count, _, _, _⟩ =>
    if st + 1000000 ≤ count then ends false s (s.loadFails .noEdge) else .next s
  | _ => .next s

/-- EJECT_COMPLETE (R131). -/
def execEjectComplete (s : State) : Host.Outcome State Fault Refusal :=
  match s.feed.motion with
  | some m => if m.work.kind = .eject ∧ m.settled s.now then ends false s (s.ejectDone m) else .next s
  | none => .next s

/-- EJECT_LIMIT (R131): 2,000,000 counts fed without DI2 becoming inactive. -/
def execEjectLimit (s : State) : Host.Outcome State Fault Refusal :=
  match s.feed.motion with
  | some ⟨.eject none, _, false, count, _, _, _⟩ => if 2000000 ≤ count then ends false s (s.jam .limit) else .next s
  | _ => .next s

/-- UNLOAD_COMPLETE (R133). -/
def execUnloadComplete (s : State) : Host.Outcome State Fault Refusal :=
  match s.feed.motion with
  | some m => if m.work.kind = .unload ∧ m.settled s.now then ends false s s.mediaOut else .next s
  | none => .next s

/-- UNLOAD_LIMIT (R133): 100,000 counts back with DI2 still active. -/
def execUnloadLimit (s : State) : Host.Outcome State Fault Refusal :=
  match s.feed.motion with
  | some ⟨.unload none, _, false, count, _, _, _⟩ => if count ≤ -100000 then ends false s (s.jam .limit) else .next s
  | _ => .next s

/-- DRY_TIMER_EXPIRY (R128): a change that makes the gate evaluate. -/
def execDryTimerExpiry (s : State) : Host.Outcome State Fault Refusal :=
  match s.feed.dryExpiry with
  | some t => if t ≤ s.now then ends true s s else .next s
  | none => .next s

end Sys2Proof.Machine
end

