-- ==== Sys2Proof/Machine/InputReports.lean ====
section
/-!
DEFINITION. The digital inputs' raw changes and filter expiries (R146).
-/

namespace Sys2Proof.Machine

/-- RAW_INPUT_CHANGE (R146). -/
def execRawInputChange (i : DIn) (level : Bool) (s : State) : Host.Outcome State Fault Refusal := ends false s (s.rawInput i level)

/-- INPUT_FILTER_EXPIRY (R146): the candidate has been held for the filter time it began with. -/
def execInputFilterExpiry (i : DIn) (s : State) : Host.Outcome State Fault Refusal :=
  match s.inputs[i].candidate with
  | some c => if c.since + c.filter ≤ s.now then ends false s (s.acceptInput i c.level) else .next s
  | none => .next s

end Sys2Proof.Machine
end

