-- ==== Sys2Proof/Machine/LaneCommands.lean ====
section
/-!
DEFINITION. The Lane Interface's own steps: alignment, lane reset, frames received and sent, unknown frames, STATUS READ and CLEAR
CONDITIONS (chapter 10).
-/

namespace Sys2Proof.Machine

/-- LANE_ALIGNED (R161). -/
def execLaneAligned (s : State) : Host.Outcome State Fault Refusal :=
  if s.lane.aligned then .next s else ends false s { s with lane := { s.lane with aligned := true } }

/-- A slot that a lane reset finds COMPOSING becomes DAMAGED, with its event (R18). -/
def State.damageByReset (s : State) (i : SlotIx) : State :=
  if s.slots[i].state = .composing then
    ({ s with slots := setAt s.slots i (s.slots[i]).damage } : State).raise (.swathDamaged i .laneReset s.slots[i].slices none)
  else s

/-- LANE_RESET (R172): the change from ALIGNED to UNALIGNED. -/
def execLaneReset (s : State) : Host.Outcome State Fault Refusal :=
  if s.lane.aligned then
    let s1 : State := { s with lane := { s.lane with
      aligned := false, rx := [], hold := false, sending := none, replies := [], events := [], notice := false } }
    let s2 := ((List.finRange 8).foldl State.damageByReset s1).dropRetained
    ends false s (s2.raiseCondition (.laneError .alignment))
  else .next s

/-- FORWARD_FRAME_RECEIVED (R162, R163): discarded with LANE ERROR, or placed in the receive buffer; none is received while UNALIGNED. -/
def execForwardFrameReceived (bytes : List Byte) (s : State) : Host.Outcome State Fault Refusal :=
  if s.lane.aligned then
    match checkFrame bytes with
    | .error r => ends false s (s.raiseCondition (.laneError r))
    | .ok f =>
      if 32 ≤ s.lane.rx.length then ends false s (s.raiseCondition (.laneError .overflow))
      else ends false s { s with lane := s.lane.place f }
  else .next s

/-- RETURN_FRAME_SENT (R166): the frame has been sent in full and the next is chosen. -/
def execReturnFrameSent (s : State) : Host.Outcome State Fault Refusal :=
  if s.lane.aligned && s.lane.sending.isSome then ends false s { s with lane := { s.lane with sending := none } } else .next s

/-- UNKNOWN_FRAME (R164): a frame of no forward kind is answered UNKNOWN. -/
def execUnknownFrame (s : State) : Host.Outcome State Fault Refusal :=
  serve (fun f => !isForwardKind f.kind) (fun _ t => .refuse t .unknown) s

/-- A queue entry as STATUS READ reports it (Table 10.7.1). -/
def Entry.status (e : Entry) : StatusEntry :=
  match e.job with
  | .swath i _ => .swath e.phase i
  | .advance d n r _ => .advance e.phase d n r
  | .cut => .cut e.phase

/-- The values of Table 10.7.1 as they stand now (R170). -/
def State.status (s : State) : Status where
  time := s.now
  queue := s.queue.map Entry.status
  holds := s.holds
  channels := Vector.ofFn fun c : Fin 6 =>
    ⟨s.accounts[c].level, s.accounts[c].known, s.accounts[c].reserved, s.supply[c].state, s.carts[c].state,
      s.service.ladders[c].state⟩
  currentGen := s.maps.currentGen
  retainedGen := s.maps.retainedGen
  commitPending := s.maps.commitPending
  station := s.service.inFlight.map (·.req.op)
  path := s.feed.path
  feedPos := s.feed.pos
  remaining := s.feed.remaining
  conditions := s.lane.conditions
  stop := s.stop

/-- STATUS_READ (R170). -/
def execStatusRead (s : State) : Host.Outcome State Fault Refusal :=
  serve (ofKind 0x1A#8) (noBody fun t => ⟨t, .done, .status t.status⟩) s

/-- Clear the named conditions (R169); clearing EVENTS LOST drops a waiting overflow notice. -/
def Lane.clear (l : Lane) (named : List Condition) : Lane :=
  { l with
    conditions := named.foldl (fun set k => set.put false k) l.conditions
    notice := l.notice && !named.contains .eventsLost }

/-- The answer to CLEAR CONDITIONS; the clearing of STATION FAULT makes the tests of R104 and R105 (R169). -/
def State.clearNamed (s : State) (named : List Condition) : State :=
  let t : State := { s with lane := s.lane.clear named }
  if s.lane.conditions.stationFault && named.contains .stationFault then t.wearTests.capTest else t

/-- CLEAR_CONDITIONS (R169). -/
def execClearConditions (s : State) : Host.Outcome State Fault Refusal :=
  serve (ofKind 0x1B#8)
    (oneByte maskConditions fun named t =>
      let u := t.clearNamed named
      ⟨u, .done, .conditions u.lane.conditions⟩) s

end Sys2Proof.Machine
end

