-- ==== Sys2Proof/Machine/MediaCommands.lean ====
section
/-!
DEFINITION. LOAD MEDIA, UNLOAD MEDIA and EJECT (R118, R132, R133, R134).
-/

namespace Sys2Proof.Machine

/-- A source cannot be loaded now: no sheet in its slot, or the roll has ended (R118). -/
def State.sourceMissing (s : State) (src : Source) : Bool :=
  match src.rollEnd with
  | some i => s.active i
  | none => s.inactive 5

/-- A load begins (R118, R119). -/
def State.startLoad (s : State) (src : Source) (p : Fin 16) (mm : Nat) : State :=
  let known := decide (src ≠ .sheet) && decide (mm ≠ 0)
  let m := s.beginAttempt (newMotion s.now (.load .forward 0 none none none) .request) none
  ((s.setFeed { s.feed with
      path := .loading, source := some src, profile := some p
      rollRemaining := if known then some (mm * 1000) else none
      rollLow := if known then false else s.feed.rollLow
      residue := 0, window := [], attempt := 1, motion := some m }).sheetEnds).redrive

/-- The answer to LOAD MEDIA: source, profile and roll length in mm (R118). -/
def loadMedia (body : List Byte) (s : State) : Answer :=
  match body with
  | [a, p, l2, l1, l0] =>
    let mm := bigEndian [l2, l1, l0]
    match byteSource a, intFin 16 p.toNat with
    | some src, some profile =>
      if src ≠ .sheet ∧ 300000 < mm then .refuse s .range
      else if !(s.feed.path = .empty || s.feed.path = .held) || s.stop.set || s.sourceMissing src then .refuse s .state
      else .done (s.startLoad src profile mm)
    | _, _ => .refuse s .range
  | _ => .refuse s .range

/-- LOAD_MEDIA (R118). -/
def execLoadMedia (s : State) : Host.Outcome State Fault Refusal := serve (ofKind 0x0A#8) loadMedia s

/-- A feed or cutter motion, or a pass, is in flight (R132, R133). -/
def State.moving (s : State) : Bool := s.feed.motion.isSome || s.pass.isSome

/-- The engaged source is a roll. -/
def Feed.onRoll (f : Feed) : Bool := (f.source.bind Source.rollEnd).isSome

/-- EJECT or UNLOAD MEDIA of a JAMMED path: the media must be clear of the path sensor (R134). -/
def clearJam (s : State) : Answer := if s.inactive 2 then .done s.mediaOut else .refuse s .state

/-- The answer to UNLOAD MEDIA (R133, R134). -/
def unloadMedia (s : State) : Answer :=
  if s.feed.path = .jammed then clearJam s
  else if s.stop.set then .refuse s .state
  else if s.moving then .refuse s .busy
  else if s.feed.path = .ready && s.feed.onRoll then .done s.startUnload
  else .refuse s .state

/-- UNLOAD_MEDIA (R133, R134). -/
def execUnloadMedia (s : State) : Host.Outcome State Fault Refusal := serve (ofKind 0x0B#8) (noBody unloadMedia) s

/-- The path states and sources from which EJECT begins an eject (R132). -/
def Feed.ejectable (f : Feed) : Bool :=
  match f.path with
  | .ready => f.source = some .sheet
  | .tailOut | .held => true
  | _ => false

/-- The answer to EJECT (R132, R134), its refusals in the order of R132: a motion in flight is answered BUSY in every path state but
JAMMED (log 58). -/
def ejectMedia (s : State) : Answer :=
  if s.feed.path = .jammed then clearJam s
  else if s.stop.set then .refuse s .state
  else if s.moving then .refuse s .busy
  else if s.feed.ejectable then .done (s.startEject .request)
  else .refuse s .state

/-- EJECT (R132, R134). -/
def execEject (s : State) : Host.Outcome State Fault Refusal := serve (ofKind 0x0C#8) (noBody ejectMedia) s

end Sys2Proof.Machine
end

