-- ==== Sys2Proof/Machine/PassCommands.lean ====
section
/-!
DEFINITION. The arbiter's grant, the strobes and the end of a pass (R29, R33, R34, R37, R38, R108).
-/

namespace Sys2Proof.Machine

/-- The carriage is granted to the print pass: the flag is cleared, the gate evaluates once more, and the swath is released or the grant
returned unused (R29, R108). -/
def State.grantPass (s : State) : State :=
  let s1 : State := { s with service := { s.service with passAsked := false } }
  match s1.queue with
  | ⟨.swath i rep, .waiting⟩ :: rest =>
    if (s1.swathHolds s1.slots[i]).isEmpty then s1.release i rep rest else s1.evaluateSwath i rep rest
  | _ => s1

/-- One arbitration (R101, R108): the PRIMEs are tested, and the first grantable entry of Table 6.4.2 is granted. -/
def State.arbitrate (s : State) : State :=
  let s1 := State.arbitratePrimes channels s
  match s1.firstRequest with
  | some r => if s1.service.passAsked && decide (5 < r.op.rank) then s1.grantPass else s1.grantOp r
  | none => if s1.service.passAsked then s1.grantPass else s1

/-- ARBITER_GRANT (R108). -/
def execArbiterGrant (s : State) : Host.Outcome State Fault Refusal := if s.mayGrant then ends false s s.arbitrate else .next s

/-- SPITTOON_STROBE (R33): the first strobe of a pass; the planned bursts are sent to the head drivers. -/
def execSpittoonStrobe (s : State) : Host.Outcome State Fault Refusal :=
  match s.pass with
  | some p =>
    if p.spitDone then .next s
    else
      ends false s { s with
        pass := some (p.spat s.now s.driveEnable)
        out := { s.out with firing := p.spitDrops s.driveEnable, shots := p.spitShots } }
  | none => .next s

/-- COLUMN_STROBE (R33 to R36): accepted when it names the next carriage column of the traverse. -/
def execColumnStrobe (x : Nat) (s : State) : Host.Outcome State Fault Refusal :=
  match s.pass with
  | some p =>
    if p.nextColumn = some x then
      let fired := s.fires p x
      ends false s { s with pass := some (p.strobed s.now x fired), out := { s.out with firing := fired, shots := Vector.replicate 6 1 } }
    else .next s
  | none => .next s

/-- PASS_COMPLETION (R37, R38): accepted only after the strobe of the last column. -/
def execPassCompletion (s : State) : Host.Outcome State Fault Refusal :=
  match s.pass with
  | some p => if p.crossed then ends false s (s.endPass p true) else .next s
  | none => .next s

/-- STROBE_TIMEOUT (R37): a strobe's time has run out. -/
def execStrobeTimeout (s : State) : Host.Outcome State Fault Refusal :=
  match s.pass.bind (·.deadline) with
  | some t => if t ≤ s.now then ends false s (s.setStop .strobeTimeout) else .next s
  | none => .next s

end Sys2Proof.Machine
end

