-- ==== Sys2Proof/Machine/QueueCommands.lean ====
section
/-!
DEFINITION. The print order: ADVANCE, CUT, ABORT, and RESUME (2.1, 2.6, 8.5).
-/

namespace Sys2Proof.Machine

/-- Append an entry where the queue has room (R22). -/
def appendJob (j : Job) (s : State) : Answer := if 16 ≤ s.queue.length then .refuse s .full else .done (s.append j)

/-- The answer to ADVANCE: a distance in µm (R22). -/
def askAdvance (body : List Byte) (s : State) : Answer :=
  match body with
  | [a, b, c] =>
    let d := bigEndian [a, b, c]
    if d < 1 ∨ 1500000 < d then .refuse s .range else appendJob (.advance d none none false) s
  | _ => .refuse s .range

/-- ADVANCE (R22). -/
def execAdvance (s : State) : Host.Outcome State Fault Refusal := serve (ofKind 0x05#8) askAdvance s

/-- CUT (R22). -/
def execCut (s : State) : Host.Outcome State Fault Refusal := serve (ofKind 0x06#8) (noBody (appendJob .cut)) s

/-- A slot that ABORT finds COMPOSING, or QUEUED with its entry removed, is freed (R17, R19). -/
def State.freeUnprinted (s : State) (i : SlotIx) : State :=
  match s.slots[i].state with
  | .composing | .queued => s.freeSlot i
  | _ => s

/-- What ABORT does (R41, R19, R136; log 14): the pass aborted, every entry removed, the slots freed and an ENTRY motion orphaned. -/
def State.abort (s : State) : State :=
  let s1 := s.abortPass
  let s2 : State := { s1 with
    queue := [], holds := {}, wetEdge := none, feed := s1.feed.orphaned, service := { s1.service with passAsked := false } }
  (List.finRange 8).foldl State.freeUnprinted s2

/-- ABORT (R41). -/
def execAbort (s : State) : Host.Outcome State Fault Refusal := serve (ofKind 0x07#8) (noBody fun t => .done t.abort) s

/-- The answer to RESUME (R150): refused while a stop source is active, otherwise the latch is cleared and a paused motion goes on. -/
def resumeEngine (s : State) : Answer :=
  if s.stop.set then
    if s.stopSource then .refuse s .state else .done ({ s with stop := ⟨false, none⟩ } : State).resumeMotion
  else .done s

/-- RESUME (R150). -/
def execResume (s : State) : Host.Outcome State Fault Refusal := serve (ofKind 0x08#8) (noBody resumeEngine) s

end Sys2Proof.Machine
end

