-- ==== Sys2Proof/Machine/ResetCommands.lean ====
section
/-!
DEFINITION. POWER_ON and ENGINE RESET (R152, R171, and each block's rule for them).
-/

namespace Sys2Proof.Machine

/-- The part right after power-on, with the raw input levels given to the filters (R146, R152; log 7). -/
def State.powerOn (s : State) (raw : Vector Bool 16) : State :=
  (List.finRange 16).foldl (fun t i => t.rawInput i raw[i]) { State.reset with pending := s.pending }

/-- POWER_ON (R152): everything takes its power-on value. -/
def execPowerOn (raw : Vector Bool 16) (s : State) : Host.Outcome State Fault Refusal :=
  ends false { State.reset with pending := s.pending } (s.powerOn raw)

/-- Every slot becomes FREE, and the Retained bank is emptied (R20, R83). -/
def State.freeAll (s : State) : State := ({ s with slots := Vector.replicate 8 blankSlot } : State).dropRetained

/-- The station, the carriage and the pending requests at ENGINE RESET (R96). -/
def State.resetService (s : State) : State :=
  { s with
    service := { s.service with
      pending := [], passAsked := false, holder := .free, docked := false, idleSince := s.now, uncapInFlight := false }
    out := { s.out with carriage := .stop, station := .stop } }

/-- ENGINE RESET clears every ink need, and the supply states are formed again (R58, R61). -/
def State.resetNeeds (s : State) : State :=
  ({ s with supply := s.supply.map fun r => { r with need := none } } : State).reformAll

/-- What ENGINE RESET does in every block (R171): the pass aborted and charged, the queue emptied, the operation and the motions
abandoned, the slots freed, the station and ladders reset, the supply states formed again, the feed record reset, the stop latch cleared
and tested again, and the supply and wear requests placed once more (R42, R20, R112, R96, R113, R58, R137, R151, R59, R104).
The ladders become NORMAL in ascending channel order (log 66). -/
def State.engineReset (s : State) : State :=
  let s1 := s.abortPass.abandonOp.freeAll.resetService
  let s2 := channels.foldl State.resetLadder { s1 with queue := [], holds := {}, wetEdge := none, driveEnable := false }
  let s3 := s2.resetNeeds.resetFeed
  let s4 := ({ s3 with stop := ⟨false, none⟩ } : State).settlingTest
  (channels.foldl State.replaceSupplyRequests s4).wearTests

/-- ENGINE_RESET (R171): by request, answered DONE in every state. -/
def execEngineReset (s : State) : Host.Outcome State Fault Refusal := serve (ofKind 0x09#8) (noBody fun t => .done t.engineReset) s

/-- ENGINE_RESET_LINE (R171): the same effects, without a reply. -/
def execEngineResetLine (s : State) : Host.Outcome State Fault Refusal := ends false s s.engineReset

end Sys2Proof.Machine
end

