-- ==== Sys2Proof/Machine/ScanCommands.lean ====
section
/-!
DEFINITION. The Sensor Scan Unit's steps: SCAN START, SCAN STOP, SCAN NOW, conversions, the periodic timer and stale results (chapter 8).
-/

namespace Sys2Proof.Machine

/-- SCAN START copies the mode record and begins (R144). -/
def Scan.start (now : Nat) (m : ModeRec) (v : Scan) : Scan :=
  { v with
    running := true, mode := m.mode, startIn := m.startIn, endIn := m.endIn, period := m.period
    sweep := if m.mode = .continuous then some m.startIn else none
    periodicAt := if m.mode = .triggered then some (now + m.period) else none }

/-- SCAN_START (R144). -/
def execScanStart (s : State) : Host.Outcome State Fault Refusal :=
  serve (ofKind 0x15#8) (noBody fun t => .done { t with scan := t.scan.start t.now t.tables.mode }) s

/-- SCAN STOP (R144). -/
def Scan.stop (v : Scan) : Scan := { v with running := false, sweep := none, periodicAt := none }

/-- SCAN_STOP (R144). -/
def execScanStop (s : State) : Host.Outcome State Fault Refusal :=
  serve (ofKind 0x16#8) (noBody fun t => .done { t with scan := t.scan.stop }) s

/-- The answer to SCAN NOW (R144). -/
def scanNow (s : State) : Answer :=
  if s.scan.running && s.scan.mode = .triggered then .done { s with scan := s.scan.trigger } else .refuse s .state

/-- SCAN_NOW (R144). -/
def execScanNow (s : State) : Host.Outcome State Fault Refusal := serve (ofKind 0x17#8) (noBody scanNow) s

/-- A conversion of input i ends with a raw value (R140): the result is stored valid, the sweep moves on, and the consumers compare it. -/
def State.converted (s : State) (i : AIn) (raw : Nat) : State :=
  let v := scaled s.tables.scan[i] raw
  let s1 : State := { s with scan := { s.scan with
    results := setAt s.scan.results i ⟨v, some s.now, true⟩, sweep := s.scan.after i } }
  (s1.watchMark i v).guardPressure i v

/-- CONVERSION_END (R140): of the input that the sweep is converting; every conversion makes the gate evaluate again. -/
def execConversionEnd (raw : Nat) (s : State) : Host.Outcome State Fault Refusal :=
  match s.scan.sweep with
  | some i => ends true s (s.converted i raw)
  | none => .next s

/-- PERIODIC_TIMER_EXPIRY (R143): a trigger, and the next expiry one period on. -/
def execPeriodicTimerExpiry (s : State) : Host.Outcome State Fault Refusal :=
  match s.scan.periodicAt with
  | some t =>
    if t ≤ s.now then ends false s { s with scan := { s.scan.trigger with periodicAt := some (t + s.scan.period) } } else .next s
  | none => .next s

/-- RESULT_STALE_EXPIRY (R141): a valid result has reached its maximum age. -/
def execResultStaleExpiry (i : AIn) (s : State) : Host.Outcome State Fault Refusal :=
  match s.scan.results[i].valid, s.scan.results[i].convertedAt with
  | true, some t => if t + s.tables.scan[i].maxAge ≤ s.now then ends false s (s.makeStale i) else .next s
  | _, _ => .next s

end Sys2Proof.Machine
end

