-- ==== Sys2Proof/Machine/ServiceCommands.lean ====
section
/-!
DEFINITION. The formatter's station, ladder, map and cartridge requests (R67, R76, R90, R110, R116).
-/

namespace Sys2Proof.Machine

/-- WIPE (R110): a head. -/
def execWipe (s : State) : Host.Outcome State Fault Refusal :=
  serve (ofKind 0x0D#8) (oneByte byteHead fun h t => .done (t.place (.wipe h) none byFormatter)) s

/-- The answer to PRIME (R110). -/
def askPrime (c : Channel) (s : State) : Answer :=
  match s.tables.kindOf c with
  | some _ => .done (s.place (.prime c) none byFormatter)
  | none => .refuse s .state

/-- PRIME (R110): a channel. -/
def execPrime (s : State) : Host.Outcome State Fault Refusal := serve (ofKind 0x0E#8) (oneByte byteChannel askPrime) s

/-- CHECK_NOZZLES (R110): a channel mask. -/
def execCheckNozzles (s : State) : Host.Outcome State Fault Refusal :=
  serve (ofKind 0x0F#8) (oneByte checkMask fun set t => .done (t.place (.check set) none byFormatter)) s

/-- The answer to CAP: placed when UNCAPPED or an uncap is in flight, otherwise dropped (R110). -/
def askCap (s : State) : Answer :=
  if !s.service.capped || s.service.uncapInFlight then .done (s.place .cap none byFormatter) else .done s

/-- CAP (R110). -/
def execCap (s : State) : Host.Outcome State Fault Refusal := serve (ofKind 0x10#8) (noBody askCap) s

/-- The answer to FILL TO MARK (R67). -/
def askFill (c : Channel) (s : State) : Answer :=
  if s.canSupply c then .done (s.requestRefill c .fill none byFormatter) else .refuse s .state

/-- FILL_TO_MARK (R67): a channel. -/
def execFillToMark (s : State) : Host.Outcome State Fault Refusal := serve (ofKind 0x11#8) (oneByte byteChannel askFill) s

/-- A ladder reset by the formatter (R116): NORMAL with the last count as its baseline, one LADDER event in every state, and LADDER taken
from the origins of the channel's pending requests. -/
def State.formatterResetsLadder (s : State) (c : Channel) : State :=
  let l := s.service.ladders[c]
  let l' : Ladder := { l with
    state := .normal, phase := none, baseline := l.last, suspStep := none, suspPhase := none, cause := none }
  let s1 := s.setLadder c l'
  let s2 := if l.state = .normal then s1.raise (l'.event c) else s1
  s2.dropLadder (·.ofLadder c)

/-- RESET_LADDER (R116): a channel. -/
def execResetLadder (s : State) : Host.Outcome State Fault Refusal :=
  serve (ofKind 0x12#8) (oneByte byteChannel fun c t => .done (t.formatterResetsLadder c)) s

/-- COMMIT_MAP (R90). -/
def execCommitMap (s : State) : Host.Outcome State Fault Refusal :=
  serve (ofKind 0x13#8) (noBody fun t => .done { t with maps := { t.maps with commitPending := true } }) s

/-- The answer to TAG READ (R76). -/
def askTagRead (c : Channel) (s : State) : Answer :=
  match s.carts[c].state with
  | .absent | .accepted | .low | .empty => .refuse s .state
  | .reading => .refuse s .busy
  | .rejected | .tagFault => .done (s.beginInsertion c)

/-- TAG_READ (R76): a cartridge slot. -/
def execTagRead (s : State) : Host.Outcome State Fault Refusal := serve (ofKind 0x14#8) (oneByte byteChannel askTagRead) s

end Sys2Proof.Machine
end

