-- ==== Sys2Proof/Machine/StationReports.lean ====
section
/-!
DEFINITION. What the station and the carriage report: docks, faults, timeouts and completions (6.3, 6.4, R63).
-/

namespace Sys2Proof.Machine

/-- The carriage controller reports the dock: the carriage is DOCKED and the sequence of the operation in flight runs (R109). -/
def State.docks (s : State) : State :=
  let s1 : State := { s with service := { s.service with docked := true } }
  match s1.service.inFlight with
  | some o => if o.running then s1 else s1.beginSequence o
  | none => s1

/-- DOCK_REPORTED (R109): of the dock last commanded. -/
def execDockReported (s : State) : Host.Outcome State Fault Refusal :=
  if !s.service.docked && s.out.carriage = .dock then ends false s s.docks else .next s

/-- DOCK_FAILED (R111): the dock of the operation in flight has failed. -/
def execDockFailed (s : State) : Host.Outcome State Fault Refusal :=
  match s.service.inFlight with
  | some o => if o.running then .next s else ends false s (s.failOp o false)
  | none => .next s

/-- STATION_DRIVE_FAULT (R111, R67): of the operation in flight. -/
def execStationDriveFault (s : State) : Host.Outcome State Fault Refusal :=
  match s.service.inFlight with
  | some o => ends false s (s.failOp o false)
  | none => .next s

/-- STATION_OP_TIMEOUT (R111, R67, R157). -/
def execStationOpTimeout (s : State) : Host.Outcome State Fault Refusal :=
  match s.service.inFlight with
  | some o => if o.timeoutAt ≤ s.now then ends false s (s.failOp o true) else .next s
  | none => .next s

/-- The operation in flight whose sequence runs. -/
def Service.running (v : Service) : Option OpInFlight :=
  match v.inFlight with
  | some o => if o.running then some o else none
  | none => none

/-- A WIPE of head h has completed (R100, R114); its ladders move in ascending channel order (log 66). -/
def State.wipeDone (s : State) (o : OpInFlight) (h : Head) : State :=
  let s1 := ((s.opCharged o wholeProgress).wiped h).opDone
  (channels.filter fun c => headOf c = h).foldl (State.serveLadder · [.wipeCheck] ·) s1

/-- WIPE_COMPLETION (R100). -/
def execWipeCompletion (s : State) : Host.Outcome State Fault Refusal :=
  match s.service.running with
  | some o =>
    match o.req.op with
    | .wipe h => ends false s (s.wipeDone o h)
    | _ => .next s
  | none => .next s

/-- A PRIME of channel c has completed (R101, R114): the pending WIPE of its head is withdrawn; the ladders move in
ascending channel order (log 66). -/
def State.primeDone (s : State) (o : OpInFlight) (c : Channel) : State :=
  let h := headOf c
  let s1 := (((s.opCharged o wholeProgress).wiped h).withdraw fun op => op = .wipe h).opDone
  (channels.filter fun d => headOf d = h).foldl
    (fun t d => t.serveLadder (if d = c then [.wipeCheck, .primeCheck, .prime2Check] else [.wipeCheck]) d) s1

/-- PRIME_COMPLETION (R101). -/
def execPrimeCompletion (s : State) : Host.Outcome State Fault Refusal :=
  match s.service.running with
  | some o =>
    match o.req.op with
    | .prime c => ends false s (s.primeDone o c)
    | _ => .next s
  | none => .next s

/-- A CHECK's result is applied to the Next bank; auto-commit sets the pending flag where the check changed something (R88, R90). -/
def State.applyCheck (s : State) (set : ChannelSet) (dead : List (Channel × Nat)) : State :=
  let next := s.maps.next.applyCheck s.tables set dead
  { s with maps := { s.maps with
      next := next
      commitPending := s.maps.commitPending || (s.tables.service.autoCommit && s.maps.next.deadChanged next) } }

/-- A CHECK of a set of channels has completed with the dead nozzles found (R102, steps 1 to 4); that the ladders take its result in ascending
channel order is the model's choice (log 66). -/
def State.checkDone (s : State) (o : OpInFlight) (set : ChannelSet) (dead : List (Channel × Nat)) : State :=
  let figures := checkFigures set dead
  let s1 := s.applyCheck set dead
  let setNow := s1.maps.commitPending && !s.maps.commitPending
  let s2 := ((s1.opCharged o wholeProgress).opDone).raise (.checkResult set figures setNow)
  channels.foldl (fun t c => match figures[c] with
    | some f => t.ladderResult c f
    | none => t) s2

/-- CHECK_COMPLETION (R102). -/
def execCheckCompletion (dead : List (Channel × Nat)) (s : State) : Host.Outcome State Fault Refusal :=
  match s.service.running with
  | some o =>
    match o.req.op with
    | .check set => ends false s (s.checkDone o set dead)
    | _ => .next s
  | none => .next s

/-- CAP_COMPLETION (R103): the heads are CAPPED. -/
def execCapCompletion (s : State) : Host.Outcome State Fault Refusal :=
  match s.service.running with
  | some o =>
    if o.req.op = .cap then ends false s ({ s with service := { s.service with capped := true } } : State).opDone else .next s
  | none => .next s

/-- CAP_DELAY_EXPIRY (R105). -/
def execCapDelayExpiry (s : State) : Host.Outcome State Fault Refusal := ends false s s.capTest

/-- REFILL_STROKE_COMPLETE (R63): of the stroke in progress of the refill in flight. -/
def execRefillStrokeComplete (s : State) : Host.Outcome State Fault Refusal :=
  match s.service.running.bind (·.req.op.refillChannel) with
  | some c =>
    match s.supply[c].refill with
    | some k => if k.inStroke then ends false s (s.strokeDone c k) else .next s
    | none => .next s
  | none => .next s

end Sys2Proof.Machine
end

