-- ==== Sys2Proof/WellFormed.lean ====
section
/-!
DEFINITION. Which commands are well formed: their operands lie in the ranges the spec gives what is reported.
The meanings are total: an ill-formed command runs too, and Machine/*.lean says how.
-/

namespace Sys2Proof

/-- A tag's answer lies in the ranges of Table 4.4.1. -/
def TagAnswer.wf : TagAnswer → Bool
  | .violation => true
  | .wrongLength => true
  | .readData code capacity remaining serial =>
    code ≤ 255 && capacity ≤ 1000000 && remaining ≤ 1000000 && serial ≤ 9999999999
  | .deductData remaining => remaining ≤ 1000000

/-- The operands of a command lie in the ranges of the spec: carriage columns 0..57,599 (00_scope 2.4), nozzles 0..767
(00_scope 2.3), raw values 0..4,095 (R140), a tag's answer by Table 4.4.1, and an encoder report of at least one count (R122). -/
def Instr.wf : Instr → Bool
  | .columnStrobe column => column ≤ 57599
  | .checkCompletion dead => dead.all fun d => d.2 ≤ 767
  | .tagBackwardFrame _ answer => answer.wf
  | .feedEncoderCount delta => delta ≠ 0
  | .conversionEnd raw => raw ≤ 4095
  | .powerOn _ | .engineReset | .engineResetLine | .laneAligned | .laneReset | .forwardFrameReceived _ | .returnFrameSent
  | .unknownFrame | .swathOpen | .slice | .swathClose | .swathDiscard | .advance | .cut | .abort | .resume | .loadMedia
  | .unloadMedia | .eject | .wipe | .prime | .checkNozzles | .cap | .fillToMark | .resetLadder | .commitMap | .tagRead
  | .scanStart | .scanStop | .scanNow | .tableWrite | .substitutionAdd | .substitutionRemove | .substitutionClear
  | .tableRead | .statusRead | .clearConditions | .arbiterGrant | .advanceStart | .cutStart | .spittoonStrobe
  | .passCompletion | .strobeTimeout | .dockReported | .dockFailed | .stationDriveFault | .stationOpTimeout
  | .wipeCompletion | .primeCompletion | .capCompletion | .capDelayExpiry | .refillStrokeComplete | .tagTimeout _
  | .lampBlinkToggle _ | .rawInputChange _ _ | .inputFilterExpiry _ | .advanceSettled | .feedStall | .cutTimeout
  | .loadEdgeSettled | .loadBackfeedDone | .loadNoEdge | .ejectComplete | .ejectLimit | .unloadComplete | .unloadLimit
  | .dryTimerExpiry | .periodicTimerExpiry | .resultStaleExpiry _ => true

end Sys2Proof
end

