-- ==== Sys2Proof/Machine/SupplyReports.lean ====
section
/-!
DEFINITION. The tag links' answers and timeouts, and the lamps' blinking (4.4 to 4.6).
-/

namespace Sys2Proof.Machine

/-- A DEDUCT of a refill's deduction has succeeded: the amount sent is taken from what is owed (R74). -/
def State.deductSucceeds (s : State) (c : Channel) (amount : Nat) : State :=
  { s with carts := modifyAt s.carts c fun r => { r with owed := r.owed - amount, link := none } }

/-- An answer taken for the transaction in flight (R69): one of the wrong kind or length, or beyond its ranges, is a tag fault (log 29). -/
def State.tagAnswered (s : State) (c : Channel) (txn : TagTxn) (answer : TagAnswer) : State :=
  if answer.wf then
    match txn, answer with
    | .read, .readData code capacity remaining serial => s.readSucceeds c ⟨code, capacity, remaining, serial⟩
    | .insertDeduct amount info, .deductData remaining => s.insertDeductSucceeds c amount info remaining
    | .deduct amount, .deductData _ => s.deductSucceeds c amount
    | _, _ => s.tagFaults c
  else s.tagFaults c

/-- TAG_BACKWARD_FRAME (R69): one that comes after the 20 ms finds the transaction ended as a tag fault (log 28). -/
def execTagBackwardFrame (c : Channel) (answer : TagAnswer) (s : State) : Host.Outcome State Fault Refusal :=
  match s.carts[c].link with
  | some (txn, t) => ends false s (if s.now ≤ t then s.tagAnswered c txn answer else s.tagFaults c)
  | none => .next s

/-- TAG_TIMEOUT (R69): no backward frame has arrived after 20 ms. -/
def execTagTimeout (c : Channel) (s : State) : Host.Outcome State Fault Refusal :=
  match s.carts[c].link with
  | some (_, t) => if t ≤ s.now then ends false s (s.tagFaults c) else .next s
  | none => .next s

/-- A lamp's output toggles, and toggles again half a period on (R77). -/
def Lamp.toggle (l : Lamp) : Lamp :=
  match l.toggleAt, l.pattern.half with
  | some t, some h => { l with on := !l.on, toggleAt := some (t + h) }
  | _, _ => l

/-- LAMP_BLINK_TOGGLE (R77). -/
def execLampBlinkToggle (c : Channel) (s : State) : Host.Outcome State Fault Refusal :=
  match s.lamps[c].toggleAt with
  | some t => if t ≤ s.now then ends false s { s with lamps := modifyAt s.lamps c Lamp.toggle } else .next s
  | none => .next s

end Sys2Proof.Machine
end

