-- ==== Sys2Proof/Machine/TableCommands.lean ====
section
/-!
DEFINITION. The Table Store and the SUBSTITUTION table: TABLE WRITE, TABLE READ, and the edits of the Next bank (chapter 9, 5.4).
-/

namespace Sys2Proof.Machine

/-- What a write to a record comes to before it is stored (R153). -/
inductive WriteResult where
  | refused (o : ReplyOutcome)
  | stored (s : State) (clamped : List (Nat × Int))

/-- A write that puts fields into a record, checks the record that would result and the use of it, and stores it (R153). -/
def writeRecord {α : Type} (put : α → Nat → Int → FieldWrite α) (old : α) (fields : List (Nat × Int)) (valid : α → Bool)
    (inUse : Bool) (store : α → State) : WriteResult :=
  match putFields put fields old with
  | none => .refused .range
  | some (r, clamped) =>
    if !valid r then .refused .range else if inUse then .refused .inUse else .stored (store r) clamped

/-- An ink kind record is in use: bound to a channel while a slot is QUEUED or PRINTING (R154). -/
def State.inkInUse (s : State) (k : Fin 16) : Bool :=
  (channels.any fun c => s.tables.channel[c].kind = some k) &&
    s.slots.toList.any fun sl => sl.state = .queued || sl.state = .printing

/-- A write of INK KIND record k: its spit count enters the next post-wipe spit (R155). -/
def writeInk (k : Fin 16) (fields : List (Nat × Int)) (s : State) : WriteResult :=
  writeRecord InkKind.put s.tables.ink[k] fields (fun _ => true) (s.inkInUse k)
    fun r => ({ s with tables := { s.tables with ink := setAt s.tables.ink k r } } : State).respit

/-- Neither pressure window has a lower end above its upper end (R153 step 3). -/
def ChannelRec.windowsValid (r : ChannelRec) : Bool := r.gateLow ≤ r.gateHigh && r.stopLow ≤ r.stopHigh

/-- The channel's ink kind binding may not be changed: its level is known and above 0 (R154). A write that names the binding twice is refused
by any other value among them (log 13). -/
def State.bindingHeld (s : State) (c : Channel) (fields : List (Nat × Int)) : Bool :=
  s.accounts[c].known && decide (0 < s.accounts[c].level) &&
    fields.any fun f => f.1 = 0 && f.2 ≠ codeOrNone s.tables.channel[c].kind

/-- A write names the stroke volume or the cartridge-low level, fields 7 and 14 of the channel record (R73). -/
def namesCartridge (fields : List (Nat × Int)) : Bool := fields.any fun f => f.1 = 7 || f.1 = 14

/-- A channel record stored (R155, R156, R79, R85): a changed policy or partner re-resolves its Next list, a binding enters the next
post-wipe spit, a write of stroke volume or cartridge-low level forms the cartridge state again, and then the supply state is formed
again. Where one write changes both, the cartridge state is formed first, against the supply state that stood before (log 53). -/
def State.storeChannel (s : State) (c : Channel) (fields : List (Nat × Int)) (r : ChannelRec × Int) : State :=
  let old := s.tables.channel[c]
  let s1 : State := { s with tables := { s.tables with
    channel := setAt s.tables.channel c r.1, reverseShift := setAt s.tables.reverseShift (headOf c) r.2 } }
  let s2 : State := if old.policy ≠ r.1.policy ∨ old.partner ≠ r.1.partner then
      { s1 with maps := { s1.maps with next := s1.maps.next.reResolve s1.tables (channelSingle c) } }
    else s1
  ((if namesCartridge fields then s2.respit.reformCart c else s2.respit)).reformSupply c

/-- A write of CHANNEL record c. -/
def writeChannel (c : Channel) (fields : List (Nat × Int)) (s : State) : WriteResult :=
  writeRecord ChannelRec.put (s.tables.channel[c], s.tables.reverseShift[headOf c]) fields (fun r => r.1.windowsValid)
    (s.bindingHeld c fields) (s.storeChannel c fields)

/-- A write of MEDIA PROFILE record k: refused while it is the bound profile (R154). -/
def writeProfile (k : Fin 16) (fields : List (Nat × Int)) (s : State) : WriteResult :=
  writeRecord Profile.put s.tables.profile[k] fields (fun _ => true) (s.feed.profile = some k)
    fun r => { s with tables := { s.tables with profile := setAt s.tables.profile k r } }

/-- A write of the SERVICE record: the wipe interval is tested at once (R157). -/
def writeService (fields : List (Nat × Int)) (s : State) : WriteResult :=
  writeRecord ServiceRec.put s.tables.service fields (fun _ => true) false fun r =>
    let s1 : State := { s with tables := { s.tables with service := r } }
    if fields.any (fun f => f.1 = 0) then s1.wearTests else s1

/-- A write of the SCAN record of an input: a valid result older than the new maximum age becomes stale at once (R158). -/
def writeScan (i : AIn) (fields : List (Nat × Int)) (s : State) : WriteResult :=
  writeRecord ScanRec.put s.tables.scan[i] fields (fun _ => true) false fun r =>
    let s1 : State := { s with tables := { s.tables with scan := setAt s.tables.scan i r } }
    if s1.scan.results[i].valid && !s1.fresh i then s1.makeStale i else s1

/-- A write of the SCAN table's mode record (R158). -/
def writeMode (fields : List (Nat × Int)) (s : State) : WriteResult :=
  writeRecord ModeRec.put s.tables.mode fields (fun _ => true) false
    fun r => { s with tables := { s.tables with mode := r } }

/-- A write of the INPUT record of an input (R158). -/
def writeInput (i : DIn) (fields : List (Nat × Int)) (s : State) : WriteResult :=
  writeRecord InputCfg.put s.tables.input[i] fields (fun _ => true) false
    fun r => { s with tables := { s.tables with input := setAt s.tables.input i r } }

/-- A write of a loaded table by its number and record index (R153, Table 9.1.1); none where there is no such record. -/
def writeTable (table index : Nat) (fields : List (Nat × Int)) (s : State) : Option WriteResult :=
  match table with
  | 0 => (intFin 16 index).map fun k => writeInk k fields s
  | 1 => (intFin 6 index).map fun c => writeChannel c fields s
  | 2 => (intFin 16 index).map fun k => writeProfile k fields s
  | 3 => if index = 0 then some (writeService fields s) else none
  | 4 => if index = 12 then some (writeMode fields s) else (intFin 12 index).map fun i => writeScan i fields s
  | 5 => (intFin 16 index).map fun i => writeInput i fields s
  | _ => none

/-- The answer to TABLE WRITE of a loaded table (R153). -/
def tableWrite (body : List Byte) (s : State) : Answer :=
  match readTableWrite body with
  | none => .refuse s .range
  | some (t, i, fields) =>
    match writeTable t i fields s with
    | none => .refuse s .range
    | some (.refused o) => .refuse s o
    | some (.stored s' []) => .done s'
    | some (.stored s' (c :: cs)) => ⟨s', .clamped, .clamped (c :: cs)⟩

/-- The frame is a TABLE WRITE that is none of the three SUBSTITUTION operations. -/
def isTableWrite (f : Frame) : Bool :=
  ofKind 0x18#8 f && !(isSubstitution 0 f || isSubstitution 1 f || isSubstitution 2 f)

/-- TABLE_WRITE (R153 to R158). -/
def execTableWrite (s : State) : Host.Outcome State Fault Refusal := serveWith true isTableWrite tableWrite s

/-- The channel and the nozzle of a SUBSTITUTION write. -/
def substitutionTarget (body : List Byte) : Option Channel × Nat :=
  match body with
  | [_, c, _, n1, n0] => (byteChannel c, bigEndian [n1, n0])
  | _ => (none, 0)

/-- Write the Next bank. -/
def State.setNext (s : State) (b : Bank) : State := { s with maps := { s.maps with next := b } }

/-- The answer to SUBSTITUTION ADD (R86). -/
def substitutionAdd (body : List Byte) (s : State) : Answer :=
  match substitutionTarget body with
  | (some c, n) =>
    if 767 < n then .refuse s .range
    else
      let r := s.maps.next.add s.tables c n
      ⟨s.setNext r.1, r.2, .none⟩
  | _ => .refuse s .range

/-- SUBSTITUTION_ADD (R86, R159). -/
def execSubstitutionAdd (s : State) : Host.Outcome State Fault Refusal := serve (isSubstitution 0) substitutionAdd s

/-- The answer to SUBSTITUTION REMOVE (R87). -/
def substitutionRemove (body : List Byte) (s : State) : Answer :=
  match substitutionTarget body with
  | (some c, n) => if 767 < n then .refuse s .range else .done (s.setNext (s.maps.next.remove s.tables c n))
  | _ => .refuse s .range

/-- SUBSTITUTION_REMOVE (R87, R159). -/
def execSubstitutionRemove (s : State) : Host.Outcome State Fault Refusal := serve (isSubstitution 1) substitutionRemove s

/-- The answer to SUBSTITUTION CLEAR (R87). -/
def substitutionClear (body : List Byte) (s : State) : Answer :=
  match substitutionTarget body with
  | (some c, _) => .done (s.setNext (s.maps.next.clear s.tables c))
  | _ => .refuse s .range

/-- SUBSTITUTION_CLEAR (R87, R159). -/
def execSubstitutionClear (s : State) : Host.Outcome State Fault Refusal := serve (isSubstitution 2) substitutionClear s

/-- The fields of a record of a loaded table as stored (R160). -/
def readRecord (table index : Nat) (s : State) : Option (List Int) :=
  let t := s.tables
  match table with
  | 0 => (intFin 16 index).map fun k => t.ink[k].fields
  | 1 => (intFin 6 index).map fun c => t.channel[c].fields t.reverseShift[headOf c]
  | 2 => (intFin 16 index).map fun k => t.profile[k].fields
  | 3 => if index = 0 then some t.service.fields else none
  | 4 => if index = 12 then some t.mode.fields else (intFin 12 index).map fun i => t.scan[i].fields
  | 5 => (intFin 16 index).map fun i => t.input[i].fields
  | _ => none

/-- A bank as a byte: 0 Current, 1 Retained, 2 Next (10.10). -/
def byteBank (b : Byte) : Option BankName :=
  if b.toNat = 0 then some .current else if b.toNat = 1 then some .retained else if b.toNat = 2 then some .next else none

/-- A bank's substitution list of a channel, with its generation and overflow flag (R93). -/
def Maps.readList (m : Maps) (b : BankName) (c : Channel) : ReplyData :=
  match b with
  | .current => .substitutions c (some m.currentGen) m.current.overflow[c] m.current.lists[c]
  | .retained => .substitutions c m.retainedGen m.retained.overflow[c] m.retained.lists[c]
  | .next => .substitutions c (some m.nextGen) m.next.overflow[c] m.next.lists[c]

/-- The answer to TABLE READ (R160). -/
def tableRead (body : List Byte) (s : State) : Answer :=
  match body with
  | [t, i] =>
    match readRecord t.toNat i.toNat s with
    | some l => ⟨s, .done, .fields l⟩
    | none => .refuse s .range
  | [t, b, c] =>
    match decide (t.toNat = 6), byteBank b, byteChannel c with
    | true, some bank, some ch => ⟨s, .done, s.maps.readList bank ch⟩
    | _, _, _ => .refuse s .range
  | _ => .refuse s .range

/-- TABLE_READ (R160). -/
def execTableRead (s : State) : Host.Outcome State Fault Refusal := serve (ofKind 0x19#8) tableRead s

end Sys2Proof.Machine
end

