-- ==== Sys2Proof/Machine/Dispatch.lean ====
section
/-!
DEFINITION. The meaning of each command: one arm per constructor.
-/

namespace Sys2Proof.Machine

/-- The effect of a command on everything but the queue of waiting commands. -/
def exec (i : Instr) (s : State) : Host.Outcome State Fault Refusal :=
  match i with
  | .powerOn raw => Sys2Proof.Machine.execPowerOn raw s
  | .engineReset => Sys2Proof.Machine.execEngineReset s
  | .engineResetLine => Sys2Proof.Machine.execEngineResetLine s
  | .laneAligned => Sys2Proof.Machine.execLaneAligned s
  | .laneReset => Sys2Proof.Machine.execLaneReset s
  | .forwardFrameReceived bytes => Sys2Proof.Machine.execForwardFrameReceived bytes s
  | .returnFrameSent => Sys2Proof.Machine.execReturnFrameSent s
  | .unknownFrame => Sys2Proof.Machine.execUnknownFrame s
  | .swathOpen => Sys2Proof.Machine.execSwathOpen s
  | .slice => Sys2Proof.Machine.execSlice s
  | .swathClose => Sys2Proof.Machine.execSwathClose s
  | .swathDiscard => Sys2Proof.Machine.execSwathDiscard s
  | .advance => Sys2Proof.Machine.execAdvance s
  | .cut => Sys2Proof.Machine.execCut s
  | .abort => Sys2Proof.Machine.execAbort s
  | .resume => Sys2Proof.Machine.execResume s
  | .loadMedia => Sys2Proof.Machine.execLoadMedia s
  | .unloadMedia => Sys2Proof.Machine.execUnloadMedia s
  | .eject => Sys2Proof.Machine.execEject s
  | .wipe => Sys2Proof.Machine.execWipe s
  | .prime => Sys2Proof.Machine.execPrime s
  | .checkNozzles => Sys2Proof.Machine.execCheckNozzles s
  | .cap => Sys2Proof.Machine.execCap s
  | .fillToMark => Sys2Proof.Machine.execFillToMark s
  | .resetLadder => Sys2Proof.Machine.execResetLadder s
  | .commitMap => Sys2Proof.Machine.execCommitMap s
  | .tagRead => Sys2Proof.Machine.execTagRead s
  | .scanStart => Sys2Proof.Machine.execScanStart s
  | .scanStop => Sys2Proof.Machine.execScanStop s
  | .scanNow => Sys2Proof.Machine.execScanNow s
  | .tableWrite => Sys2Proof.Machine.execTableWrite s
  | .substitutionAdd => Sys2Proof.Machine.execSubstitutionAdd s
  | .substitutionRemove => Sys2Proof.Machine.execSubstitutionRemove s
  | .substitutionClear => Sys2Proof.Machine.execSubstitutionClear s
  | .tableRead => Sys2Proof.Machine.execTableRead s
  | .statusRead => Sys2Proof.Machine.execStatusRead s
  | .clearConditions => Sys2Proof.Machine.execClearConditions s
  | .arbiterGrant => Sys2Proof.Machine.execArbiterGrant s
  | .advanceStart => Sys2Proof.Machine.execAdvanceStart s
  | .cutStart => Sys2Proof.Machine.execCutStart s
  | .spittoonStrobe => Sys2Proof.Machine.execSpittoonStrobe s
  | .columnStrobe column => Sys2Proof.Machine.execColumnStrobe column s
  | .passCompletion => Sys2Proof.Machine.execPassCompletion s
  | .strobeTimeout => Sys2Proof.Machine.execStrobeTimeout s
  | .dockReported => Sys2Proof.Machine.execDockReported s
  | .dockFailed => Sys2Proof.Machine.execDockFailed s
  | .stationDriveFault => Sys2Proof.Machine.execStationDriveFault s
  | .stationOpTimeout => Sys2Proof.Machine.execStationOpTimeout s
  | .wipeCompletion => Sys2Proof.Machine.execWipeCompletion s
  | .primeCompletion => Sys2Proof.Machine.execPrimeCompletion s
  | .checkCompletion dead => Sys2Proof.Machine.execCheckCompletion dead s
  | .capCompletion => Sys2Proof.Machine.execCapCompletion s
  | .capDelayExpiry => Sys2Proof.Machine.execCapDelayExpiry s
  | .refillStrokeComplete => Sys2Proof.Machine.execRefillStrokeComplete s
  | .tagBackwardFrame slot answer => Sys2Proof.Machine.execTagBackwardFrame slot answer s
  | .tagTimeout slot => Sys2Proof.Machine.execTagTimeout slot s
  | .lampBlinkToggle lamp => Sys2Proof.Machine.execLampBlinkToggle lamp s
  | .rawInputChange input level => Sys2Proof.Machine.execRawInputChange input level s
  | .inputFilterExpiry input => Sys2Proof.Machine.execInputFilterExpiry input s
  | .feedEncoderCount delta => Sys2Proof.Machine.execFeedEncoderCount delta s
  | .advanceSettled => Sys2Proof.Machine.execAdvanceSettled s
  | .feedStall => Sys2Proof.Machine.execFeedStall s
  | .cutTimeout => Sys2Proof.Machine.execCutTimeout s
  | .loadEdgeSettled => Sys2Proof.Machine.execLoadEdgeSettled s
  | .loadBackfeedDone => Sys2Proof.Machine.execLoadBackfeedDone s
  | .loadNoEdge => Sys2Proof.Machine.execLoadNoEdge s
  | .ejectComplete => Sys2Proof.Machine.execEjectComplete s
  | .ejectLimit => Sys2Proof.Machine.execEjectLimit s
  | .unloadComplete => Sys2Proof.Machine.execUnloadComplete s
  | .unloadLimit => Sys2Proof.Machine.execUnloadLimit s
  | .dryTimerExpiry => Sys2Proof.Machine.execDryTimerExpiry s
  | .conversionEnd raw => Sys2Proof.Machine.execConversionEnd raw s
  | .periodicTimerExpiry => Sys2Proof.Machine.execPeriodicTimerExpiry s
  | .resultStaleExpiry input => Sys2Proof.Machine.execResultStaleExpiry input s

end Sys2Proof.Machine
end

