-- ==== Sys2Proof/Safety.lean ====
section
/-!
DEFINITION. The terms of the statements: what a step may change beyond its own effect, and the invariants of the part.
-/

namespace Sys2Proof.Machine

/-! ## What follows within a step -/

/-- The replies not yet sent in full, oldest first: the one being sent and the reply list (R165, R166). -/
def Lane.answers (l : Lane) : List Reply :=
  (match l.sending with
    | some (.reply r) => [r]
    | _ => []) ++ l.replies

/-- The events not yet sent in full, oldest first: the one being sent and the return queue (R166). -/
def Lane.reported (l : Lane) : List EventFrame :=
  (match l.sending with
    | some (.event e) => [e]
    | _ => []) ++ l.events

/-- A pending request stands for another: the same target, a kind granted no later, its channels and its origins (R106). -/
def Request.covers (q r : Request) : Prop :=
  q.op.matches r.op = true ∧ q.op.rank ≤ r.op.rank ∧ q.origins.union r.origins = q.origins ∧
    ∀ a b, q.op = .check a → r.op = .check b → channelUnion a b = a

/-- t is u but for what every step forms again: supply states and ink needs, requests added or merged, the gate's hold set, flag and
reported flags, a CAP withdrawn, a ladder resumed, events and conditions raised, a deduction sent, the lamps, and the return frame chosen.
Everything else of t is as in u. -/
structure Follows (u t : State) : Prop where
  now : t.now = u.now
  slots : t.slots = u.slots
  store : t.store = u.store
  queue : t.queue.map Entry.bare = u.queue.map Entry.bare
  wetEdge : t.wetEdge = u.wetEdge
  pass : t.pass = u.pass
  driveEnable : t.driveEnable = u.driveEnable
  accounts : t.accounts = u.accounts
  maps : t.maps = u.maps
  feed : t.feed = u.feed
  scan : t.scan = u.scan
  inputs : t.inputs = u.inputs
  stop : t.stop = u.stop
  tables : t.tables = u.tables
  out : t.out = u.out
  freeCount : t.freeCount = u.freeCount
  pending : t.pending = u.pending
  carts : ∀ c : Channel, { t.carts[c] with link := u.carts[c].link } = u.carts[c]
  links : ∀ c : Channel, u.carts[c].link ≠ none → t.carts[c].link = u.carts[c].link
  refills : ∀ c : Channel, t.supply[c].refill = u.supply[c].refill ∧ t.supply[c].faultMark = u.supply[c].faultMark
  stamps : t.service.stamps = u.service.stamps
  drops : t.service.drops = u.service.drops
  capped : t.service.capped = u.service.capped
  docked : t.service.docked = u.service.docked
  holder : t.service.holder = u.service.holder
  idleSince : t.service.idleSince = u.service.idleSince
  uncapInFlight : t.service.uncapInFlight = u.service.uncapInFlight
  requests : ∀ r ∈ u.service.pending, r.op ≠ .cap → ∃ q ∈ t.service.pending, q.covers r
  ladders : ∀ c : Channel, u.service.ladders[c].state ≠ .suspended → t.service.ladders[c] = u.service.ladders[c]
  aligned : t.lane.aligned = u.lane.aligned
  rx : t.lane.rx = u.lane.rx
  hold : t.lane.hold = u.lane.hold
  answers : t.lane.answers = u.lane.answers
  events : u.lane.reported <+: t.lane.reported
  latched : ∀ k, u.lane.conditions.latched k = true → t.lane.conditions.latched k = true

/-! ## Requests and reports -/

/-- The oldest frame of the receive buffer is a request with this kind, tag and body, and the reply list has room for its reply (R164). -/
abbrev State.asks (s : State) (kind tag : Byte) (body : List Byte) : Prop :=
  s.lane.rx.head? = some ⟨kind, tag, body⟩ ∧ s.lane.replies.length < 8

/-- u once the request has left the receive buffer and its reply stands last in the reply list (R163, R165). -/
def State.answered (u : State) (kind tag : Byte) (o : ReplyOutcome) (d : ReplyData := .none) : State :=
  { u with lane := (u.lane.pop).reply ⟨kind, tag, o, d⟩ }

/-- The step from s to t queues the event with its time, where the return queue has room for what a step queues: at most 32 events
wait in it (R166, R167). -/
def State.tells (s t : State) (e : Event) : Prop := s.lane.events.length ≤ 32 → ⟨s.now, e⟩ ∈ t.lane.reported

/-- The command gives a next state that is u but for what every step forms again. -/
def Runs (c : Instr) (s u : State) : Prop := ∃ t, exec c s = .next t ∧ Follows u t

/-- A slice fits its slot (R6), its channel apart. -/
abbrev SliceArgs.fits (a : SliceArgs) (sl : Slot) : Prop :=
  1 ≤ a.count ∧ a.count ≤ 64 ∧ 1 ≤ a.repeats ∧ a.repeats ≤ 4096 ∧ sl.first ≤ a.first ∧
    a.first + a.count * a.repeats - 1 ≤ sl.last ∧ a.data.length = a.count * (maskGroups a.mask).length * 8

/-- The slot refers to the generation (R83). -/
abbrev State.refersTo (s : State) (i : SlotIx) (g : Nat) : Prop :=
  s.slots[i].gen = some g ∧ (s.slots[i].state = .composing ∨ s.slots[i].state = .queued ∨ s.slots[i].state = .printing)

/-- A stop source is active (R150): an input stands at its stop level, or a valid pressure result lies outside its stop window. -/
abbrev State.stopping (s : State) : Prop :=
  (∃ i : DIn, (s.tables.input[i].routing = .rising ∧ s.inputs[i].level = some true) ∨
    (s.tables.input[i].routing = .falling ∧ s.inputs[i].level = some false)) ∨
  ∃ c : Channel, s.fresh (pressureInput c) = true ∧
    (s.scan.results[pressureInput c].value < s.tables.channel[c].stopLow ∨
      s.tables.channel[c].stopHigh < s.scan.results[pressureInput c].value)

/-- The account of a channel once the pass with these output counts has been charged to it (R51, R55). -/
def Account.charged (a : Account) (r : ReleaseRec) (n : Counts) : Account :=
  let d := debitOf (dropProduct r.vSmall r.vMedium r.vLarge r.coeff r.temp n 0) a.carry
  { level := a.level - d.1, known := a.known && decide (d.1 ≤ a.level), reserved := a.reserved - r.estimate, carry := d.2
    release := none }

/-- The account of a channel once station drops of product p have been charged to it (R53, R55). -/
def Account.serviced (a : Account) (p : Nat) : Account :=
  let d := debitOf p a.carry
  { a with level := a.level - d.1, known := a.known && decide (d.1 ≤ a.level), carry := d.2 }

/-- The channel's account once drops that the station fired for it have been charged: at the bound kind's values and the head's present
temperature, 70 °C when that is stale; a channel bound to none is charged nothing (R53). -/
def State.servicedAccount (s : State) (c : Channel) (n : Counts) : Account :=
  match s.tables.kindOf c with
  | some k =>
    s.accounts[c].serviced (dropProduct k.vSmall k.vMedium k.vLarge k.coeff
      (if s.fresh (tempInput (headOf c)) then s.scan.results[tempInput (headOf c)].value else 70) n 0)
  | none => s.accounts[c]

/-- The stroke checks of R63 pass for a refill of the channel. -/
abbrev State.strokeFits (s : State) (c : Channel) (k : Refill) : Prop :=
  (s.carts[c].state = .accepted ∨ s.carts[c].state = .low) ∧ k.strokeVolume ≤ s.carts[c].remaining ∧
    (k.kind = .fill → k.strokes < k.limit.getD 0 ∧ s.accounts[c].level + k.strokeVolume ≤ 12000000 ∧ s.fresh 9 = true)

/-! ## Invariants -/

/-- At most 16 entries, and only the head may be ACTIVE (R21, R23). -/
def State.QueueInv (s : State) : Prop := s.queue.length ≤ 16 ∧ ∀ e ∈ s.queue.tail, e.phase = .waiting

/-- The queue, the slots, the pass and an entry's motion agree (R13, R21, R23, R29): no slot has two entries; a slot is QUEUED exactly
when a WAITING entry names it; an ACTIVE SWATH entry is the head and the pass is its; a PRINTING slot is the slot of the pass; a motion
of an entry has its ACTIVE entry at the head. -/
def State.PassInv (s : State) : Prop :=
  (s.queue.filterMap fun e => match e.job with
    | .swath i _ => some i
    | _ => none).Nodup ∧
  (∀ i : SlotIx, s.slots[i].state = .queued ↔ ∃ rep, ⟨.swath i rep, .waiting⟩ ∈ s.queue) ∧
  (∀ i : SlotIx, s.slots[i].state = .printing ↔ ∃ p, s.pass = some p ∧ p.slot = i) ∧
  (∀ i rep, ⟨.swath i rep, .active⟩ ∈ s.queue → ∃ p, s.pass = some p ∧ p.slot = i) ∧
  (∀ p, s.pass = some p → ∃ rep rest, s.queue = ⟨.swath p.slot rep, .active⟩ :: rest) ∧
  ∀ m, s.feed.motion = some m → m.owner = .entry →
    ∃ j rest, s.queue = ⟨j, .active⟩ :: rest ∧ ∀ i rep, j ≠ .swath i rep

/-- Reservations (R50, R51): without a pass nothing is reserved and no release record stands; with one, each channel's reserved amount
is the estimate of its release record. -/
def State.ReserveInv (s : State) : Prop :=
  (s.pass = none → ∀ c : Channel, s.accounts[c].reserved = 0 ∧ s.accounts[c].release = none) ∧
    (s.pass ≠ none → ∀ c : Channel, ∃ r, s.accounts[c].release = some r ∧ s.accounts[c].reserved = r.estimate)

/-- The ladders (Table 6.5.1): a phase stands exactly in a state that performs a step, and a suspended step, its phase and a cause
exactly in SUSPENDED. -/
def State.LadderInv (s : State) : Prop :=
  ∀ c : Channel, let l := s.service.ladders[c]
    (l.phase.isSome = true ↔ l.state.inStep = true) ∧ (l.cause.isSome = true ↔ l.state = .suspended) ∧
      (l.suspPhase.isSome = true ↔ l.state = .suspended) ∧
      (l.state ≠ .suspended → l.suspStep = none) ∧ (l.state = .suspended → ∃ st, l.suspStep = some st ∧ st.inStep = true)

/-- No two pending requests match (R106). -/
def State.RequestInv (s : State) : Prop := s.service.pending.Pairwise fun q r => q.op.matches r.op = false

/-- The carriage (R62, R109): it is held by the pass exactly while one is in flight, a refill record stands exactly for the refill in
flight, and a sequence runs only with the carriage docked. -/
def State.CarriageInv (s : State) : Prop :=
  (s.pass.isSome = true ↔ s.service.holder = .pass) ∧
    (∀ c : Channel, s.supply[c].refill.isSome = true ↔ ∃ o, s.service.holder = .op o ∧ o.req.op.refillChannel = some c) ∧
    ∀ o, s.service.holder = .op o → o.running = true → s.service.docked = true

/-- The bounds of the Lane Interface (R163, R164, R166), and what it holds while UNALIGNED (R161, R172). -/
def State.LaneInv (s : State) : Prop :=
  s.lane.rx.length ≤ 32 ∧ s.lane.replies.length ≤ 8 ∧ s.lane.events.length ≤ 64 ∧
    (s.lane.hold = true → 8 < s.lane.rx.length) ∧ (s.lane.hold = false → s.lane.rx.length < 24) ∧
    (s.lane.notice = true → s.lane.conditions.eventsLost = true) ∧
    (s.lane.aligned = false → s.lane.rx = [] ∧ s.lane.replies = [] ∧ s.lane.sending = none)

/-- The ranges of the carries (R49, R74, R121) and of the tail window (R127). -/
def State.CarryInv (s : State) : Prop :=
  (∀ c : Channel, s.accounts[c].carry < 100000000 ∧ s.carts[c].tagCarry < 1000) ∧
    s.feed.residue < 3000000 ∧ s.feed.window.length ≤ 4

/-- The Swath Store stands in its canonical form. -/
def State.StoreInv (s : State) : Prop := Memory.wf s.store

/-- The supply state of every channel is the one that Table 4.1.2 gives (R58). -/
def State.SupplyInv (s : State) : Prop := ∀ c : Channel, s.supply[c].state = s.formedSupply c

/-- The lamp of every channel shows the pattern of Table 4.6.1 (R77). -/
def State.LampInv (s : State) : Prop :=
  ∀ c : Channel, s.lamps[c].pattern = lampPattern s.carts[c].state s.supply[c].state

/-- The hold-reason set and the pass asked flag without a WAITING head entry (R24, R108). -/
def State.HoldsInv (s : State) : Prop :=
  (s.queue = [] → s.holds = {} ∧ s.service.passAsked = false) ∧
    ∀ e l, s.queue = e :: l → e.phase = .active → s.holds = { stop := s.stop.set } ∧ s.service.passAsked = false

/-- While the stop latch is set no pass is in flight, the head drive enable is low, no station operation is in flight, and any motion is
paused (R148, R149, R112, R135). -/
def State.StopInv (s : State) : Prop :=
  s.stop.set = true →
    s.driveEnable = false ∧ s.pass = none ∧ s.service.inFlight = none ∧ ∀ m, s.feed.motion = some m → m.paused = true

/-- The substitute of an entry of channel c is no nozzle listed dead in the bank (R81). -/
def Bank.subAlive (b : Bank) (c : Channel) (e : SubEntry) : Prop :=
  match e.sub with
  | .partner p n => n ≤ 767 ∧ b.listed p n = false
  | .shift n => n ≤ 767 ∧ b.listed c n = false
  | .suppress => True

/-- A bank is sound (R81): at most 48 entries a list, ascending with no nozzle twice, within 0..767, and no substitute listed dead. -/
def Bank.Sound (b : Bank) : Prop :=
  ∀ c : Channel, b.lists[c].length ≤ 48 ∧ b.lists[c].Pairwise (fun x y => x.dead < y.dead) ∧
    ∀ e ∈ b.lists[c], e.dead ≤ 767 ∧ b.subAlive c e

/-- The three banks are sound, and every entry of Next is resolved as R84 says against the tables and Next's own dead nozzles
(R81, R85). -/
def State.MapInv (s : State) : Prop :=
  s.maps.current.Sound ∧ s.maps.retained.Sound ∧ s.maps.next.Sound ∧
    ∀ c : Channel, ∀ e ∈ s.maps.next.lists[c], e.sub = resolve s.tables s.maps.next c e.dead

/-- Every COMPOSING, QUEUED or PRINTING slot refers to the generation of Current or of Retained (R82), and a Retained generation is
referred to by some slot (R83). -/
def State.GenInv (s : State) : Prop :=
  (∀ i : SlotIx, s.slots[i].state = .composing ∨ s.slots[i].state = .queued ∨ s.slots[i].state = .printing →
    s.slots[i].gen = some s.maps.currentGen ∨ (s.slots[i].gen ≠ none ∧ s.slots[i].gen = s.maps.retainedGen)) ∧
    ∀ g, s.maps.retainedGen = some g → s.referenced g = true

/-! ## Commands -/

/-- The bytes of a forward frame as the formatter sends it: header, body and frame check (Tables 10.10.1, 10.10.2). -/
def Frame.bytes (f : Frame) : List Byte :=
  let head := f.kind :: f.tag :: BitVec.ofNat 8 (f.body.length / 256) :: BitVec.ofNat 8 (f.body.length % 256) :: f.body
  let check := (frameCheck head).toNat
  head ++ [BitVec.ofNat 8 (check / 256), BitVec.ofNat 8 (check % 256)]

/-! ## The end of a pass -/

/-- The pass p of s has ended in t, complete or aborted (R38, R40): accounts, stamps, drops since wipe and the automatic WIPE that they
call for (R104), tail window and dry timer, the event, the slot, the entry, the wet-edge timer, the head drive and the carriage. -/
structure PassEnded (s t : State) (p : PassContext) (complete : Bool) : Prop where
  accounts : ∀ (c : Channel) r, s.accounts[c].release = some r → t.accounts[c] = s.accounts[c].charged r (p.counts c)
  stamps : ∀ (c : Channel) (g : Fin 24), t.service.stamps[c][g] =
    if p.fired[c][g] then max s.now s.service.stamps[c][g] else s.service.stamps[c][g]
  drops : ∀ h : Head, t.service.drops[h] = min (s.service.drops[h] + p.headDrops h) 4294967295
  wear : s.lane.conditions.stationFault = false → ∀ h : Head, s.tables.service.wipeInterval ≤ t.service.drops[h] →
    s.service.wipeAsked h = false → ∃ q ∈ t.service.pending, q.op = .wipe h ∧ (s.SupplyInv → q.origins.wear = true)
  window : t.feed.window = appendWindow (s.passDebits p).toList.sum s.feed.window
  drying : ∀ k, s.feed.profile = some k → t.feed.dryExpiry =
    some (s.now + dryingDelay s.tables.profile[k] t.feed.window.sum (s.isCold s.tables.profile[k]))
  told : s.tells t (if complete then .swathComplete p.slot (s.passDebits p) s.slots[p.slot].withheld
    else .swathAborted p.slot p.lastCol (s.passDebits p) s.slots[p.slot].withheld)
  freed : t.slots[p.slot] = blankSlot
  wet : t.wetEdge = if complete then some s.now else none
  enable : t.driveEnable = false
  noPass : t.pass = none
  holder : t.service.holder = .free
  idle : t.service.idleSince = s.now

/-! ## Terms of single statements -/

/-- The SWATH DAMAGED events of a lane reset: one for each COMPOSING slot, in ascending slot order (R18). -/
def laneResetEvents (s : State) : List EventFrame :=
  ((List.finRange 8).filter fun i => s.slots[i].state = .composing).map fun i =>
    ⟨s.now, .swathDamaged i .laneReset s.slots[i].slices none⟩

/-- The commands that take a request of a fixed body length, with its kind and that length (Table 10.10.3). -/
def fixedRequests : List (Instr × Byte × Nat) :=
  [(.swathOpen, 0x01#8, 6), (.swathClose, 0x03#8, 5), (.swathDiscard, 0x04#8, 1), (.advance, 0x05#8, 3), (.cut, 0x06#8, 0),
    (.abort, 0x07#8, 0), (.resume, 0x08#8, 0), (.engineReset, 0x09#8, 0), (.loadMedia, 0x0A#8, 5), (.unloadMedia, 0x0B#8, 0),
    (.eject, 0x0C#8, 0), (.wipe, 0x0D#8, 1), (.prime, 0x0E#8, 1), (.checkNozzles, 0x0F#8, 1), (.cap, 0x10#8, 0),
    (.fillToMark, 0x11#8, 1), (.resetLadder, 0x12#8, 1), (.commitMap, 0x13#8, 0), (.tagRead, 0x14#8, 1), (.scanStart, 0x15#8, 0),
    (.scanStop, 0x16#8, 0), (.scanNow, 0x17#8, 0), (.statusRead, 0x1A#8, 0), (.clearConditions, 0x1B#8, 1)]

/-- The conditions by their bits in a condition mask (Table 10.10.7). -/
def conditionBits : List (Nat × Condition) :=
  [(0, .laneError), (1, .eventsLost), (2, .sensorStale), (3, .jam), (4, .stationFault), (5, .tagFault), (6, .capacity)]

/-- The drops of one size of a slice that its slot's bank sends to a channel, each code once for every column written (R9). -/
def slicedTo (b : Bank) (a : SliceArgs) (c d : Channel) (z : DropSize) : Nat :=
  a.repeats * (a.columns.flatMap groupDrops).countP fun x => x.2 = z ∧ (b.route c x.1).map (·.1) = some d

/-- The maps once a slot has ended its reference to its generation (R83): Retained is emptied in the same step where no slot then refers
to its generation, and everything else of the maps stands. -/
def mapsLeft (s t : State) : Prop :=
  (∀ g, s.maps.retainedGen = some g → (∀ j, ¬ t.refersTo j g) →
    t.maps = { s.maps with retained := emptyBank, retainedGen := none }) ∧
  ((∀ g, s.maps.retainedGen = some g → ∃ j, t.refersTo j g) → t.maps = s.maps)

/-- The source is not there to load (R118): an empty sheet slot, or a roll whose end input is active. -/
def sourceAbsent (s : State) : Source → Prop
  | .roll1 => s.inputs[(3 : DIn)].level = some true
  | .roll2 => s.inputs[(4 : DIn)].level = some true
  | .sheet => s.inputs[(5 : DIn)].level = some false

/-- How a table write leaves the operation in flight: as it was, but that a running WIPE or PRIME whose channels' spit counts have changed
before its spit is known to have begun either has begun it, with the drops it fires standing, or takes the new counts for it. -/
def spitTracked (s t : State) : Prop :=
  (∀ o, s.service.holder = .op o → ∃ o', t.service.holder = .op o' ∧
    if o.running = true ∧ o.req.op.spits = true ∧ o.spat = false ∧ o.spit ≠ t.tables.spitCounts then
      o' = { o with spat := true } ∨ o' = { o with spit := t.tables.spitCounts }
    else o' = o ∧ t.freeCount = s.freeCount) ∧
  ((∀ o, s.service.holder ≠ .op o) → t.service.holder = s.service.holder ∧ t.freeCount = s.freeCount)

/-- A field stored in a record reads back as the value written, or, clamped, as another value that would be stored as it is; the record's
other fields are as they were. -/
def fieldsReadBack {α : Type} (put : α → Nat → Int → FieldWrite α) (fields : α → List Int) : Prop :=
  ∀ (r r' : α) (f : Nat) (v : Int),
    (put r f v = .stored r' → f < (fields r).length ∧ fields r' = (fields r).set f v) ∧
    ∀ x, put r f v = .clamped r' x → f < (fields r).length ∧ x ≠ v ∧ fields r' = (fields r).set f x ∧ put r f x = .stored r'

/-- s once the purge that o has begun is charged: the whole prime volume, in nL (R54). -/
def State.purgedBy (s : State) (o : OpInFlight) : State :=
  { s with accounts := match o.req.op, o.purge with
    | .prime c, some v => setAt s.accounts c (s.accounts[c].charge v)
    | _, _ => s.accounts }

/-- What the WIPE, PRIME or CHECK o of s, ended in t before its completion, is charged (R53, R54, R112): its whole prime volume once the
purge has begun, and of the spit or the check bursts of each of its channels as many drops as it fired, which is a free value (log 18). -/
def InterruptedCharges (s t : State) (o : OpInFlight) : Prop :=
  (∀ d : Channel, t.accounts[d].level ≤ s.accounts[d].level) ∧
  ((o.running = false ∨ o.req.op.uncaps = false) → t.accounts = s.accounts ∧ t.service.stamps = s.service.stamps) ∧
  (o.running = true → o.req.op.uncaps = true →
    (∀ c v, o.req.op = .prime c → o.purge = some v →
      t.accounts[c].level ≤ s.accounts[c].level - v ∧ (s.accounts[c].level < v → t.accounts[c].known = false)) ∧
    (s.CarryInv → ∀ d : Channel, ∃ medium large : Nat,
      medium ≤ (match o.req.op with
        | .check set => if set[d] then 6144 else 0
        | _ => 0) ∧
      large ≤ (match o.req.op with
        | .wipe h => if headOf d = h then 768 * o.spit[d] else 0
        | .prime c => if headOf d = headOf c then 768 * o.spit[d] else 0
        | _ => 0) ∧
      t.accounts[d] = (s.purgedBy o).servicedAccount d ⟨0, medium, large⟩))

/-- The arbiter may grant the request: the carriage is free, no pass is in flight, the latch is clear, no PRIME waits to be tested, and
the request goes before every other pending one and before the print pass (R108). -/
abbrev mayGrantFirst (s : State) (r : Request) : Prop :=
  s.service.holder = .free ∧ s.pass = none ∧ s.stop.set = false ∧ r ∈ s.service.pending ∧
    (∀ q ∈ s.service.pending, ∀ c, q.op ≠ .prime c) ∧
    (∀ q ∈ s.service.pending, q ≠ r → r.op.rank < q.op.rank ∨ (r.op.rank = q.op.rank ∧ r.op.order < q.op.order)) ∧
    (s.service.passAsked = true → r.op.rank < 5)

/-- What a refill that stands in s as k, and has ended in t, leaves of the tag deduction (R64, R74): the volume drawn with the tag carry
is owed in µL, and where the cartridge is identified and its link idle, a DEDUCT of at most 65,535 µL is sent. -/
def DeductionFormed (s t : State) (c : Channel) (k : Refill) : Prop :=
  t.carts[c].owed = s.carts[c].owed + (k.drawn + s.carts[c].tagCarry) / 1000 ∧
    t.carts[c].tagCarry = (k.drawn + s.carts[c].tagCarry) % 1000 ∧
    (s.carts[c].link = none → t.carts[c].link =
      if 0 < t.carts[c].owed ∧ t.carts[c].state.identified = true then some (.deduct (min t.carts[c].owed 65535), s.now + 20) else none)

/-- The refill k of channel c, standing in s, has ended in t without a fault (R64): its record is gone, the carriage free, the tag
deduction formed, and REFILL DONE queued with its reason. -/
def RefillEnded (s t : State) (c : Channel) (k : Refill) (reason : RefillEnd) : Prop :=
  t.supply[c].refill = none ∧ t.service.holder = .free ∧ DeductionFormed s t c k ∧
    s.tells t (.refillDone c k.kind reason k.strokes k.drawn t.accounts[c].level t.accounts[c].known)

/-- The next stroke of refill k of channel c, in s with its level and with too little ink in the cartridge where empty says so, has been
checked in t (R63, R66): begun, the carriage held as h says, or the refill ended with CARTRIDGE FAULT, CARTRIDGE EMPTY or REFILL FAULT. -/
def StrokeTried (s t : State) (c : Channel) (k : Refill) (level : Nat) (empty : Prop) (h : Holder) : Prop :=
  let faults (reason : RefillFaultReason) : Prop := t.supply[c].refill = none ∧ t.service.holder = .free ∧
    DeductionFormed s t c k ∧ t.supply[c].faultMark = true ∧ t.supply[c].need = none ∧ t.lane.conditions.stationFault = true ∧
    s.tells t (.refillFault c k.kind reason k.strokes k.drawn level)
  let limited := k.kind = .fill ∧ (k.limit.getD 0 ≤ k.strokes ∨ 12000000 < level + k.strokeVolume)
  let stale := k.kind = .fill ∧ s.fresh 9 = false
  (s.carts[c].state.identified = false → t.carts[c].state = s.carts[c].state ∧ RefillEnded s t c k .cartridgeFault) ∧
  (s.carts[c].state.identified = true → (empty → t.carts[c].state = .empty ∧ RefillEnded s t c k .cartridgeEmpty) ∧
    (¬ empty → limited → faults .strokeLimit) ∧
    (¬ empty → ¬ limited → stale → faults .pressureStale) ∧
    (¬ empty → ¬ limited → ¬ stale → t.service.holder = h ∧ t.out.station = .stroke c ∧
      t.supply[c].refill = some { k with inStroke := true, markSeen := false } ∧
      t.carts[c].owed = s.carts[c].owed ∧ t.carts[c].tagCarry = s.carts[c].tagCarry))

/-- The estimate of R27 of the swath in slot record sl for a channel, with the spit plan of the present moment (R45 to R48, R99); none for
a channel bound to no ink kind. -/
def swathEstimate (s : State) (sl : Slot) (c : Channel) : Option Nat :=
  (s.tables.kindOf c).map fun k =>
    let idle (g : Fin 24) : Bool := sl.groups[c][g] && decide (s.decapLimit k < s.now - s.service.stamps[c][g])
    let planned := if s.service.capped then 0 else (List.finRange 24).countP idle
    estimateOf (dropProduct k.vSmall k.vMedium k.vLarge k.coeff s.scan.results[tempInput (headOf c)].value sl.arrival[c]
      (planned * (32 * k.spitCount)))

/-- A channel's estimate e exceeds mark level − floor (R28). It is tested where its head's temperature is valid. -/
def overMark (s : State) (sl : Slot) (c : Channel) : Prop :=
  s.fresh (tempInput (headOf c)) = true ∧ ∃ e, swathEstimate s sl c = some e ∧ 0 < e ∧
    (s.tables.channel[c].markLevel : Int) - s.tables.channel[c].floor < e

/-- A channel fails the ink test with the estimate e, its level known or not as the flag says (R27). -/
def inkShort (s : State) (sl : Slot) (c : Channel) (known : Bool) (e : Nat) : Prop :=
  s.fresh (tempInput (headOf c)) = true ∧ swathEstimate s sl c = some e ∧ 0 < e ∧
    (e : Int) ≤ (s.tables.channel[c].markLevel : Int) - s.tables.channel[c].floor ∧ s.accounts[c].known = known ∧
    (known = true → s.accounts[c].level < s.accounts[c].reserved + e + s.tables.channel[c].floor)

/-- h is the hold-reason set that R25 to R28 give a WAITING SWATH entry of slot record sl. -/
structure HeldBy (s : State) (sl : Slot) (h : Holds) : Prop where
  stop : h.stop = true ↔ s.stop.set = true
  busy : h.busy = true ↔ ∃ m, s.feed.motion = some m ∧ m.owner = .orphan
  media : h.media = false ↔ s.feed.path = .ready ∨
    ∃ a p, s.feed.path = .tailOut ∧ s.feed.tail = some a ∧ s.feed.pos = some p ∧ 10838 ≤ a - p
  service : h.service = true ↔ (∃ o, s.service.holder = .op o) ∨
    (∃ q ∈ s.service.pending, q.op ≠ .cap ∧ ∀ c, q.op ≠ .refill c) ∨
    ∃ c : Channel, s.service.ladders[c].state ∈ [LadderState.wipeCheck, .primeCheck, .prime2Check]
  pressure : h.pressure = true ↔ ∃ c : Channel, s.fresh (pressureInput c) = false ∨
    s.scan.results[pressureInput c].value < s.tables.channel[c].gateLow ∨
    s.tables.channel[c].gateHigh < s.scan.results[pressureInput c].value
  temperature : h.temperature = true ↔ ∃ c : Channel, s.fresh (tempInput (headOf c)) = false ∨
    (match s.tables.kindOf c with
      | some k => k.headLimit
      | none => 58) < s.scan.results[tempInput (headOf c)].value
  ink : h.ink = true ↔ ∃ c : Channel, (∃ b e, inkShort s sl c b e) ∨
    (s.fresh (tempInput (headOf c)) = true ∧ s.tables.kindOf c = none ∧ sl.arrival[c] ≠ ⟨0, 0, 0⟩)
  capacity : h.capacity = true ↔ ∃ c : Channel, overMark s sl c
  dry : h.dry = false

/-- What the gate's evaluation of a WAITING SWATH head entry leaves (R24, R27, R28): its hold-reason set, the pass asked for with none and
not with any, the refill or fill to mark that each channel short of ink calls for, pending or as an ink need, and CAPACITY raised once,
for the lowest of its channels (log 62). -/
structure SwathEvaluated (s t : State) (i : SlotIx) (rep : Bool) (rest : List Entry) : Prop where
  held : HeldBy t s.slots[i] t.holds
  asked : t.service.passAsked = true ↔ t.holds = {}
  queue : t.queue = ⟨.swath i (rep || t.holds.capacity), .waiting⟩ :: rest
  sent : ∀ (c : Channel) (known : Bool) (e : Nat), inkShort s s.slots[i] c known e → s.supply[c].faultMark = false →
    s.canSupply c = true → ∃ q ∈ t.service.pending,
      q.covers ⟨if known then .urgentRefill c else .fillToMark c, none, byGate⟩ ∧
        (q.op = .urgentRefill c → ∃ a, q.amount = some a ∧ e ≤ a)
  needed : ∀ (c : Channel) (known : Bool) (e : Nat), inkShort s s.slots[i] c known e → s.supply[c].faultMark = false →
    s.canSupply c = false → ∃ n, t.supply[c].need = some n ∧ n.origins.gate = true ∧ (known = false → n.kind = .fill) ∧
      (n.kind = .urgent → ∃ a, n.amount = some a ∧ e ≤ a)
  once : rep = true → t.lane.conditions.capacity = s.lane.conditions.capacity
  raised : rep = false → ∀ c : Channel, overMark s s.slots[i] c → (∀ d : Channel, d.val < c.val → ¬ overMark s s.slots[i] d) →
    t.lane.conditions.capacity = true ∧ (s.lane.conditions.capacity = false → s.tells t (.condition (.capacity i c)))

/-- What the gate's evaluation leaves of a WAITING ADVANCE or CUT head entry (R30, R31, R124): its hold-reason set whole, and, for an
advance held with MEDIA in TAIL OUT, MEDIA SHORT of form BLOCKED queued once, with the counts it would take and those that remain. -/
structure FeedHeadEvaluated (s t : State) : Prop where
  advance : ∀ d n r short rest, s.queue = ⟨.advance d n r short, .waiting⟩ :: rest →
    let counts := ((d : Int) * 2 * (1000000 + s.calibration) + s.feed.residue).toNat / 3000000
    let fits := s.feed.path = .ready ∨
      ∃ a p, s.feed.path = .tailOut ∧ s.feed.tail = some a ∧ s.feed.pos = some p ∧ counts ≤ a - p
    let blocked := s.feed.path = .tailOut ∧ ¬ fits
    t.holds = { stop := s.stop.set, busy := t.holds.busy, media := t.holds.media } ∧
      (t.holds.busy = true ↔ ∃ m, s.feed.motion = some m ∧ m.owner = .orphan) ∧ (t.holds.media = true ↔ ¬ fits) ∧
      t.service.passAsked = false ∧
      (¬ blocked → t.queue = s.queue) ∧
      (blocked → t.queue = ⟨.advance d n r true, .waiting⟩ :: rest ∧
        (short = false → s.tells t (.mediaShort .blocked d counts (s.feed.remaining.getD 0))))
  cut : ∀ rest, s.queue = ⟨.cut, .waiting⟩ :: rest →
    t.queue = s.queue ∧ t.service.passAsked = false ∧
      t.holds = { stop := s.stop.set, busy := t.holds.busy, media := t.holds.media, dry := t.holds.dry } ∧
      (t.holds.busy = true ↔ (∃ m, s.feed.motion = some m ∧ m.owner = .orphan) ∨ s.feed.cutter ≠ .home) ∧
      (t.holds.media = false ↔ s.feed.path = .ready ∨ s.feed.path = .tailOut) ∧
      (t.holds.dry = true ↔ ∃ d, s.feed.dryExpiry = some d ∧ s.now < d)

/-- The carriage column that the next column strobe must name (R33): A first for FWD and B for REV, then the next in the direction. -/
def dueColumn (p : PassContext) (x : Nat) : Prop :=
  p.spitDone = true ∧ match p.dir, p.lastCol with
    | .fwd, none => x = p.colA
    | .rev, none => x = p.colB
    | .fwd, some y => x = y + 1 ∧ y < p.colB
    | .rev, some y => x + 1 = y ∧ p.colA < y

/-- The sizes that meet on nozzle n of channel c at a store column (R35): the codes stored there for the nozzles that the bank sends to
it. -/
def strikes (s : State) (p : PassContext) (c : Channel) (n : Nat) (column : Nat) (z : DropSize) : Prop :=
  ∃ (d : Channel) (m : Nat), m < 768 ∧ (s.maps.bankFor p.gen).route d m = some (c, n) ∧
    storedCode s.store p.slot d column m = some z

/-- The ladder of channel d stands from s to t; one that is SUSPENDED, where the supply states of s are those of Table 4.1.2. -/
def LadderStands (s t : State) (d : Channel) : Prop :=
  (s.service.ladders[d].state ≠ .suspended ∨ s.SupplyInv) → t.service.ladders[d] = s.service.ladders[d]

/-- What every completed operation leaves: the carriage free and docked as it stands, the cap state, and everything of other blocks but
accounts, supply states, ladders and requests (R100 to R103, R109). -/
def OperationEnded (s t : State) : Prop :=
  Follows { s with service := t.service, accounts := t.accounts, supply := t.supply, maps := t.maps } t ∧
    t.service.holder = .free ∧ t.service.docked = s.service.docked ∧ t.service.idleSince = s.now ∧
    ∀ d : Channel, t.supply[d].refill = s.supply[d].refill ∧ t.supply[d].faultMark = s.supply[d].faultMark

/-- The channels whose every group the WIPE or PRIME o of the head stamps: those of the head for which it spits (R100). -/
def spitsFor (o : OpInFlight) (h : Head) (c : Channel) : Prop := headOf c = h ∧ 0 < o.spit[c]

/-- The ink need n of channel c, STARVED in s, has become a pending request in t, and a ladder SUSPENDED with cause STARVED has returned
to its step and phase and placed that phase's operation again (R61, R115). -/
def NeedServed (s t : State) (c : Channel) (n : Need) : Prop :=
  let l := s.service.ladders[c]
  t.supply[c].need = none ∧ (∃ q ∈ t.service.pending, q.covers ⟨n.kind.op c, none, n.origins⟩) ∧
    ∀ st ph, l.state = .suspended → l.cause = some .starved → l.suspStep = some st → l.suspPhase = some ph →
      t.service.ladders[c] = { l with state := st, phase := some ph, suspStep := none, suspPhase := none, cause := none } ∧
      ∀ op, (ph = .check ∧ op = .check (channelSingle c)) ∨ (ph = .operation ∧ st = .wipeCheck ∧ op = .wipe (headOf c)) ∨
          (ph = .operation ∧ (st = .primeCheck ∨ st = .prime2Check) ∧ op = .prime c) →
        ∃ q ∈ t.service.pending, q.covers ⟨op, none, byLadder⟩

/-- The cartridge of slot c has been identified in t from its tag's data (R71, R72, R73): REJECTED with its reason, or in the state that
its remaining gives, and no unsynced record stands; one that can supply serves the channel's ink need. The other slots' records stand. -/
def Identified (s t : State) (c : Channel) (i : TagInfo) : Prop :=
  let found := (List.finRange 16).find? fun k => s.tables.ink[k].code = i.code
  Follows { s with carts := t.carts, supply := t.supply, service := { s.service with
      pending := t.service.pending, ladders := t.service.ladders } } t ∧
    t.carts[c].serial = some i.serial ∧ t.carts[c].kind = found ∧ t.carts[c].unsynced = none ∧
    (found = none → t.carts[c].state = .rejected ∧ t.carts[c].reject = some .unknownInk) ∧
    (∀ k, found = some k → s.tables.ink[k].accepted[c] = false →
      t.carts[c].state = .rejected ∧ t.carts[c].reject = some .wrongSlot) ∧
    (∀ d : Channel, d ≠ c → { t.carts[d] with link := s.carts[d].link } = s.carts[d] ∧
      t.supply[d].refill = s.supply[d].refill ∧ t.supply[d].faultMark = s.supply[d].faultMark) ∧
    (∀ k, found = some k → s.tables.ink[k].accepted[c] = true → s.tables.channel[c].kind ≠ some k →
      t.carts[c].state = .rejected ∧ t.carts[c].reject = some .mismatch) ∧
    (s.SupplyInv → s.canSupply c = false → t.canSupply c = true → s.supply[c].faultMark = false → s.supply[c].refill = none →
      ∀ n, s.supply[c].need = some n → NeedServed s t c n) ∧
    (t.carts[c].state = .rejected → t.carts[c].tagCarry = 0 ∧ t.carts[c].owed = 0) ∧
    ∀ k, found = some k → s.tables.ink[k].accepted[c] = true → s.tables.channel[c].kind = some k →
      t.carts[c].remaining = i.remaining * 1000 ∧ t.carts[c].capacity = some i.capacity ∧ t.carts[c].reject = none ∧
      t.carts[c].state = if i.remaining * 1000 < s.tables.channel[c].strokeVolume then .empty
        else if i.remaining * 1000 < s.tables.channel[c].cartLow * 1000 then .low else .accepted

/-- The stop latch has ended the station operation or refill o in flight in s (R68, R112): the station stopped, the carriage free and
UNDOCKED, a CAP UNCAPPED, a purge begun and the drops fired charged (a free value, log 18), a refill ended with STOPPED, and the request
pending again. -/
def StoppedOp (s t : State) (o : OpInFlight) : Prop :=
  t.service.holder = .free ∧ t.service.docked = false ∧ t.service.idleSince = s.now ∧ t.service.drops = s.service.drops ∧
    t.service.capped = (s.service.capped && decide (o.req.op ≠ .cap)) ∧ t.out.carriage = .stop ∧
    InterruptedCharges s t o ∧
    (o.req.op.refillChannel = none → t.out.station = .stop ∧ ∃ q ∈ t.service.pending, q.covers o.req) ∧
    ∀ c k, o.req.op.refillChannel = some c → s.supply[c].refill = some k →
      t.supply[c].refill = none ∧ t.supply[c].faultMark = s.supply[c].faultMark ∧ t.out.station = .closeValve c ∧
      s.tells t (.refillDone c k.kind .stopped k.strokes k.drawn s.accounts[c].level s.accounts[c].known) ∧
      (s.supply[c].faultMark = false → s.canSupply c = true → ∃ q ∈ t.service.pending, q.covers o.req)

/-- What a level accepted from a feed input (DI0 to DI9) does in t besides becoming the filtered level: leading edges of a load (R119),
the trailing end (R117, R124, R131, R133), the roll ends (R119, R124) and the cutter home (R129, R135); any other input does nothing. -/
def FeedInputActs (s t : State) (i : DIn) (raw : Bool) : Prop :=
  let leaves (f : Feed) : Prop := Follows { s with inputs := t.inputs, feed := f } t
  let moves (m : Motion) (w : MotionWork) : Prop := ∃ m',
    Follows { s with inputs := t.inputs, feed := { s.feed with motion := some m' }, out := { s.out with feed := t.out.feed } } t ∧
      m'.work = w ∧ m'.owner = m.owner ∧ m'.paused = m.paused ∧ m'.count = m.count
  let held (j : DIn) : Prop := t.inputs[j].level = some true
  let jams (m : Motion) : Prop :=
    Follows { s with
      inputs := t.inputs, queue := if m.owner = .entry then s.queue.tail else s.queue
      feed := { s.feed with path := .jammed, motion := none, jam := some .cutter, cutter := .home }
      out := { s.out with cutter := .stop } } t ∧
    t.lane.conditions.jam = true ∧ (s.lane.conditions.jam = false → s.tells t (.condition (.jam .cutter)))
  let tail : Feed := { s.feed with path := .tailOut, tail := s.feed.pos.map (· + 28000) }
  let edge := i = 0 ∨ i = 1
  let rollEnd := (i = 3 ∧ s.feed.source = some .roll1) ∨ (i = 4 ∧ s.feed.source = some .roll2)
  let loading := s.feed.path = .loading ∨ s.feed.path = .aligning
  (∀ m st e0 e1 old, edge → s.feed.motion = some m →
    let e0' := if i = 0 then some (e0.getD m.count) else e0
    let e1' := if i = 1 then some (e1.getD m.count) else e1
    (m.work = .load .forward st e0 e1 old → raw = true →
      moves m (.load (if e0' ≠ none ∧ e1' ≠ none then .toRest else .forward) st e0' e1' old)) ∧
    (m.work = .load .clearing st e0 e1 old → raw = false → ¬ held 0 → ¬ held 1 →
      moves m (.load .forward m.count none none old))) ∧
  (edge → (∀ m st e0 e1 old, s.feed.motion = some m → (m.work = .load .forward st e0 e1 old → raw = false) ∧
    (m.work = .load .clearing st e0 e1 old → raw = true ∨ held 0 ∨ held 1)) → leaves s.feed) ∧
  (i = 2 → raw = false →
    (s.feed.path = .ready → leaves tail) ∧ (s.feed.path = .held → leaves { s.feed with path := .empty }) ∧
    (∀ m, s.feed.motion = some m →
      (s.feed.path = .ejecting → m.work = .eject none → moves m (.eject (some m.count))) ∧
      (s.feed.path = .unloading → m.work = .unload none → moves m (.unload (some m.count)))) ∧
    (s.feed.path ≠ .ready → s.feed.path ≠ .held →
      (∀ m, s.feed.motion = some m → (s.feed.path = .ejecting → m.work ≠ .eject none) ∧
        (s.feed.path = .unloading → m.work ≠ .unload none)) → leaves s.feed)) ∧
  (i = 2 → raw = true → leaves
    (if s.inputs[i].level = none ∧ s.feed.path = .empty then { s.feed with path := .held } else s.feed)) ∧
  (rollEnd → raw = true → (s.feed.path = .ready → leaves tail) ∧
    (∀ m ph st e0 e1 old, loading → s.feed.motion = some m → m.work = .load ph st e0 e1 old →
      Follows { s with
        inputs := t.inputs
        feed := { s.feed with path := .empty, source := none, profile := none, rollRemaining := none, motion := none }
        out := { s.out with feed := .stop } } t ∧
      s.tells t (.loadFailed s.feed.source s.feed.profile .rollEnd s.feed.attempt old)) ∧
    (s.feed.path ≠ .ready → (loading → ∀ m, s.feed.motion = some m → m.work.kind ≠ .load) → leaves s.feed)) ∧
  (i = 8 →
    (∀ m d left, s.feed.motion = some m → m.work = .cut d left →
      (m.paused = false →
        (raw = false → leaves { s.feed with motion := some { m with work := .cut d true } }) ∧
        (raw = true → left = false → leaves s.feed) ∧
        (raw = true → left = true → d < s.now → jams m) ∧
        (raw = true → left = true → s.now ≤ d →
          let out := s.feed.beforeCut = .ready ∧ s.tailSeen = true
          Follows { s with
            inputs := t.inputs, wetEdge := none, queue := if m.owner = .entry then s.queue.tail else s.queue
            feed := { s.feed with
              cutter := .home, path := if out then .tailOut else s.feed.beforeCut
              pos := some 0, target := some 0, residue := 0, window := [], motion := none
              tail := if out then some 28000 else s.feed.tail.map fun x => x - s.feed.pos.getD 0 } } t ∧
          s.tells t (.cutDone .cut s.feed.source s.feed.rollRemaining))) ∧
      (m.paused = true →
        (raw = true → s.feed.cutter = .returning → d < s.now → jams m) ∧
        (raw = false ∨ s.feed.cutter ≠ .returning ∨ s.now ≤ d → leaves { s.feed with
          cutter := if raw then .home else if s.feed.cutter = .home then .away else s.feed.cutter }))) ∧
    ((∀ m, s.feed.motion = some m → m.work.kind ≠ .cut) → leaves { s.feed with cutter := if raw then .home else .away })) ∧
  ((i.val ∈ [5, 6, 7, 9] ∨ ((i = 3 ∨ i = 4) ∧ (raw = false ∨ ¬ rollEnd))) → leaves s.feed)

/-- What a level accepted from the cartridge present input of slot c does (R71, R75): with the slot ABSENT an active level begins
insertion handling; otherwise an inactive level ends the transaction and a refill of the channel, keeps what is owed unsynced, and clears
the record (a reject reason with it, log 54). Any other level changes no cartridge. -/
def CartridgeInputActs (s t : State) (c : Channel) (raw : Bool) : Prop :=
  let r := s.carts[c]
  let owes : Nat := r.owed + (match s.supply[c].refill with
    | some k => (k.drawn + r.tagCarry) / 1000
    | none => 0)
  (raw = true → r.state = .absent → Follows { s with
    inputs := t.inputs
    carts := setAt s.carts c { r with state := .reading, reject := none, link := some (.read, s.now + 20) } } t) ∧
  ((raw = true ↔ r.state ≠ .absent) → Follows { s with inputs := t.inputs } t) ∧
  (raw = false → r.state ≠ .absent →
    Follows { s with
      inputs := t.inputs, carts := t.carts, supply := t.supply, service := t.service
      out := { s.out with station := t.out.station } } t ∧
    t.carts[c] = { t.carts[c] with
      state := .absent, reject := none, serial := none, kind := none, capacity := none, remaining := 0, tagCarry := 0, owed := 0
      link := none } ∧
    t.carts[c].unsynced = (match r.serial with
      | some ser => if 0 < owes then some ⟨ser, owes + (match r.unsynced with
          | some u => if u.serial = ser then u.amount else 0
          | none => 0)⟩ else r.unsynced
      | none => r.unsynced) ∧
    (∀ d : Channel, d ≠ c → t.supply[d].refill = s.supply[d].refill ∧ { t.carts[d] with link := s.carts[d].link } = s.carts[d]) ∧
    t.supply[c].refill = none ∧
    (∀ k, s.supply[c].refill = some k → t.service.holder = .free ∧ t.out.station = .closeValve c ∧
      s.tells t (.refillDone c k.kind .cartridgeRemoved k.strokes k.drawn s.accounts[c].level s.accounts[c].known)) ∧
    (s.supply[c].refill = none → t.service.holder = s.service.holder ∧ t.out.station = s.out.station) ∧
    s.tells t (.cartridgeState c .absent none none none none 0))

/-- The residue and the roll record that an advance of distance d leaves when it starts now (R121, R126). -/
def advanceStarts (s t : State) (d : Nat) : Prop :=
  t.feed.residue = ((d : Int) * 2 * (1000000 + s.calibration) + s.feed.residue).toNat % 3000000 ∧
    t.feed.rollRemaining = s.feed.rollRemaining.map (· - d) ∧
    (t.feed.rollLow = true ↔ s.feed.rollLow = true ∨ ∃ r, s.feed.rollRemaining = some r ∧ r - d < 1000000) ∧
    ∀ r, s.feed.rollRemaining = some r → r - d < 1000000 → s.feed.rollLow = false → s.tells t (.rollLow s.feed.source (r - d))

/-- The debits of products charged one after the other, from a carry, with the carry they leave. -/
def chargedSeries : List Nat → Nat → Nat × Nat
  | [], carry => (0, carry)
  | p :: ps, carry => let d := debitOf p carry; let rest := chargedSeries ps d.2; (d.1 + rest.1, rest.2)

/-- The counts of advances of distances d, one after the other from a residue, with the residue they leave. -/
def advancedSeries (c : Int) : List Nat → Nat → Nat × Nat
  | [], r => (0, r)
  | d :: ds, r => let x := advanceCounts d c r; let rest := advancedSeries c ds x.2; (x.1 + rest.1, rest.2)

end Sys2Proof.Machine
end

