-- ==== Sys2Proof/Certificates/Slice0/Obligations.lean ====
section
/-!
DEFINITION. The statements about the model, from the numbered rules of the spec; each docstring says what its statement claims.
-/

open Sys2Proof Sys2Proof.Machine

/-! ## The step -/

/-- One step runs the command at the front of the queue on the state with the queue's rest; on an empty queue one millisecond passes (the
model's choice, logs 1 and 2). -/
def Obligations.StepRunsTheFrontCommand : Prop :=
  (∀ (c : Instr) (s : State), step { s with pending := c :: s.pending } = exec c s) ∧
    ∀ s : State, s.pending = [] → step s = .next { s with now := s.now + 1 }

/-! ## The print lane (chapter 10) -/

/-- FORWARD_FRAME_RECEIVED: a frame that passes its checks is placed at the tail of the receive buffer, which asserts HOLD when it reaches
24 frames; a frame that fails them, or finds 32 frames, is discarded with LANE ERROR, with the reason of the failed check even where it
also finds 32 frames (the model's reading, log 11); none is received while UNALIGNED. -/
def Obligations.ForwardFrameIsPlacedOrDiscarded : Prop :=
  ∀ (s : State) (bytes : List Byte),
    (s.lane.aligned = false → exec (.forwardFrameReceived bytes) s = .next s) ∧
    (s.lane.aligned = true → ∀ f, checkFrame bytes = .ok f → s.lane.rx.length < 32 →
      Runs (.forwardFrameReceived bytes) s
        { s with lane := { s.lane with rx := s.lane.rx ++ [f], hold := s.lane.hold || decide (s.lane.rx.length + 1 = 24) } }) ∧
    (s.lane.aligned = true →
      ∀ r, (checkFrame bytes = .error r ∨ (∃ f, checkFrame bytes = .ok f) ∧ 32 ≤ s.lane.rx.length ∧ r = .overflow) →
        ∃ t, exec (.forwardFrameReceived bytes) s = .next t ∧ Follows s t ∧ t.lane.conditions.laneError = true ∧
          (s.lane.conditions.laneError = false → s.tells t (.condition (.laneError r))))

/-- The bytes of a frame pass the checks as that frame, whatever bytes follow; another frame check is discarded with CHECK, fewer bytes
than the length field gives with LENGTH, and so is a length field above 12,320. That a frame cut short of its header or its frame check is
one of LENGTH, and that bytes beyond the frame check do not count, is the model's reading (log 11). -/
def Obligations.FrameBytesPassTheChecks : Prop :=
  (∀ (f : Frame) (more : List Byte), f.body.length ≤ 12320 → checkFrame (f.bytes ++ more) = .ok f) ∧
  (∀ (f : Frame) (c1 c0 : Byte) (more : List Byte), f.body.length ≤ 12320 → f.bytes ≠ f.bytes.dropLast.dropLast ++ [c1, c0] →
    checkFrame (f.bytes.dropLast.dropLast ++ [c1, c0] ++ more) = .error .check) ∧
  (∀ (f : Frame) (k : Nat), f.body.length ≤ 12320 → k < f.bytes.length → checkFrame (f.bytes.take k) = .error .length) ∧
  ∀ (kind tag l1 l0 : Byte) (rest : List Byte), 12320 < l1.toNat * 256 + l0.toNat →
    checkFrame (kind :: tag :: l1 :: l0 :: rest) = .error .length

/-- RETURN_FRAME_SENT: the return direction takes the oldest reply, or with no reply the oldest event; a waiting overflow notice takes the
place that the event frees. The frame chosen leaves its list at that moment and its place is free (the model's reading, log 8); nothing
happens while UNALIGNED or with no frame being sent (the model's choice, log 2). -/
def Obligations.ReturnDirectionTakesRepliesFirst : Prop :=
  ∀ s : State,
    ((s.lane.aligned = false ∨ s.lane.sending = none) → exec .returnFrameSent s = .next s) ∧
    ∀ f, s.lane.aligned = true → s.lane.sending = some f →
      ∃ t, exec .returnFrameSent s = .next t ∧ Follows { s with lane := { s.lane with sending := none } } t ∧
        (∀ r rs, s.lane.replies = r :: rs → t.lane.sending = some (.reply r) ∧ t.lane.replies = rs) ∧
        ∀ e es, s.lane.replies = [] → s.lane.events = e :: es →
          t.lane.sending = some (.event e) ∧
            (s.lane.notice = true →
              t.lane.notice = false ∧ t.lane.events.getLast? = some ⟨s.now, .condition .eventsLost⟩)

/-- LANE_ALIGNED and LANE_RESET: alignment is recorded; its loss empties the receive buffer, the reply list and the return queue, releases
HOLD, makes each COMPOSING slot DAMAGED with its event in ascending slot order, empties a Retained bank that no slot refers to, and raises
LANE ERROR behind those events. -/
def Obligations.LaneResetDamagesComposingSlots : Prop :=
  ∀ s : State,
    (s.lane.aligned = true → exec .laneAligned s = .next s) ∧
    (s.lane.aligned = false → Runs .laneAligned s { s with lane := { s.lane with aligned := true } }) ∧
    (s.lane.aligned = false → exec .laneReset s = .next s) ∧
    (s.lane.aligned = true → ∃ t, exec .laneReset s = .next t ∧
      Follows { s with lane := t.lane, slots := t.slots, maps := t.maps } t ∧
      t.lane.aligned = false ∧ t.lane.rx = [] ∧ t.lane.hold = false ∧ t.lane.replies = [] ∧ t.lane.sending = none ∧
      (∀ i : SlotIx, t.slots[i] =
        if s.slots[i].state = .composing then { s.slots[i] with state := .damaged, gen := none } else s.slots[i]) ∧
      laneResetEvents s <+: t.lane.events ∧
      (s.lane.conditions.laneError = false →
        laneResetEvents s ++ [⟨s.now, .condition (.laneError .alignment)⟩] <+: t.lane.events) ∧
      t.lane.conditions.laneError = true ∧
      t.maps.current = s.maps.current ∧ t.maps.currentGen = s.maps.currentGen ∧ t.maps.next = s.maps.next ∧
      t.maps.nextGen = s.maps.nextGen ∧ t.maps.commitPending = s.maps.commitPending ∧
      ((∀ g, s.maps.retainedGen = some g → ∃ i, t.refersTo i g) →
        t.maps.retained = s.maps.retained ∧ t.maps.retainedGen = s.maps.retainedGen) ∧
      (∀ g, s.maps.retainedGen = some g → (∀ i, ¬ t.refersTo i g) → t.maps.retained = emptyBank ∧ t.maps.retainedGen = none))

/-- UNKNOWN_FRAME answers a frame of no forward kind UNKNOWN; a request whose body length differs from its kind's is answered RANGE;
neither has another effect. With 8 replies waiting, or a frame of another kind first, nothing is taken. -/
def Obligations.UnknownAndMisshapenRequestsAreAnswered : Prop :=
  (∀ (s : State) (k tag : Byte) (body : List Byte), isForwardKind k = false → s.asks k tag body →
    Runs .unknownFrame s (s.answered k tag .unknown)) ∧
  (∀ (s : State) (tag : Byte) (body : List Byte), ∀ q ∈ fixedRequests, body.length ≠ q.2.2 → s.asks q.2.1 tag body →
    Runs q.1 s (s.answered q.2.1 tag .range)) ∧
  ∀ (s : State), ∀ q ∈ fixedRequests, (8 ≤ s.lane.replies.length ∨ ∀ f ∈ s.lane.rx.head?, f.kind ≠ q.2.1) → exec q.1 s = .next s

/-- STATUS_READ is answered DONE with the values of Table 10.7.1 as they stand when it is taken, and TABLE_READ of a loaded table with the
record's fields as stored, of a substitution list with the bank's generation, the overflow flag and the entries; beside the reply they
change nothing but what every step forms again (Follows). A read of no such record, and one whose body is not of 2 bytes, or of 3 for
SUBSTITUTION, is answered RANGE. -/
def Obligations.ReadsReportWhatIsStored : Prop :=
  (∀ (s : State) (tag : Byte), s.asks 0x1A#8 tag [] →
    ∃ st : Status, Runs .statusRead s (s.answered 0x1A#8 tag .done (.status st)) ∧
      st.time = s.now ∧ st.queue = s.queue.map Entry.status ∧ st.holds = s.holds ∧
      (∀ c : Channel, st.channels[c] = ⟨s.accounts[c].level, s.accounts[c].known, s.accounts[c].reserved, s.supply[c].state,
        s.carts[c].state, s.service.ladders[c].state⟩) ∧
      st.currentGen = s.maps.currentGen ∧ st.retainedGen = s.maps.retainedGen ∧ st.commitPending = s.maps.commitPending ∧
      (∀ o, s.service.holder = .op o → st.station = some o.req.op) ∧
      ((∀ o, s.service.holder ≠ .op o) → st.station = none) ∧
      st.path = s.feed.path ∧ st.feedPos = s.feed.pos ∧
      (s.feed.path ≠ .tailOut → st.remaining = none) ∧
      (∀ a b, s.feed.path = .tailOut → s.feed.tail = some a → s.feed.pos = some b → st.remaining = some (a - b)) ∧
      st.conditions = s.lane.conditions ∧ st.stop = s.stop) ∧
  (∀ s : State,
    (∀ k : Fin 16, readRecord 0 k.val s = some s.tables.ink[k].fields ∧ readRecord 2 k.val s = some s.tables.profile[k].fields) ∧
    (∀ c : Channel, readRecord 1 c.val s = some (s.tables.channel[c].fields s.tables.reverseShift[headOf c])) ∧
    readRecord 3 0 s = some s.tables.service.fields ∧
    (∀ i : AIn, readRecord 4 i.val s = some s.tables.scan[i].fields) ∧ readRecord 4 12 s = some s.tables.mode.fields ∧
    (∀ i : DIn, readRecord 5 i.val s = some s.tables.input[i].fields) ∧
    ∀ t i, ((t = 0 ∨ t = 2 ∨ t = 5) ∧ 16 ≤ i) ∨ (t = 1 ∧ 6 ≤ i) ∨ (t = 3 ∧ 1 ≤ i) ∨ (t = 4 ∧ 13 ≤ i) ∨ 5 < t →
      readRecord t i s = none) ∧
  ∀ (s : State) (tag t i : Byte),
    (∀ body, body.length ≠ 2 → body.length ≠ 3 → s.asks 0x19#8 tag body → Runs .tableRead s (s.answered 0x19#8 tag .range)) ∧
    (∀ b, t ≠ 6#8 → s.asks 0x19#8 tag [t, b, i] → Runs .tableRead s (s.answered 0x19#8 tag .range)) ∧
    (∀ l, readRecord t.toNat i.toNat s = some l → s.asks 0x19#8 tag [t, i] →
      Runs .tableRead s (s.answered 0x19#8 tag .done (.fields l))) ∧
    (readRecord t.toNat i.toNat s = none → s.asks 0x19#8 tag [t, i] → Runs .tableRead s (s.answered 0x19#8 tag .range)) ∧
    (∀ (b : BankName) (c : Channel), byteBank t = some b → i.toNat = c.val → s.asks 0x19#8 tag [6#8, t, i] →
      Runs .tableRead s (s.answered 0x19#8 tag .done (match b with
        | .current => .substitutions c (some s.maps.currentGen) s.maps.current.overflow[c] s.maps.current.lists[c]
        | .retained => .substitutions c s.maps.retainedGen s.maps.retained.overflow[c] s.maps.retained.lists[c]
        | .next => .substitutions c (some s.maps.nextGen) s.maps.next.overflow[c] s.maps.next.lists[c]))) ∧
    ((2 < t.toNat ∨ 5 < i.toNat) → s.asks 0x19#8 tag [6#8, t, i] → Runs .tableRead s (s.answered 0x19#8 tag .range))

/-- CLEAR_CONDITIONS: a mask with bit 7 is answered RANGE; otherwise the reply is DONE and carries what is still latched, the named
conditions and no other. With room in the return queue, which keeps EVENTS LOST from being raised anew in the same step, the next state
has exactly those latched, CAPACITY where no swath can raise it anew, and a cleared EVENTS LOST leaves no overflow notice. Clearing
STATION FAULT makes the wear test of every head and the test of the cap delay. -/
def Obligations.ClearConditionsClearsTheNamed : Prop :=
  ∀ (s : State) (tag m : Byte), s.asks 0x1B#8 tag [m] →
    (128 ≤ m.toNat → Runs .clearConditions s (s.answered 0x1B#8 tag .range)) ∧
    (m.toNat < 128 → ∃ (t : State) (set : Conditions), exec .clearConditions s = .next t ∧
      Follows (({ s with lane := { s.lane with conditions := set, notice := s.lane.notice && !m.toNat.testBit 1 } } : State).answered
        0x1B#8 tag .done (.conditions set)) t ∧
      (∀ k ∈ conditionBits, set.latched k.2 = (s.lane.conditions.latched k.2 && !m.toNat.testBit k.1)) ∧
      (s.lane.events.length ≤ 32 →
        (∀ k ∈ conditionBits, (k.2 = .capacity → s.queue = []) → t.lane.conditions.latched k.2 = set.latched k.2) ∧
        (m.toNat.testBit 1 = true → t.lane.notice = false)) ∧
      (s.lane.conditions.stationFault = true → m.toNat.testBit 4 = true → ∀ h : Head,
        s.tables.service.wipeInterval ≤ s.service.drops[h] → s.service.wipeAsked h = false →
          ∃ q ∈ t.service.pending, q.covers ⟨.wipe h, none, byWear⟩) ∧
      (s.lane.conditions.stationFault = true → m.toNat.testBit 4 = true → s.service.capped = false → s.service.holder = .free →
        max s.service.idleSince (s.service.capWithdrawnAt.getD 0) + s.tables.service.capDelay ≤ s.now → s.queue = [] →
          ∃ q ∈ t.service.pending, q.covers ⟨.cap, none, byWear⟩))

/-! ## Swath composition (chapter 1) and the map commit (chapter 5) -/

/-- SWATH_OPEN: RANGE, else BUSY for a slot that is not FREE, else DONE; then the slot is COMPOSING with the request's direction and
columns, every count at its FREE value and the Current generation bound, and its store area reads 0 over the span of every channel; every
other byte of the store and every other slot is unchanged, and so are the maps when no commit is pending. The order of the body (slot,
direction, first and last column, FWD 0 and REV 1) is the model's reading (log 12). -/
def Obligations.SwathOpenClaimsAFreeSlot : Prop :=
  ∀ (s : State) (tag i d f1 f0 l1 l0 : Byte), s.asks 0x01#8 tag [i, d, f1, f0, l1, l0] →
    ((8 ≤ i.toNat ∨ 2 ≤ d.toNat ∨ 57599 < bigEndian [l1, l0] ∨ bigEndian [l1, l0] < bigEndian [f1, f0]) →
      Runs .swathOpen s (s.answered 0x01#8 tag .range)) ∧
    ∀ (slot : SlotIx) (dir : PassDir), i.toNat = slot.val → byteDir d = some dir → bigEndian [f1, f0] ≤ bigEndian [l1, l0] →
      bigEndian [l1, l0] ≤ 57599 →
      (s.slots[slot].state ≠ .free → Runs .swathOpen s (s.answered 0x01#8 tag .busy)) ∧
      (s.slots[slot].state = .free → ∃ t, exec .swathOpen s = .next t ∧
        Follows (({ s with slots := t.slots, store := t.store, maps := t.maps } : State).answered 0x01#8 tag .done) t ∧
        t.slots[slot] = { blankSlot with
          state := .composing, dir := dir, first := bigEndian [f1, f0], last := bigEndian [l1, l0], gen := some t.maps.currentGen } ∧
        (∀ j : SlotIx, j ≠ slot → t.slots[j] = s.slots[j]) ∧
        (∀ a, Memory.read t.store a =
          if inSpan slot (bigEndian [f1, f0]) (bigEndian [l1, l0]) a then 0 else Memory.read s.store a) ∧
        (s.maps.commitPending = false → t.maps = s.maps))

/-- An accepted SWATH_OPEN performs a pending commit when no slot refers to the Retained generation: Retained takes Current, Current takes
Next under the next generation, Next a copy, the pending flag clears and MAP COMMITTED is queued; a Retained bank to which no slot then
refers is emptied at once. While a slot still refers to Retained, the banks and the flag stand. That the event carries the former Current
generation also where Retained is emptied at once is the model's reading (log 31), and so is the order of the body (log 12). -/
def Obligations.SwathOpenPerformsAPendingCommit : Prop :=
  ∀ (s : State) (tag i d f1 f0 l1 l0 : Byte) (slot : SlotIx), s.asks 0x01#8 tag [i, d, f1, f0, l1, l0] → i.toNat = slot.val →
    d.toNat < 2 → bigEndian [f1, f0] ≤ bigEndian [l1, l0] → bigEndian [l1, l0] ≤ 57599 → s.slots[slot].state = .free →
    s.maps.commitPending = true →
    ((∃ g j, s.maps.retainedGen = some g ∧ s.refersTo j g) → ∃ t, exec .swathOpen s = .next t ∧ t.maps = s.maps) ∧
    ((∀ g j, s.maps.retainedGen = some g → ¬ s.refersTo j g) → ∃ t, exec .swathOpen s = .next t ∧
      t.maps.current = s.maps.next ∧ t.maps.currentGen = (s.maps.currentGen + 1) % 4294967296 ∧
      t.maps.next = s.maps.next ∧ t.maps.nextGen = t.maps.currentGen ∧ t.maps.commitPending = false ∧
      ((∃ j, s.refersTo j s.maps.currentGen) →
        t.maps.retained = s.maps.current ∧ t.maps.retainedGen = some s.maps.currentGen) ∧
      ((∀ j, ¬ s.refersTo j s.maps.currentGen) → t.maps.retained = emptyBank ∧ t.maps.retainedGen = none) ∧
      s.tells t (.mapCommitted t.maps.currentGen s.maps.currentGen (decide (∀ j, ¬ s.refersTo j s.maps.currentGen))
        (Vector.ofFn fun c : Fin 6 => t.maps.current.lists[c].length) t.maps.current.overflow))

/-- SLICE refused: one SLICE REFUSED event with what the slice gave, the reason and the slot's count; only a COMPOSING slot counts it, and
nothing else changes. -/
def Obligations.RefusedSliceOnlyCounts : Prop :=
  ∀ (s : State) (tag : Byte) (body : List Byte), s.lane.rx.head? = some ⟨0x02#8, tag, body⟩ →
    (readSlice body = none → ∃ t, exec .slice s = .next t ∧ Follows { s with lane := s.lane.pop } t ∧
      s.tells t (.sliceRefused none none none .range none)) ∧
    ∀ a, readSlice body = some a →
      (8 ≤ a.slot → ∃ t, exec .slice s = .next t ∧ Follows { s with lane := s.lane.pop } t ∧
        s.tells t (.sliceRefused (some a.slot) (some a.channel) (some a.first) .range none)) ∧
      ∀ i : SlotIx, a.slot = i.val →
        (s.slots[i].state ≠ .composing → ∃ t, exec .slice s = .next t ∧ Follows { s with lane := s.lane.pop } t ∧
          s.tells t (.sliceRefused (some a.slot) (some a.channel) (some a.first) .state (some s.slots[i].slices))) ∧
        (s.slots[i].state = .composing →
          ((6 ≤ a.channel ∨ ¬ a.fits s.slots[i]) → ∃ t, exec .slice s = .next t ∧
            Follows { s with
              lane := s.lane.pop
              slots := setAt s.slots i { s.slots[i] with slices := min (s.slots[i].slices + 1) 4294967295 } } t ∧
            s.tells t (.sliceRefused (some a.slot) (some a.channel) (some a.first) .range
              (some (min (s.slots[i].slices + 1) 4294967295)))) ∧
          ∀ (c : Channel) (l : Nat), a.channel = c.val → a.fits s.slots[i] → s.slots[i].lastWritten[c] = some l → a.first ≤ l →
            ∃ t, exec .slice s = .next t ∧
              Follows { s with
                lane := s.lane.pop
                slots := setAt s.slots i { s.slots[i] with slices := min (s.slots[i].slices + 1) 4294967295 } } t ∧
              s.tells t (.sliceRefused (some a.slot) (some a.channel) (some a.first) .order
                (some (min (s.slots[i].slices + 1) 4294967295))))

/-- SLICE accepted: each byte of the data stands at each column of the slice that repeats it, every other byte of the store is unchanged,
and the slot's record takes the end column, the arrival counts, the withheld count and the groups that R9 and R10 give under the bank of
its bound generation; nothing else of the slot, and no other slot, changes. -/
def Obligations.AcceptedSliceStoresAndCounts : Prop :=
  ∀ (s : State) (tag : Byte) (body : List Byte) (a : SliceArgs) (i : SlotIx) (c : Channel),
    s.lane.rx.head? = some ⟨0x02#8, tag, body⟩ → readSlice body = some a → a.slot = i.val → a.channel = c.val →
    s.slots[i].state = .composing → a.fits s.slots[i] → (∀ l, s.slots[i].lastWritten[c] = some l → l < a.first) →
    Memory.wf s.store →
    (∀ d : Channel, s.slots[i].arrival[d].small ≤ 44236800 ∧ s.slots[i].arrival[d].medium ≤ 44236800 ∧
      s.slots[i].arrival[d].large ≤ 44236800 ∧ s.slots[i].withheld[d] ≤ 44236800) →
    ∃ t, exec .slice s = .next t ∧ Follows { s with lane := s.lane.pop, slots := t.slots, store := t.store } t ∧
      (∀ j : SlotIx, j ≠ i → t.slots[j] = s.slots[j]) ∧
      t.slots[i] = { s.slots[i] with
        slices := min (s.slots[i].slices + 1) 4294967295
        lastWritten := setAt s.slots[i].lastWritten c (some (a.first + a.count * a.repeats - 1))
        arrival := t.slots[i].arrival, withheld := t.slots[i].withheld, groups := t.slots[i].groups } ∧
      (let b := s.maps.bankFor s.slots[i].gen
       (∀ d : Channel, t.slots[i].arrival[d] =
          ⟨min 44236800 (s.slots[i].arrival[d].small + slicedTo b a c d .small),
            min 44236800 (s.slots[i].arrival[d].medium + slicedTo b a c d .medium),
            min 44236800 (s.slots[i].arrival[d].large + slicedTo b a c d .large)⟩) ∧
        (∀ d : Channel, t.slots[i].withheld[d] = if d = c then
          min 44236800 (s.slots[i].withheld[d] + a.repeats * (a.columns.flatMap groupDrops).countP fun x => b.route c x.1 = none)
          else s.slots[i].withheld[d]) ∧
        ∀ (d : Channel) (g : Fin 24), t.slots[i].groups[d][g] = (s.slots[i].groups[d][g] ||
          (a.columns.flatMap groupDrops).any fun x => match b.route c x.1 with
            | some (p, n) => decide (p = d ∧ n / 32 = g.val)
            | none => false)) ∧
      (let gs := maskGroups a.mask
       (∀ k j q, k < a.count * a.repeats → (hj : j < gs.length) → q < 8 →
          Memory.read t.store (storeAddress i c (a.first + k) + gs[j] * 8 + q) =
            a.data.getD (k % a.count * (gs.length * 8) + j * 8 + q) 0) ∧
        ∀ x, (∀ k j q, k < a.count * a.repeats → (hj : j < gs.length) → q < 8 →
            x ≠ storeAddress i c (a.first + k) + gs[j] * 8 + q) →
          Memory.read t.store x = Memory.read s.store x)

/-- SWATH_CLOSE: RANGE or STATE with nothing changed; MISMATCH makes the slot DAMAGED with its event and ends its reference, which empties
Retained where no slot then refers to it; FULL leaves it COMPOSING; DONE makes it QUEUED with a WAITING entry at the tail of the queue.
SWATH_DISCARD: RANGE beyond slot 7; a COMPOSING or DAMAGED slot becomes FREE with every field at its FREE value, answered DONE; a FREE
slot is answered DONE and a QUEUED or PRINTING one STATE, with nothing changed. -/
def Obligations.SwathCloseAndDiscardEndComposition : Prop :=
  (∀ (s : State) (tag i n3 n2 n1 n0 : Byte), s.asks 0x03#8 tag [i, n3, n2, n1, n0] →
    (8 ≤ i.toNat → Runs .swathClose s (s.answered 0x03#8 tag .range)) ∧
    ∀ slot : SlotIx, i.toNat = slot.val →
      (s.slots[slot].state ≠ .composing → Runs .swathClose s (s.answered 0x03#8 tag .state)) ∧
      (s.slots[slot].state = .composing →
        (s.slots[slot].slices ≠ bigEndian [n3, n2, n1, n0] → ∃ t, exec .swathClose s = .next t ∧
          Follows (({ s with
            slots := setAt s.slots slot { s.slots[slot] with state := .damaged, gen := none }, maps := t.maps } : State).answered
              0x03#8 tag .mismatch) t ∧
          mapsLeft s t ∧
          s.tells t (.swathDamaged slot .sliceCount s.slots[slot].slices (some (bigEndian [n3, n2, n1, n0])))) ∧
        (s.slots[slot].slices = bigEndian [n3, n2, n1, n0] → 16 ≤ s.queue.length →
          Runs .swathClose s (s.answered 0x03#8 tag .full)) ∧
        (s.slots[slot].slices = bigEndian [n3, n2, n1, n0] → s.queue.length < 16 →
          Runs .swathClose s (({ s with
            slots := setAt s.slots slot { s.slots[slot] with state := .queued }
            queue := s.queue ++ [⟨.swath slot false, .waiting⟩] } : State).answered 0x03#8 tag .done)))) ∧
  ∀ (s : State) (tag i : Byte), s.asks 0x04#8 tag [i] →
    (8 ≤ i.toNat → Runs .swathDiscard s (s.answered 0x04#8 tag .range)) ∧
    ∀ slot : SlotIx, i.toNat = slot.val →
      ((s.slots[slot].state = .queued ∨ s.slots[slot].state = .printing) → Runs .swathDiscard s (s.answered 0x04#8 tag .state)) ∧
      (s.slots[slot].state = .free → Runs .swathDiscard s (s.answered 0x04#8 tag .done)) ∧
      ((s.slots[slot].state = .composing ∨ s.slots[slot].state = .damaged) → ∃ t, exec .swathDiscard s = .next t ∧
        Follows (({ s with slots := setAt s.slots slot blankSlot, maps := t.maps } : State).answered 0x04#8 tag .done) t ∧
        mapsLeft s t)

/-! ## The print queue (chapter 2) -/

/-- ADVANCE and CUT: an ADVANCE outside 1..1,500,000 µm is answered RANGE; with 16 entries in the queue either is answered FULL; otherwise
a WAITING entry, an ADVANCE without its counts, stands at the tail of the queue and the reply is DONE, whatever the media path state and
the stop latch. -/
def Obligations.AdvanceAndCutAppendEntries : Prop :=
  (∀ (s : State) (tag a b c : Byte), s.asks 0x05#8 tag [a, b, c] →
    ((bigEndian [a, b, c] < 1 ∨ 1500000 < bigEndian [a, b, c]) → Runs .advance s (s.answered 0x05#8 tag .range)) ∧
    (1 ≤ bigEndian [a, b, c] → bigEndian [a, b, c] ≤ 1500000 → 16 ≤ s.queue.length →
      Runs .advance s (s.answered 0x05#8 tag .full)) ∧
    (1 ≤ bigEndian [a, b, c] → bigEndian [a, b, c] ≤ 1500000 → s.queue.length < 16 →
      Runs .advance s (({ s with queue := s.queue ++ [⟨.advance (bigEndian [a, b, c]) none none false, .waiting⟩] } : State).answered
        0x05#8 tag .done))) ∧
  ∀ (s : State) (tag : Byte), s.asks 0x06#8 tag [] →
    (16 ≤ s.queue.length → Runs .cut s (s.answered 0x06#8 tag .full)) ∧
    (s.queue.length < 16 →
      Runs .cut s (({ s with queue := s.queue ++ [⟨.cut, .waiting⟩] } : State).answered 0x06#8 tag .done))

/-- ABORT is answered DONE in every state: every entry leaves the queue, the slots COMPOSING or QUEUED and the slot of the pass become
FREE and the others stand, a pass in flight ends as aborted, the wet-edge timer and the hold-reason set are empty (that the timer is
cleared without a pass too is the model's choice, log 14), and a motion of an entry becomes an orphan, not stopped. The stop latch, the
station and the pending requests stand. RESUME: with the latch CLEAR it is answered DONE and changes nothing; with a stop source active
STATE; otherwise DONE, the latch is CLEAR without cause, a paused feed motion goes on, its stall time measured on from where the pause
held it, but for an advance in its settle band (the model's reading, log 37), and a paused cut starts again from its beginning, from
RETURNING too (log 25). -/
def Obligations.AbortAndResume : Prop :=
  (∀ (s : State) (tag : Byte), s.asks 0x07#8 tag [] → ∃ t, exec .abort s = .next t ∧
    t.queue = [] ∧ t.holds = {} ∧ t.wetEdge = none ∧ t.pass = none ∧ t.service.passAsked = false ∧ t.stop = s.stop ∧
    (∀ i : SlotIx, t.slots[i] = if s.slots[i].state = .composing ∨ s.slots[i].state = .queued ∨
      (∃ p, s.pass = some p ∧ p.slot = i) then blankSlot else s.slots[i]) ∧
    (∀ p, s.pass = some p → PassEnded s t p false) ∧
    t.feed.motion = s.feed.motion.map (fun m => if m.owner = .entry then { m with owner := .orphan } else m) ∧
    (s.pass = none → Follows (({ s with
      queue := [], wetEdge := none, slots := t.slots, maps := t.maps
      feed := { s.feed with motion := t.feed.motion } } : State).answered 0x07#8 tag .done) t) ∧
    t.lane.rx = s.lane.rx.tail ∧ t.lane.answers = s.lane.answers ++ [⟨0x07#8, tag, .done, .none⟩] ∧
    t.store = s.store ∧ t.tables = s.tables ∧ t.service.capped = s.service.capped ∧ t.service.docked = s.service.docked ∧
    ∀ r ∈ s.service.pending, r.op ≠ .cap → ∃ q ∈ t.service.pending, q.covers r) ∧
  ∀ (s : State) (tag : Byte), s.asks 0x08#8 tag [] →
    (s.stop.set = false → Runs .resume s (s.answered 0x08#8 tag .done)) ∧
    (s.stop.set = true → s.stopping → Runs .resume s (s.answered 0x08#8 tag .state)) ∧
    (s.stop.set = true → ¬ s.stopping → ∃ t, exec .resume s = .next t ∧
      Follows (({ s with stop := ⟨false, none⟩, feed := t.feed, out := t.out } : State).answered 0x08#8 tag .done) t ∧
      ((∀ m, s.feed.motion = some m → m.paused = false) → t.feed = s.feed) ∧
      (∀ m, s.feed.motion = some m → m.paused = true → m.work.kind ≠ .cut →
        t.feed = { s.feed with motion := some (
          if m.work.kind = .advance ∧ s.feed.inBand m = true then { m with paused := false, heldAt := some (m.heldAt.getD s.now) }
          else { m with paused := false, progressAt := m.progressAt + (s.now - m.heldAt.getD s.now), heldAt := none }) }) ∧
      ∀ m, s.feed.motion = some m → m.paused = true → m.work.kind = .cut →
        t.feed = { s.feed with
          cutter := .cutting, motion := some { m with work := .cut (s.now + 4000) false, paused := false } } ∧
        t.out.cutter = .across)

/-! ## Media requests (chapter 7) -/

/-- LOAD_MEDIA: RANGE for no such source or profile or a roll length above 300,000 mm; STATE outside EMPTY and HELD, with the latch set,
or with the source absent; otherwise DONE, and the load begins: source and profile bound, roll remaining from the length, residue 0,
window empty, attempt 1, path LOADING, a motion of kind LOAD and owner REQUEST that back-feeds while a leading-edge sensor is active and
feeds forward otherwise, and the wet-edge timer absent. -/
def Obligations.LoadMediaBeginsALoad : Prop :=
  ∀ (s : State) (tag a p l2 l1 l0 : Byte), s.asks 0x0A#8 tag [a, p, l2, l1, l0] →
    ((2 < a.toNat ∨ 15 < p.toNat ∨ (a.toNat < 2 ∧ 300000 < bigEndian [l2, l1, l0])) →
      Runs .loadMedia s (s.answered 0x0A#8 tag .range)) ∧
    ∀ (src : Source) (k : Fin 16), byteSource a = some src → p.toNat = k.val → (src = .sheet ∨ bigEndian [l2, l1, l0] ≤ 300000) →
      (((s.feed.path ≠ .empty ∧ s.feed.path ≠ .held) ∨ s.stop.set = true ∨ sourceAbsent s src) →
        Runs .loadMedia s (s.answered 0x0A#8 tag .state)) ∧
      ((s.feed.path = .empty ∨ s.feed.path = .held) → s.stop.set = false → ¬ sourceAbsent s src →
        ∃ t m, exec .loadMedia s = .next t ∧
          Follows (({ s with feed := t.feed, wetEdge := none, out := t.out } : State).answered 0x0A#8 tag .done) t ∧
          t.feed.motion = some m ∧ m.owner = .request ∧ m.paused = false ∧ m.progressAt = s.now ∧
          m.work = .load (if s.inputs[(0 : DIn)].level = some true ∨ s.inputs[(1 : DIn)].level = some true then .clearing
            else .forward) 0 none none none ∧
          (let known := src ≠ .sheet ∧ bigEndian [l2, l1, l0] ≠ 0
           t.feed = { s.feed with
            path := .loading, source := some src, profile := some k, residue := 0, window := [], attempt := 1, motion := some m
            rollRemaining := if known then some (bigEndian [l2, l1, l0] * 1000) else none
            rollLow := if known then false else s.feed.rollLow }))

/-- UNLOAD_MEDIA and EJECT: in JAMMED either clears the path when DI2 is inactive and is answered STATE otherwise; else STATE with the
latch set, BUSY with a motion or a pass in flight, STATE where the path and source do not allow it, and otherwise DONE with a motion of
owner REQUEST and no feed or target position. That BUSY comes before STATE in the path states that always have a motion is the model's
reading (log 58). -/
def Obligations.UnloadAndEjectBegin : Prop :=
  ∀ (s : State) (tag : Byte), ∀ q ∈ [(Instr.unloadMedia, 0x0B#8, MotionKind.unload), (Instr.eject, 0x0C#8, MotionKind.eject)],
    s.asks q.2.1 tag [] →
    let allowed := if q.2.2 = .unload then s.feed.path = .ready ∧ (s.feed.source = some .roll1 ∨ s.feed.source = some .roll2)
      else (s.feed.path = .ready ∧ s.feed.source = some .sheet) ∨ s.feed.path = .tailOut ∨ s.feed.path = .held
    (s.feed.path = .jammed → s.inputs[(2 : DIn)].level ≠ some false → Runs q.1 s (s.answered q.2.1 tag .state)) ∧
    (s.feed.path = .jammed → s.inputs[(2 : DIn)].level = some false → ∃ t, exec q.1 s = .next t ∧
      Follows (({ s with feed := s.feed.cleared, wetEdge := none, out := t.out } : State).answered q.2.1 tag .done) t) ∧
    (s.feed.path ≠ .jammed →
      (s.stop.set = true → Runs q.1 s (s.answered q.2.1 tag .state)) ∧
      (s.stop.set = false → (s.feed.motion ≠ none ∨ s.pass ≠ none) → Runs q.1 s (s.answered q.2.1 tag .busy)) ∧
      (s.stop.set = false → s.feed.motion = none → s.pass = none → ¬ allowed → Runs q.1 s (s.answered q.2.1 tag .state)) ∧
      (s.stop.set = false → s.feed.motion = none → s.pass = none → allowed → ∃ t m, exec q.1 s = .next t ∧
        Follows (({ s with
          feed := { s.feed with
            path := if q.2.2 = .unload then .unloading else .ejecting, pos := none, target := none, motion := some m }
          out := t.out } : State).answered q.2.1 tag .done) t ∧
        m.work.kind = q.2.2 ∧ m.owner = .request ∧ m.paused = false ∧ m.count = 0))

/-! ## Station, ladder, cartridge and map requests (chapters 4 to 6) -/

/-- WIPE, PRIME and CHECK_NOZZLES: RANGE beyond the heads or channels or for a channel set that is empty or names none, STATE for a PRIME
of a channel without ink kind; otherwise DONE, and a request pending stands for it with origin FORMATTER. CAP is answered DONE, placed
when UNCAPPED or when an uncap is in flight and dropped otherwise; the gate has withdrawn none where the queue is empty. -/
def Obligations.StationRequestsWaitPending : Prop :=
  ∀ (s : State) (tag b : Byte),
    (s.asks 0x0D#8 tag [b] → (3 ≤ b.toNat → Runs .wipe s (s.answered 0x0D#8 tag .range)) ∧
      ∀ h : Head, b.toNat = h.val → ∃ t, exec .wipe s = .next t ∧ Follows (s.answered 0x0D#8 tag .done) t ∧
        ∃ q ∈ t.service.pending, q.covers ⟨.wipe h, none, byFormatter⟩) ∧
    (s.asks 0x0E#8 tag [b] → (6 ≤ b.toNat → Runs .prime s (s.answered 0x0E#8 tag .range)) ∧
      ∀ c : Channel, b.toNat = c.val →
        (s.tables.channel[c].kind = none → Runs .prime s (s.answered 0x0E#8 tag .state)) ∧
        (s.tables.channel[c].kind ≠ none → ∃ t, exec .prime s = .next t ∧ Follows (s.answered 0x0E#8 tag .done) t ∧
          ∃ q ∈ t.service.pending, q.covers ⟨.prime c, none, byFormatter⟩)) ∧
    (s.asks 0x0F#8 tag [b] →
      ((b.toNat = 0 ∨ 64 ≤ b.toNat) → Runs .checkNozzles s (s.answered 0x0F#8 tag .range)) ∧
      (1 ≤ b.toNat → b.toNat < 64 → ∃ t, exec .checkNozzles s = .next t ∧ Follows (s.answered 0x0F#8 tag .done) t ∧
        ∃ q ∈ t.service.pending, q.covers ⟨.check (Vector.ofFn fun c => b.toNat.testBit c.val), none, byFormatter⟩)) ∧
    (s.asks 0x10#8 tag [] →
      Runs .cap s (s.answered 0x10#8 tag .done) ∧
      (s.queue = [] → (s.service.capped = false ∨ s.service.uncapInFlight = true) → ∃ t, exec .cap s = .next t ∧
        ∃ q ∈ t.service.pending, q.covers ⟨.cap, none, byFormatter⟩) ∧
      (s.service.capped = true → s.service.uncapInFlight = false → (∀ q ∈ s.service.pending, q.op ≠ .cap) →
        ∃ t, exec .cap s = .next t ∧ ∀ q ∈ t.service.pending, q.op ≠ .cap))

/-- FILL_TO_MARK and TAG_READ: RANGE beyond channel 5. A fill is answered STATE when the cartridge cannot supply, else DONE and pending,
under the fault mark too. A tag read is answered STATE in ABSENT, ACCEPTED, LOW and EMPTY, BUSY in READING, and DONE in REJECTED and TAG
FAULT: the slot becomes READING with READ sent, and its record stands but for a reject reason, which becomes absent (the model's choice,
log 54). -/
def Obligations.CartridgeRequestsStartFillAndReading : Prop :=
  ∀ (s : State) (tag b : Byte),
    (s.asks 0x11#8 tag [b] → (6 ≤ b.toNat → Runs .fillToMark s (s.answered 0x11#8 tag .range)) ∧
      ∀ c : Channel, b.toNat = c.val →
        (s.carts[c].state ≠ .accepted → s.carts[c].state ≠ .low → Runs .fillToMark s (s.answered 0x11#8 tag .state)) ∧
        ((s.carts[c].state = .accepted ∨ s.carts[c].state = .low) → ∃ t, exec .fillToMark s = .next t ∧
          Follows (s.answered 0x11#8 tag .done) t ∧ ∃ q ∈ t.service.pending, q.covers ⟨.fillToMark c, none, byFormatter⟩)) ∧
    (s.asks 0x14#8 tag [b] → (6 ≤ b.toNat → Runs .tagRead s (s.answered 0x14#8 tag .range)) ∧
      ∀ c : Channel, b.toNat = c.val →
        (s.carts[c].state ∈ [CartState.absent, .accepted, .low, .empty] → Runs .tagRead s (s.answered 0x14#8 tag .state)) ∧
        (s.carts[c].state = .reading → Runs .tagRead s (s.answered 0x14#8 tag .busy)) ∧
        (s.carts[c].state ∈ [CartState.rejected, .tagFault] → Runs .tagRead s
          (({ s with carts := setAt s.carts c { s.carts[c] with
            state := .reading, reject := none, link := some (.read, s.now + 20) } } : State).answered 0x14#8 tag .done)))

/-- RESET_LADDER: RANGE beyond channel 5; otherwise DONE in every ladder state: the ladder is NORMAL with its last check count as its
baseline and nothing suspended, and one LADDER event is queued. LADDER is taken from the channel's pending requests, but for one that
another ladder asks for (the model's reading, log 21); every request keeps its other origins, and those of other kinds and targets stand
as they were. That LADDER is gone from the others is said where the supply states are those of Table 4.1.2, as every step keeps them. -/
def Obligations.ResetLadderReturnsToNormal : Prop :=
  ∀ (s : State) (tag b : Byte), s.asks 0x12#8 tag [b] →
    (6 ≤ b.toNat → Runs .resetLadder s (s.answered 0x12#8 tag .range)) ∧
    ∀ c : Channel, b.toNat = c.val →
      let l := s.service.ladders[c]
      let l' : Ladder := ⟨.normal, none, l.last, l.last, none, none, none⟩
      ∃ t, exec .resetLadder s = .next t ∧
        Follows (({ s with service := { s.service with
          ladders := setAt s.service.ladders c l', pending := t.service.pending } } : State).answered 0x12#8 tag .done) t ∧
        s.tells t (.ladder c .normal none l.last l.last none none) ∧
        (∀ r ∈ s.service.pending, r.op ≠ .cap → (r.op.ofLadder c = false ∨ r.origins.ladder = false) →
          ∃ q ∈ t.service.pending, q.covers r) ∧
        (∀ r ∈ s.service.pending, r.op ≠ .cap → ({ r.origins with ladder := false } : Origins).isEmpty = false →
          ∃ q ∈ t.service.pending, q.covers { r with origins := { r.origins with ladder := false } }) ∧
        (s.SupplyInv → ∀ q ∈ t.service.pending, q.op.ofLadder c = true → q.origins.ladder = true → t.service.asked q.op = true)

/-- COMMIT_MAP sets the commit pending flag. The SUBSTITUTION edits change the Next bank alone: ADD lists a nozzle not listed where fewer
than 48 are, REMOVE takes one off its list, CLEAR empties the list and clears the overflow flag, each list keeping its order; a nozzle
already listed, or not listed, changes nothing, a full list is answered FULL, and a channel or nozzle out of range RANGE. Where the Next
bank was resolved it is resolved again. -/
def Obligations.MapEditsChangeOnlyTheNextBank : Prop :=
  ∀ (s : State) (tag b n1 n0 : Byte),
    (s.asks 0x13#8 tag [] →
      Runs .commitMap s (({ s with maps := { s.maps with commitPending := true } } : State).answered 0x13#8 tag .done)) ∧
    ((6 ≤ b.toNat ∨ 767 < bigEndian [n1, n0]) →
      (s.asks 0x18#8 tag [6#8, b, 0#8, n1, n0] → Runs .substitutionAdd s (s.answered 0x18#8 tag .range)) ∧
      (s.asks 0x18#8 tag [6#8, b, 1#8, n1, n0] → Runs .substitutionRemove s (s.answered 0x18#8 tag .range))) ∧
    (6 ≤ b.toNat → s.asks 0x18#8 tag [6#8, b, 2#8, n1, n0] → Runs .substitutionClear s (s.answered 0x18#8 tag .range)) ∧
    ∀ c : Channel, b.toNat = c.val →
      let n := bigEndian [n1, n0]
      let listed (x : State) (d : Channel) : List Nat := x.maps.next.lists[d].map (·.dead)
      (n ≤ 767 → s.asks 0x18#8 tag [6#8, b, 0#8, n1, n0] →
        (n ∈ listed s c → Runs .substitutionAdd s (s.answered 0x18#8 tag .done)) ∧
        (n ∉ listed s c → 48 ≤ (listed s c).length → Runs .substitutionAdd s (s.answered 0x18#8 tag .full)) ∧
        (n ∉ listed s c → (listed s c).length < 48 → ∃ t, exec .substitutionAdd s = .next t ∧
          Follows (({ s with maps := { s.maps with next := { s.maps.next with lists := t.maps.next.lists } } } : State).answered
            0x18#8 tag .done) t ∧
          (listed t c).Perm (n :: listed s c) ∧ (∀ d, d ≠ c → listed t d = listed s d) ∧ (s.MapInv → t.MapInv))) ∧
      (n ≤ 767 → s.asks 0x18#8 tag [6#8, b, 1#8, n1, n0] →
        (n ∉ listed s c → Runs .substitutionRemove s (s.answered 0x18#8 tag .done)) ∧
        (n ∈ listed s c → ∃ t, exec .substitutionRemove s = .next t ∧
          Follows (({ s with maps := { s.maps with next := { s.maps.next with lists := t.maps.next.lists } } } : State).answered
            0x18#8 tag .done) t ∧
          listed t c = (listed s c).filter (· ≠ n) ∧ (∀ d, d ≠ c → listed t d = listed s d) ∧ (s.MapInv → t.MapInv))) ∧
      (s.asks 0x18#8 tag [6#8, b, 2#8, n1, n0] → ∃ t, exec .substitutionClear s = .next t ∧
        Follows (({ s with maps := { s.maps with next :=
          { lists := t.maps.next.lists, overflow := setAt s.maps.next.overflow c false } } } : State).answered 0x18#8 tag .done) t ∧
        listed t c = [] ∧ (∀ d, d ≠ c → listed t d = listed s d) ∧ (s.MapInv → t.MapInv))

/-! ## The scan (chapter 8) -/

/-- SCAN_START takes the mode record into use and begins at once a first sweep in CONTINUOUS mode, or the periodic timer in TRIGGERED
SWEEP mode, abandoning a sweep in flight; SCAN_STOP ends the scan and keeps the results; SCAN_NOW is answered STATE unless the scan runs
in TRIGGERED SWEEP mode, and there begins a sweep where none is in flight. A table write changes no field in use, and a release is no
trigger while the scan is stopped. -/
def Obligations.ScanRequestsStartStopAndTrigger : Prop :=
  ∀ (s : State) (tag : Byte),
    (s.asks 0x15#8 tag [] →
      let m := s.tables.mode
      Runs .scanStart s (({ s with scan := ⟨s.scan.results, true, m.mode, m.startIn, m.endIn, m.period,
        if m.mode = .continuous then some m.startIn else none,
        if m.mode = .triggered then some (s.now + m.period) else none⟩ } : State).answered 0x15#8 tag .done)) ∧
    (s.asks 0x16#8 tag [] → Runs .scanStop s
      (({ s with scan := { s.scan with running := false, sweep := none, periodicAt := none } } : State).answered 0x16#8 tag .done)) ∧
    (s.asks 0x17#8 tag [] →
      ((s.scan.running = false ∨ s.scan.mode = .continuous) → Runs .scanNow s (s.answered 0x17#8 tag .state)) ∧
      (s.scan.running = true → s.scan.mode = .triggered → Runs .scanNow s
        (({ s with scan := { s.scan with sweep := some (s.scan.sweep.getD s.scan.startIn) } } : State).answered 0x17#8 tag .done))) ∧
    (∀ t, exec .tableWrite s = .next t → t.scan.running = s.scan.running ∧ t.scan.mode = s.scan.mode ∧
      t.scan.startIn = s.scan.startIn ∧ t.scan.endIn = s.scan.endIn ∧ t.scan.period = s.scan.period ∧ t.scan.sweep = s.scan.sweep) ∧
    (s.scan.running = false → ∀ t, exec .arbiterGrant s = .next t → t.scan = s.scan)

/-! ## Loaded tables (chapter 9) -/

/-- TABLE_WRITE of each loaded table: what does not read as a write of a record there is answered RANGE; a refused field, or a pressure
window turned over, RANGE; a record in use IN USE; otherwise the record takes the fields, the reply is DONE, or CLAMPED with the stored
value of each clamped field, and no other record changes. A profile, the mode record and an input record change nothing else. A channel
record with another policy or partner resolves the channel's list in the Next bank again, no entry being added or removed, and any other
leaves the maps as they are; it may change supply and requests; it forms the cartridge state again where the write names the stroke volume
or the cartridge-low level, and leaves it otherwise. A changed spit count enters the post-wipe spit of a running WIPE or PRIME unless it
has begun, which is a free value (log 60). A scan record makes a valid result stale that is now older than its maximum age, with SENSOR
STALE. A service record that names the wipe interval makes an automatic WIPE pending for every head whose drops since wipe reach it,
unless one is asked or STATION FAULT stands. That a write may name a field twice, the later value standing and either refusing a bound ink
kind, is the model's choice (log 13). -/
def Obligations.TableWriteStoresTheRecord : Prop :=
  ∀ (s : State) (tag : Byte) (body : List Byte), s.asks 0x18#8 tag body →
    let reply (u : State) (cl : List (Nat × Int)) : State := u.answered 0x18#8 tag (if cl = [] then .done else .clamped)
      (if cl = [] then .none else .clamped cl)
    (isTableWrite ⟨0x18#8, tag, body⟩ = true →
      (readTableWrite body = none ∨ ∃ tb ix fs, readTableWrite body = some (tb, ix, fs) ∧ readRecord tb ix s = none) →
      Runs .tableWrite s (s.answered 0x18#8 tag .range)) ∧
    (∀ (k : Fin 16) fs, readTableWrite body = some (0, k.val, fs) →
      (putFields InkKind.put fs s.tables.ink[k] = none → Runs .tableWrite s (s.answered 0x18#8 tag .range)) ∧
      ∀ r cl, putFields InkKind.put fs s.tables.ink[k] = some (r, cl) →
        let used := (∃ c : Channel, s.tables.channel[c].kind = some k) ∧
          ∃ i : SlotIx, s.slots[i].state = .queued ∨ s.slots[i].state = .printing
        (used → Runs .tableWrite s (s.answered 0x18#8 tag .inUse)) ∧
        (¬ used → ∃ t, exec .tableWrite s = .next t ∧ spitTracked s t ∧
          Follows (reply { s with
            tables := { s.tables with ink := setAt s.tables.ink k r }, freeCount := t.freeCount
            service := { s.service with holder := t.service.holder } } cl) t)) ∧
    (∀ (c : Channel) fs, readTableWrite body = some (1, c.val, fs) →
      (putFields ChannelRec.put fs (s.tables.channel[c], s.tables.reverseShift[headOf c]) = none →
        Runs .tableWrite s (s.answered 0x18#8 tag .range)) ∧
      ∀ r x cl, putFields ChannelRec.put fs (s.tables.channel[c], s.tables.reverseShift[headOf c]) = some ((r, x), cl) →
        ((r.gateHigh < r.gateLow ∨ r.stopHigh < r.stopLow) → Runs .tableWrite s (s.answered 0x18#8 tag .range)) ∧
        (r.gateLow ≤ r.gateHigh → r.stopLow ≤ r.stopHigh →
          let held := s.accounts[c].known = true ∧ 0 < s.accounts[c].level ∧
            ∃ f ∈ fs, f.1 = 0 ∧ f.2 ≠ codeOrNone s.tables.channel[c].kind
          (held → Runs .tableWrite s (s.answered 0x18#8 tag .inUse)) ∧
          (¬ held → ∃ t, exec .tableWrite s = .next t ∧
            Follows (reply { s with
              tables := { s.tables with
                channel := setAt s.tables.channel c r, reverseShift := setAt s.tables.reverseShift (headOf c) x }
              maps := { s.maps with next := { s.maps.next with lists := t.maps.next.lists } }, freeCount := t.freeCount
              carts := t.carts
              service := { s.service with
                pending := t.service.pending, ladders := t.service.ladders, holder := t.service.holder } } cl) t ∧
            spitTracked s t ∧
            (r.policy = s.tables.channel[c].policy → r.partner = s.tables.channel[c].partner → t.maps = s.maps) ∧
            (∀ d : Channel, t.maps.next.lists[d].map (·.dead) = s.maps.next.lists[d].map (·.dead) ∧
              (d ≠ c → t.maps.next.lists[d] = s.maps.next.lists[d])) ∧
            ((r.policy ≠ s.tables.channel[c].policy ∨ r.partner ≠ s.tables.channel[c].partner) →
              ∀ e ∈ t.maps.next.lists[c], e.sub = resolve t.tables t.maps.next c e.dead) ∧
            (∀ d : Channel, { t.carts[d] with state := s.carts[d].state, link := s.carts[d].link } = s.carts[d]) ∧
            ∀ d : Channel, t.carts[d].state =
              if d = c ∧ s.carts[d].state.identified = true ∧ (∃ f ∈ fs, f.1 = 7 ∨ f.1 = 14) then formedCart r s.carts[c].remaining
              else s.carts[d].state))) ∧
    (∀ (k : Fin 16) fs, readTableWrite body = some (2, k.val, fs) →
      (putFields Profile.put fs s.tables.profile[k] = none → Runs .tableWrite s (s.answered 0x18#8 tag .range)) ∧
      ∀ r cl, putFields Profile.put fs s.tables.profile[k] = some (r, cl) →
        (s.feed.profile = some k → Runs .tableWrite s (s.answered 0x18#8 tag .inUse)) ∧
        (s.feed.profile ≠ some k →
          Runs .tableWrite s (reply { s with tables := { s.tables with profile := setAt s.tables.profile k r } } cl))) ∧
    (∀ fs, readTableWrite body = some (3, 0, fs) →
      (putFields ServiceRec.put fs s.tables.service = none → Runs .tableWrite s (s.answered 0x18#8 tag .range)) ∧
      ∀ r cl, putFields ServiceRec.put fs s.tables.service = some (r, cl) →
        ∃ t, exec .tableWrite s = .next t ∧ Follows (reply { s with tables := { s.tables with service := r } } cl) t ∧
          ((∃ f ∈ fs, f.1 = 0) → s.lane.conditions.stationFault = false → ∀ h : Head, r.wipeInterval ≤ s.service.drops[h] →
            s.service.wipeAsked h = false → ∃ q ∈ t.service.pending, q.covers ⟨.wipe h, none, byWear⟩)) ∧
    (∀ (i : AIn) fs, readTableWrite body = some (4, i.val, fs) →
      (putFields ScanRec.put fs s.tables.scan[i] = none → Runs .tableWrite s (s.answered 0x18#8 tag .range)) ∧
      ∀ r cl, putFields ScanRec.put fs s.tables.scan[i] = some (r, cl) →
        let old := s.scan.results[i]
        let stored : State := { s with tables := { s.tables with scan := setAt s.tables.scan i r } }
        let late := old.valid = true ∧ ∀ a, old.convertedAt = some a → r.maxAge < s.now - a
        (¬ late → Runs .tableWrite s (reply stored cl)) ∧
        (late → ∃ t, exec .tableWrite s = .next t ∧
          Follows (reply { stored with
            scan := { s.scan with results := setAt s.scan.results i { old with valid := false } } } cl) t ∧
          t.lane.conditions.sensorStale = true ∧ ∀ a, old.convertedAt = some a → s.tells t (.sensorStale i old.value (s.now - a)))) ∧
    (∀ fs, readTableWrite body = some (4, 12, fs) →
      (putFields ModeRec.put fs s.tables.mode = none → Runs .tableWrite s (s.answered 0x18#8 tag .range)) ∧
      ∀ r cl, putFields ModeRec.put fs s.tables.mode = some (r, cl) →
        Runs .tableWrite s (reply { s with tables := { s.tables with mode := r } } cl)) ∧
    ∀ (i : DIn) fs, readTableWrite body = some (5, i.val, fs) →
      (putFields InputCfg.put fs s.tables.input[i] = none → Runs .tableWrite s (s.answered 0x18#8 tag .range)) ∧
      ∀ r cl, putFields InputCfg.put fs s.tables.input[i] = some (r, cl) →
        Runs .tableWrite s (reply { s with tables := { s.tables with input := setAt s.tables.input i r } } cl)

/-- Every field that a TABLE WRITE stores reads back as the value stored, in the seven kinds of record. -/
def Obligations.StoredFieldsReadBack : Prop :=
  fieldsReadBack InkKind.put InkKind.fields ∧ fieldsReadBack ChannelRec.put (fun r => r.1.fields r.2) ∧
    fieldsReadBack Profile.put Profile.fields ∧ fieldsReadBack ServiceRec.put ServiceRec.fields ∧
    fieldsReadBack ScanRec.put ScanRec.fields ∧ fieldsReadBack ModeRec.put ModeRec.fields ∧
    fieldsReadBack InputCfg.put InputCfg.fields

/-! ## Power-on and ENGINE RESET -/

/-- POWER_ON: every block takes its power-on value, the loaded tables their defaults, the store reads 0 everywhere (the model's choice,
log 10), and AIN0 is in conversion (the model's reading, log 63); each input is unsettled with its raw level as the candidate, but for the
two inputs whose filter is 0 ms, which settle at once (the model's reading, log 7). Until DI2 and DI8 settle the path is EMPTY and the
cutter AWAY (the model's choice, log 6), and the commands waiting stay (the model's choice, log 2). -/
def Obligations.PowerOnGivesEveryDefault : Prop :=
  ∀ (s : State) (raw : Vector Bool 16), ∃ t, exec (.powerOn raw) s = .next t ∧
    t.now = 0 ∧ t.slots = Vector.replicate 8 blankSlot ∧ (∀ a, Memory.read t.store a = 0) ∧ t.queue = [] ∧ t.holds = {} ∧
    t.wetEdge = none ∧ t.pass = none ∧ t.driveEnable = false ∧ t.accounts = Vector.replicate 6 initAccount ∧
    t.maps = initMaps ∧ t.tables = defaultTables ∧ t.feed = initFeed ∧ t.scan = initScan ∧ t.service.drops = Vector.replicate 3 0 ∧
    t.service.stamps = Vector.replicate 6 (Vector.replicate 24 0) ∧ t.service.capped = true ∧ t.service.docked = true ∧
    t.service.holder = .free ∧ t.service.pending = [] ∧ t.service.ladders = Vector.replicate 6 initLadder ∧
    t.service.idleSince = 0 ∧ t.service.passAsked = false ∧ t.lane.notice = false ∧
    (∀ c : Channel, t.supply[c] = initSupply ∧ t.carts[c] = initCartridge ∧ t.lamps[c] = initLamp) ∧
    t.lane.aligned = false ∧ t.lane.rx = [] ∧ t.lane.hold = false ∧ t.lane.replies = [] ∧ t.lane.sending = none ∧
    t.lane.conditions = {} ∧ t.pending = s.pending ∧
    (∀ i : DIn, defaultTables.input[i].filter ≠ 0 → t.inputs[i] = ⟨none, some ⟨raw[i], 0, defaultTables.input[i].filter⟩⟩) ∧
    (∀ i : DIn, defaultTables.input[i].filter = 0 → t.inputs[i] = ⟨some raw[i], none⟩) ∧
    (t.stop.set = true ↔ ∃ i : DIn, defaultTables.input[i].filter = 0 ∧ raw[i] = true)

/-- ENGINE RESET, by request or on the reset line: the pass in flight is aborted and charged first, its groups stamped, its drops counted
and the dry timer started; an operation in flight is abandoned, its refill ending ABANDONED; then the queue, the hold-reason set and the
wet-edge timer are empty, every slot is FREE and Retained empty, the carriage free and UNDOCKED, ladders in a step or suspended NORMAL
with their baselines and the others as they were, every ink need absent, the feed record reset with the path HELD where DI2 is active and
EMPTY otherwise; the stop latch stands for the first input at its stop level alone. Every pending request is cleared: those that pend then
are what the supply controller and the wear test place anew. The tables, the store, the Current and Next banks, the pending commit, the
scan, the inputs, the cartridge records and the lane's alignment, buffer and conditions are kept. An interrupted PRIME is charged its
whole prime volume once its purge has begun; the drops that an interrupted WIPE, PRIME or CHECK fired are a free value (log 18). -/
def Obligations.EngineResetReturnsToTheInitialState : Prop :=
  ∀ (s : State),
    let reset (t : State) : Prop :=
      t.queue = [] ∧ t.holds = {} ∧ t.wetEdge = none ∧ t.pass = none ∧ t.driveEnable = false ∧
      (∀ i : SlotIx, t.slots[i] = blankSlot) ∧
      t.maps = { s.maps with retained := t.maps.retained, retainedGen := none } ∧
      (s.maps.retainedGen ≠ none → t.maps.retained = emptyBank) ∧
      t.service.holder = .free ∧ t.service.docked = false ∧ t.service.passAsked = false ∧ t.service.idleSince = s.now ∧
      (∀ c : Channel, t.service.ladders[c].baseline = s.service.ladders[c].baseline ∧
        (s.service.ladders[c].state = .degraded → t.service.ladders[c] = s.service.ladders[c]) ∧
        (s.service.ladders[c].state ≠ .degraded → t.service.ladders[c].state = .normal)) ∧
      (∀ c : Channel, t.supply[c].need = none) ∧
      t.feed = { s.feed.cleared with
        path := if s.inputs[(2 : DIn)].level = some true then .held else .empty
        attempt := 0, rollLow := false, dryExpiry := t.feed.dryExpiry
        cutter := if s.inputs[(8 : DIn)].level = some true then .home else .away } ∧
      (s.pass = none → t.feed.dryExpiry = s.feed.dryExpiry) ∧
      t.stop = (match (List.finRange 16).find? s.atStopLevel with
        | some i => ⟨true, some (.input i)⟩
        | none => ⟨false, none⟩) ∧
      (s.pass = none → s.service.inFlight = none → t.accounts = s.accounts ∧ t.service.stamps = s.service.stamps ∧
        t.service.drops = s.service.drops) ∧
      (∀ p, s.pass = some p → s.service.inFlight = none →
        (∀ (c : Channel) r, s.accounts[c].release = some r → t.accounts[c] = s.accounts[c].charged r (p.counts c)) ∧
        (∀ (c : Channel) (g : Fin 24), t.service.stamps[c][g] =
          if p.fired[c][g] then max s.now s.service.stamps[c][g] else s.service.stamps[c][g]) ∧
        (∀ h : Head, t.service.drops[h] = min (s.service.drops[h] + p.headDrops h) 4294967295) ∧
        (∀ k, s.feed.profile = some k → t.feed.dryExpiry = some (s.now + dryingDelay s.tables.profile[k]
          (appendWindow (s.passDebits p).toList.sum s.feed.window).sum (s.isCold s.tables.profile[k]))) ∧
        s.tells t (.swathAborted p.slot p.lastCol (s.passDebits p) s.slots[p.slot].withheld)) ∧
      (∀ o, s.pass = none → s.service.holder = .op o →
        t.service.drops = s.service.drops ∧ InterruptedCharges s t o ∧
        ∀ d k, o.req.op.refillChannel = some d → s.supply[d].refill = some k → t.supply[d].refill = none ∧
          s.tells t (.refillDone d k.kind .abandoned k.strokes k.drawn s.accounts[d].level s.accounts[d].known)) ∧
      (∀ q ∈ t.service.pending, (q.origins = bySupply ∧ ∃ c, q.op.refillChannel = some c) ∨ (q.origins = byWear ∧ ∃ h, q.op = .wipe h)) ∧
      (∀ c : Channel, t.supply[c].faultMark = false → (s.carts[c].state = .accepted ∨ s.carts[c].state = .low) →
        (t.accounts[c].known = false → ∃ q ∈ t.service.pending, q.covers ⟨.fillToMark c, none, bySupply⟩) ∧
        (t.supply[c].state = .low → ∃ q ∈ t.service.pending, q.covers ⟨.refill c, none, bySupply⟩)) ∧
      (s.lane.conditions.stationFault = false → ∀ h : Head, s.tables.service.wipeInterval ≤ t.service.drops[h] →
        ∃ q ∈ t.service.pending, q.covers ⟨.wipe h, none, byWear⟩) ∧
      (s.service.inFlight = none → ∀ c : Channel, { t.carts[c] with link := s.carts[c].link } = s.carts[c] ∧
        (s.carts[c].link ≠ none → t.carts[c].link = s.carts[c].link)) ∧
      t.tables = s.tables ∧ t.store = s.store ∧ t.scan = s.scan ∧ t.inputs = s.inputs ∧ t.lane.aligned = s.lane.aligned ∧
      ∀ k, s.lane.conditions.latched k = true → t.lane.conditions.latched k = true
    (∃ t, exec .engineResetLine s = .next t ∧ reset t ∧ t.lane.rx = s.lane.rx ∧ t.lane.hold = s.lane.hold ∧
      t.lane.answers = s.lane.answers) ∧
    ∀ tag, s.asks 0x09#8 tag [] → ∃ t, exec .engineReset s = .next t ∧ reset t ∧
      t.lane.rx = s.lane.rx.tail ∧ t.lane.answers = s.lane.answers ++ [⟨0x09#8, tag, .done, .none⟩]

/-! ## Grants and release (chapters 2 and 6) -/

/-- ARBITER_GRANT of a WIPE, CHECK or CAP: the request leaves the pending ones, where none that matches it then stands, and holds the
carriage, timed from the grant. UNDOCKED, the carriage is commanded to dock and the sequence waits; DOCKED, the sequence runs at once (the
model's choice, log 20), and a WIPE or CHECK granted while CAPPED uncaps the heads, which stamps every group. -/
def Obligations.ArbiterGrantsTheFirstRequest : Prop :=
  ∀ (s : State) (r : Request), mayGrantFirst s r → (r.op = .cap ∨ (∃ h, r.op = .wipe h) ∨ ∃ m, r.op = .check m) →
    let o : OpInFlight := ⟨r, s.now, s.now + r.op.timeout s.tables.service, s.service.docked, none, s.tables.spitCounts, false⟩
    let others := s.service.pending.filter fun q => q ≠ r
    (s.service.docked = false → Runs .arbiterGrant s { s with
      service := { s.service with
        pending := others, holder := .op o, uncapInFlight := s.service.capped && decide (r.op ≠ .cap) }
      out := { s.out with carriage := .dock } }) ∧
    (s.service.docked = true → (s.service.capped = false ∨ r.op = .cap) → Runs .arbiterGrant s { s with
      service := { s.service with pending := others, holder := .op o, uncapInFlight := false }
      out := { s.out with station := .run r.op } }) ∧
    (s.service.docked = true → s.service.capped = true → r.op ≠ .cap → ∃ t, exec .arbiterGrant s = .next t ∧
      Follows { s with
        service := { s.service with
          pending := others, holder := .op o, uncapInFlight := false, capped := false, stamps := t.service.stamps }
        out := { s.out with station := .run r.op } } t ∧
      ∀ (c : Channel) (g : Fin 24), t.service.stamps[c][g] = max s.now s.service.stamps[c][g]) ∧
    (s.SupplyInv → ∃ t, exec .arbiterGrant s = .next t ∧ ∀ q ∈ t.service.pending, q.op.matches r.op = false)

/-- ARBITER_GRANT of a refill: the record of R62 is written with the channel fields read at the grant (the model's side, log 50), and a
FILL TO MARK of an unknown level sets the level to 0. A target already reached ends it at once with TARGET and no stroke, docked or not
(log 17). Otherwise, UNDOCKED, the dock is commanded; DOCKED, the first stroke is checked at once and begun, or the refill ends (log 30).
-/
def Obligations.GrantedRefillWritesItsRecord : Prop :=
  ∀ (s : State) (r : Request) (c : Channel) (k : RefillKind), mayGrantFirst s r → r.op = k.op c →
    let t0 := s.tables.channel[c]
    let target : Option Nat := match k with
      | .fill => none
      | .refill => some (min t0.refillTarget t0.markLevel)
      | .urgent => some (min (max t0.refillTarget (t0.floor + s.accounts[c].reserved + r.amount.getD 0)) t0.markLevel)
    let k0 : Refill := ⟨k, target,
      if k = .fill then some ((t0.markLevel + t0.strokeVolume - 1) / t0.strokeVolume + 8) else none,
      0, 0, false, false, t0.markLevel, t0.strokeVolume, t0.floor, t0.refillTarget⟩
    let reached := ∃ x, target = some x ∧ x ≤ s.accounts[c].level
    let others := s.service.pending.filter fun q => q ≠ r
    let op (running : Bool) : Holder :=
      .op ⟨r, s.now, s.now + s.tables.service.refillTimeout, running, none, s.tables.spitCounts, false⟩
    let level := if k = .fill ∧ s.accounts[c].known = false then 0 else s.accounts[c].level
    let fields (t : State) : Prop :=
      (∀ d : Channel, t.accounts[d] = if d = c then { s.accounts[c] with level := level } else s.accounts[d]) ∧
      ∀ d : Channel, d ≠ c → t.supply[d].refill = s.supply[d].refill ∧ t.supply[d].faultMark = s.supply[d].faultMark ∧
        { t.carts[d] with link := s.carts[d].link } = s.carts[d]
    (¬ reached → s.service.docked = false → ∃ t, exec .arbiterGrant s = .next t ∧ fields t ∧
      Follows { s with
        service := { s.service with pending := others, holder := op false, uncapInFlight := false }
        accounts := t.accounts, supply := t.supply, out := { s.out with carriage := .dock } } t ∧
      t.supply[c].refill = some k0 ∧ t.supply[c].faultMark = s.supply[c].faultMark) ∧
    (reached → ∃ t, exec .arbiterGrant s = .next t ∧ fields t ∧
      Follows { s with
        service := { s.service with pending := others, holder := .free, uncapInFlight := false, idleSince := s.now }
        supply := t.supply, carts := t.carts
        out := { s.out with
          station := .closeValve c, carriage := if s.service.docked then s.out.carriage else .dock } } t ∧
      t.supply[c].faultMark = s.supply[c].faultMark ∧ RefillEnded s t c k0 .target) ∧
    (¬ reached → s.service.docked = true → ∃ t, exec .arbiterGrant s = .next t ∧ fields t ∧
      Follows { s with
        accounts := t.accounts, supply := t.supply, carts := t.carts, service := t.service
        out := { s.out with station := t.out.station } } t ∧
      (∀ q ∈ others, q.op.refillChannel ≠ some c → q.op ≠ .cap → ∃ p ∈ t.service.pending, p.covers q) ∧
      t.service.docked = true ∧ t.service.stamps = s.service.stamps ∧ t.service.capped = s.service.capped ∧
      StrokeTried s t c k0 level (s.carts[c].state = .empty ∨ s.carts[c].remaining < t0.strokeVolume) (op true))

/-- ARBITER_GRANT of a PRIME alone: with a known level at least the floor and the prime volume it is granted, in STARVED and FAULT too and
where the two exceed the mark level (log 56). UNDOCKED, the dock is commanded; DOCKED, its sequence runs at once (the model's choice, log
20), the heads uncap where CAPPED, which stamps every group, and its purge begins with the sequence (log 19) with the prime volume of the
bound kind. Otherwise, with a cartridge that can supply and a carriage UNDOCKED, the refill it asks for is granted and the PRIME waits on.
Bound to no kind, under the fault mark, without a cartridge that can supply, or where its volume can never fit below the mark, it is
withdrawn with STATION FAILED, NO INK, and no STATION FAULT, and the ladder whose step it was is SUSPENDED with STARVED where the channel
then is STARVED and FAULT otherwise (log 36). -/
def Obligations.GrantedPrimeHasItsInk : Prop :=
  ∀ (s : State) (r : Request) (c : Channel), s.service.holder = .free → s.pass = none → s.stop.set = false →
    s.service.pending = [r] → s.service.passAsked = false → r.op = .prime c →
    (∀ k, s.tables.kindOf c = some k →
      ((s.accounts[c].known = true ∧ s.tables.channel[c].floor + k.primeVolume ≤ s.accounts[c].level) →
        (s.service.docked = false → Runs .arbiterGrant s { s with
          service := { s.service with
            pending := [], uncapInFlight := s.service.capped
            holder := .op ⟨r, s.now, s.now + s.tables.service.primeTimeout, false, none, s.tables.spitCounts, false⟩ }
          out := { s.out with carriage := .dock } }) ∧
        (s.service.docked = true → ∃ t, exec .arbiterGrant s = .next t ∧
          Follows { s with
            service := { s.service with
              pending := [], uncapInFlight := false, capped := false, stamps := t.service.stamps
              holder := .op ⟨r, s.now, s.now + s.tables.service.primeTimeout, true, some k.primeVolume, s.tables.spitCounts, false⟩ }
            out := { s.out with station := .run (.prime c) } } t ∧
          ∀ (d : Channel) (g : Fin 24), t.service.stamps[d][g] =
            if s.service.capped then max s.now s.service.stamps[d][g] else s.service.stamps[d][g])) ∧
      ((s.accounts[c].known = false ∨ s.accounts[c].level < s.tables.channel[c].floor + k.primeVolume) →
        s.supply[c].faultMark = false → s.canSupply c = true → s.supply[c].refill = none → s.supply[c].need = none →
        s.service.docked = false → k.primeVolume + s.tables.channel[c].floor ≤ s.tables.channel[c].markLevel →
        ∃ t o, exec .arbiterGrant s = .next t ∧ t.service.holder = .op o ∧
          o.req.op = (if s.accounts[c].known then .urgentRefill c else .fillToMark c) ∧ ∃ q ∈ t.service.pending, q.covers r)) ∧
    (s.SupplyInv → s.supply[c].refill = none →
      let l := s.service.ladders[c]
      let inked := ∃ k, s.tables.kindOf c = some k ∧ s.accounts[c].known = true ∧
        s.tables.channel[c].floor + k.primeVolume ≤ s.accounts[c].level
      let starved := s.tables.kindOf c ≠ none ∧ ¬ inked ∧ s.supply[c].faultMark = false ∧ s.canSupply c = false
      let withdrawn (t : State) (cause : SuspendCause) : Prop :=
        (∀ q ∈ t.service.pending, q.op ≠ .prime c) ∧ s.tells t (.stationFailed (.prime c) .noInk none) ∧
        t.service.ladders[c] = if r.origins.ladder = true ∧ l.phase = some .operation ∧ (l.state = .primeCheck ∨ l.state = .prime2Check)
          then { l with state := .suspended, phase := none, suspStep := some l.state, suspPhase := some .operation, cause := some cause }
          else l
      (∀ cause,
        ((s.tables.kindOf c = none ∧
            cause = if s.supply[c].faultMark = false ∧ s.supply[c].need ≠ none then SuspendCause.starved else .fault) ∨
          (s.tables.kindOf c ≠ none ∧ ¬ inked ∧ s.supply[c].faultMark = true ∧ cause = .fault) ∨ (starved ∧ cause = .starved)) →
        ∃ t, exec .arbiterGrant s = .next t ∧ withdrawn t cause ∧
          Follows { s with service := { s.service with pending := [], ladders := t.service.ladders } } t ∧
          t.lane.conditions.stationFault = s.lane.conditions.stationFault ∧
          (starved → ∃ n, t.supply[c].need = some n ∧ n.origins.prime = true ∧ (s.accounts[c].known = false → n.kind = .fill))) ∧
      (∀ k, s.tables.kindOf c = some k → ¬ inked → s.supply[c].faultMark = false → s.canSupply c = true → s.supply[c].need = none →
        s.tables.channel[c].markLevel < s.tables.channel[c].floor + k.primeVolume →
        ∃ t, exec .arbiterGrant s = .next t ∧ withdrawn t .fault))

/-- ARBITER_GRANT of the print pass: with the conditions of the head SWATH entry met it is released: the carriage is UNDOCKED in that step
(log 38) and commanded over the traverse, the heads uncap where CAPPED with every group stamped, each estimate is reserved with its
release record, which for a channel bound to no kind holds zeros (log 51), the slot is PRINTING, the entry ACTIVE, the pass context fixed
whole, its bursts of 32 times the spit count of the bound kind, and BAND RISK queued after a long gap. With a reason found, which the
rules of the head's conditions give, the grant is returned unused. -/
def Obligations.GrantedPassIsReleased : Prop :=
  ∀ (s : State) (i : SlotIx) (rep : Bool) (rest : List Entry), s.service.holder = .free → s.pass = none → s.stop.set = false →
    s.service.pending = [] → s.service.passAsked = true → s.queue = ⟨.swath i rep, .waiting⟩ :: rest →
    HeldBy s s.slots[i] (s.swathHolds s.slots[i]) ∧
    (s.swathHolds s.slots[i] ≠ {} → Runs .arbiterGrant s s) ∧
    (s.swathHolds s.slots[i] = {} → ∃ t p, exec .arbiterGrant s = .next t ∧
      Follows { s with
        service := { s.service with
          holder := .pass, docked := false, capped := false, stamps := t.service.stamps, uncapInFlight := t.service.uncapInFlight }
        accounts := t.accounts, slots := setAt s.slots i { s.slots[i] with state := .printing }
        queue := ⟨.swath i rep, .active⟩ :: rest, pass := some p, driveEnable := true
        scan := s.scan.trigger, out := { s.out with carriage := .pass s.service.capped s.slots[i].dir p.colA p.colB } } t ∧
      (∀ (c : Channel) (g : Fin 24), t.service.stamps[c][g] =
        if s.service.capped then max s.now s.service.stamps[c][g] else s.service.stamps[c][g]) ∧
      (∀ c : Channel, let temp := max 5 (min 70 s.scan.results[tempInput (headOf c)].value)
        let e := (swathEstimate s s.slots[i] c).getD 0
        t.accounts[c] = { s.accounts[c] with
          reserved := s.accounts[c].reserved + e
          release := some (match s.tables.kindOf c with
            | some k => ⟨e, temp, k.vSmall, k.vMedium, k.vLarge, k.coeff⟩
            | none => ⟨e, temp, 0, 0, 0, 0⟩) }) ∧
      (p.colA, p.colB) = traverse s.slots[i] p.offsets ∧ p.slot = i ∧ p.dir = s.slots[i].dir ∧ p.first = s.slots[i].first ∧
      p.last = s.slots[i].last ∧ p.gen = s.slots[i].gen ∧
      (∀ c : Channel, p.offsets[c] = (match s.slots[i].dir with
        | .fwd => s.tables.channel[c].columnOffset
        | .rev => s.tables.channel[c].columnOffset + s.tables.reverseShift[headOf c])) ∧
      (∀ (c : Channel) (g : Fin 24), p.spit[c][g] = true ↔ s.service.capped = false ∧ s.slots[i].groups[c][g] = true ∧
        ∃ k, s.tables.kindOf c = some k ∧ s.decapLimit k < s.now - s.service.stamps[c][g]) ∧
      (∀ c : Channel, p.burst[c] = 32 * (match s.tables.kindOf c with
        | some k => k.spitCount
        | none => 0)) ∧
      (∀ h : Head, p.temps[h] = max 5 (min 70 s.scan.results[tempInput h].value)) ∧
      (∀ (c : Channel) (g : Fin 24), p.fired[c][g] = false ∧ p.output[c][g] = ⟨0, 0, 0⟩) ∧
      p.spitDone = false ∧ p.lastCol = none ∧ p.deadline = some (s.now + 2000) ∧
      (∀ w k, s.wetEdge = some w → s.feed.profile = some k → s.tables.profile[k].wetEdge < s.now - w →
        s.tells t (.bandRisk i (s.now - w) s.tables.profile[k].wetEdge)))

/-! ## The pass (chapter 2) -/

/-- SPITTOON_STROBE: the first strobe of a pass fires the planned bursts as large drops of their groups: each nozzle of a planned group is
sent to the head drivers once, to fire the spit count's drops; nothing with the head drive enable low. The first column is timed to 2,000
ms; any other spittoon strobe is ignored. -/
def Obligations.SpittoonStrobeFiresThePlan : Prop :=
  ∀ s : State,
    ((s.pass = none ∨ ∃ p, s.pass = some p ∧ p.spitDone = true) → exec .spittoonStrobe s = .next s) ∧
    ∀ p, s.pass = some p → p.spitDone = false → ∃ t p', exec .spittoonStrobe s = .next t ∧
      Follows { s with pass := some p', out := { s.out with firing := t.out.firing, shots := t.out.shots } } t ∧
      p' = { p with spitDone := true, deadline := some (s.now + 2000), output := p'.output, fired := p'.fired } ∧
      (∀ c : Channel,
        (∀ n z, (n, z) ∈ t.out.firing[c] ↔ s.driveEnable = true ∧ z = .large ∧ ∃ g : Fin 24, n / 32 = g.val ∧ p.spit[c][g] = true) ∧
        (t.out.firing[c].map (·.1)).Nodup ∧ t.out.shots[c] = p.burst[c] / 32) ∧
      ∀ (c : Channel) (g : Fin 24),
        p'.fired[c][g] = (p.fired[c][g] || (s.driveEnable && p.spit[c][g])) ∧
        p'.output[c][g] = if s.driveEnable = true ∧ p.spit[c][g] = true
          then { p.output[c][g] with large := p.output[c][g].large + p.burst[c] } else p.output[c][g]

/-- COLUMN_STROBE: accepted for the next carriage column of the traverse and ignored otherwise. Each channel fires at its store column x −
e(c) the codes that the lists of the bound generation send to it, the larger where two meet, and nothing outside the span or with the head
drive enable low, one drop a nozzle. The output counts take one drop of the fired size for each nozzle, the fired-group set its group, and
the next strobe is timed to 200 ms, but for the last column. -/
def Obligations.ColumnStrobeFiresMergedCodes : Prop :=
  ∀ (s : State) (x : Nat),
    ((∀ p, s.pass = some p → ¬ dueColumn p x) → exec (.columnStrobe x) s = .next s) ∧
    ∀ p, s.pass = some p → dueColumn p x → Memory.wf s.store → ∃ t p', exec (.columnStrobe x) s = .next t ∧
      Follows { s with pass := some p', out := { s.out with firing := t.out.firing, shots := Vector.replicate 6 1 } } t ∧
      p' = { p with lastCol := some x, deadline := p'.deadline, output := p'.output, fired := p'.fired } ∧
      p'.deadline = (if (p.dir = .fwd ∧ p.colB ≤ x) ∨ (p.dir = .rev ∧ x ≤ p.colA) then none else some (s.now + 200)) ∧
      ∀ c : Channel,
        (∀ n z, (n, z) ∈ t.out.firing[c] ↔ s.driveEnable = true ∧ (p.first : Int) ≤ x - p.offsets[c] ∧ x - p.offsets[c] ≤ p.last ∧
          strikes s p c n ((x : Int) - p.offsets[c]).toNat z ∧
          ∀ z', strikes s p c n ((x : Int) - p.offsets[c]).toNat z' → z.larger z' = z) ∧
        (t.out.firing[c].map (·.1)).Nodup ∧
        ∀ g : Fin 24,
          p'.fired[c][g] = (p.fired[c][g] || t.out.firing[c].any fun y => decide (y.1 / 32 = g.val)) ∧
          p'.output[c][g] = ⟨p.output[c][g].small + t.out.firing[c].countP (fun y => y.1 / 32 = g.val ∧ y.2 = .small),
            p.output[c][g].medium + t.out.firing[c].countP (fun y => y.1 / 32 = g.val ∧ y.2 = .medium),
            p.output[c][g].large + t.out.firing[c].countP (fun y => y.1 / 32 = g.val ∧ y.2 = .large)⟩

/-- PASS_COMPLETION, accepted only after the strobe of the last column, ends the pass as complete; STROBE_TIMEOUT, when a strobe's time
has run out, sets the stop latch with cause STROBE TIMEOUT and aborts the pass. Either makes an automatic WIPE pending for a head whose
drops since wipe then reach the wipe interval, unless one is asked or STATION FAULT stands. The carriage is not docked by either. Without
a pass, before the last strobe, or before a strobe's time, they do nothing (the model's choice, logs 2 and 4). -/
def Obligations.PassEndsByCompletionOrTimeout : Prop :=
  ∀ s : State,
    ((∀ p, s.pass = some p → p.crossed = false) → exec .passCompletion s = .next s) ∧
    (∀ p, s.pass = some p → p.crossed = true → ∃ t, exec .passCompletion s = .next t ∧ PassEnded s t p true ∧
      t.queue.map Entry.bare = s.queue.tail.map Entry.bare ∧ (∀ j, j ≠ p.slot → t.slots[j] = s.slots[j]) ∧ t.stop = s.stop ∧
      t.service.docked = s.service.docked ∧ t.feed.motion = s.feed.motion ∧ t.store = s.store ∧ t.tables = s.tables ∧
      t.out = s.out ∧ ∀ r ∈ s.service.pending, r.op ≠ .cap → ∃ q ∈ t.service.pending, q.covers r) ∧
    ((∀ p d, s.pass = some p → p.deadline = some d → s.now < d) → exec .strobeTimeout s = .next s) ∧
    ∀ p d, s.pass = some p → p.deadline = some d → d ≤ s.now → s.stop.set = false → ∃ t, exec .strobeTimeout s = .next t ∧
      PassEnded s t p false ∧ t.stop = ⟨true, some .strobeTimeout⟩ ∧
      s.tells t (.forcedStop .strobeTimeout s.now (some p.slot)) ∧
      t.queue.map Entry.bare = s.queue.tail.map Entry.bare ∧ (∀ j, j ≠ p.slot → t.slots[j] = s.slots[j]) ∧
      t.out.carriage = .stop ∧ t.store = s.store ∧ t.tables = s.tables ∧ t.lane.rx = s.lane.rx

/-! ## The station (chapters 4 and 6) -/

/-- DOCK_REPORTED, of the dock last commanded: the carriage is DOCKED; the sequence of a WIPE, PRIME, CHECK or CAP runs, uncapping the
heads where a WIPE, PRIME or CHECK finds them CAPPED, which stamps every group, and beginning a PRIME's purge (log 19); a refill's first
stroke is checked and begun, or the refill ends with CARTRIDGE FAULT, CARTRIDGE EMPTY or REFILL FAULT (logs 17 and 30). Which dock a
report belongs to is the model's choice (log 42): one that comes after its operation has ended makes the carriage DOCKED alone, and any
other report is ignored. -/
def Obligations.DockRunsTheSequence : Prop :=
  ∀ s : State,
    ((s.service.docked = true ∨ s.out.carriage ≠ .dock) → exec .dockReported s = .next s) ∧
    (s.service.docked = false → s.out.carriage = .dock →
      ((∀ o, s.service.holder = .op o → o.running = true) →
        Runs .dockReported s { s with service := { s.service with docked := true } }) ∧
      ∀ o, s.service.holder = .op o → o.running = false →
        (o.req.op.refillChannel = none → ∃ t, exec .dockReported s = .next t ∧
          let uncap : Bool := s.service.capped && decide (o.req.op ≠ .cap)
          Follows { s with
            service := { s.service with
              docked := true, capped := s.service.capped && !uncap, stamps := t.service.stamps
              uncapInFlight := s.service.uncapInFlight && !uncap
              holder := .op { o with
                running := true
                spit := s.tables.spitCounts
                purge := match o.req.op with
                  | .prime c => (s.tables.kindOf c).map (·.primeVolume)
                  | _ => none } }
            out := { s.out with station := .run o.req.op } } t ∧
          ∀ (c : Channel) (g : Fin 24), t.service.stamps[c][g] =
            if uncap then max s.now s.service.stamps[c][g] else s.service.stamps[c][g]) ∧
        ∀ c k, o.req.op.refillChannel = some c → s.supply[c].refill = some k →
          let op : Holder := .op { o with running := true, purge := none, spit := s.tables.spitCounts }
          (s.strokeFits c k → ∃ t, exec .dockReported s = .next t ∧
            Follows { s with
              service := { s.service with docked := true, holder := op }
              supply := t.supply, out := { s.out with station := .stroke c } } t ∧
            t.supply[c].refill = some { k with inStroke := true, markSeen := false } ∧
            ∀ d : Channel, d ≠ c → t.supply[d].refill = s.supply[d].refill) ∧
          ∃ t, exec .dockReported s = .next t ∧
            Follows { s with
              supply := t.supply, carts := t.carts, service := t.service, out := { s.out with station := t.out.station } } t ∧
            t.service.docked = true ∧ t.service.stamps = s.service.stamps ∧ t.service.capped = s.service.capped ∧
            (∀ q ∈ s.service.pending, q.op.refillChannel ≠ some c → q.op ≠ .cap → ∃ p ∈ t.service.pending, p.covers q) ∧
            (∀ d : Channel, d ≠ c → t.supply[d].refill = s.supply[d].refill ∧
              { t.carts[d] with link := s.carts[d].link } = s.carts[d]) ∧
            StrokeTried s t c k s.accounts[c].level (s.carts[c].state = .empty ∨ s.carts[c].remaining < k.strokeVolume) op)

/-- DOCK_FAILED before the sequence runs, STATION_DRIVE_FAULT and STATION_OP_TIMEOUT end the operation in flight: the carriage is free and
UNDOCKED, the station stopped, a CAP leaves the heads UNCAPPED, STATION FAILED is queued with its reason and time, STATION FAULT stands,
and a ladder whose step it was is SUSPENDED with cause FAULT (log 22). A refill ends with REFILL FAULT and the fault mark, its level kept
and its tag deduction formed. Other channels' refills, fault marks and cartridges stand, as do the ladders that did not wait on the
operation and the pending requests, but for a CAP that the gate withdraws, the steps of a ladder that fails, and what a refill fault
clears. A purge begun is charged whole, and of its bursts what the interrupted operation fired (a free value, log 18). With nothing in
flight, or before the timeout, nothing happens (the model's choice, logs 2 and 4). -/
def Obligations.FailedOperationFreesTheStation : Prop :=
  ∀ s : State,
    (s.service.inFlight = none → ∀ c ∈ [Instr.dockFailed, .stationDriveFault, .stationOpTimeout], exec c s = .next s) ∧
    ∀ o, s.service.holder = .op o →
      (o.running = true → exec .dockFailed s = .next s) ∧ (s.now < o.timeoutAt → exec .stationOpTimeout s = .next s) ∧
      ∀ c timeout, ((c = .dockFailed ∧ o.running = false ∧ timeout = false) ∨ (c = .stationDriveFault ∧ timeout = false) ∨
        (c = .stationOpTimeout ∧ o.timeoutAt ≤ s.now ∧ timeout = true)) → ∃ t, exec c s = .next t ∧
          Follows { s with
            service := t.service, supply := t.supply, carts := t.carts, accounts := t.accounts, freeCount := t.freeCount
            out := { s.out with station := t.out.station } } t ∧
          (o.req.op.refillChannel = none → t.out.station = .stop) ∧
          t.service.holder = .free ∧ t.service.docked = false ∧ t.service.idleSince = s.now ∧
          t.service.capped = (s.service.capped && decide (o.req.op ≠ .cap)) ∧
          t.service.drops = s.service.drops ∧ t.lane.conditions.stationFault = true ∧
          s.tells t (.stationFailed o.req.op (if timeout then .timeout else .fault) (some (s.now - o.grantedAt))) ∧
          InterruptedCharges s t o ∧ ((o.running = false ∨ o.req.op.uncaps = false) → t.freeCount = s.freeCount) ∧
          (∀ d k, o.req.op.refillChannel = some d → s.supply[d].refill = some k →
            t.supply[d].refill = none ∧ t.supply[d].faultMark = true ∧ t.supply[d].need = none ∧
            DeductionFormed s t d k ∧
            s.tells t (.refillFault d k.kind (if timeout then .timeout else .station) k.strokes k.drawn s.accounts[d].level)) ∧
          (∀ d : Channel, o.req.op.refillChannel ≠ some d →
            t.supply[d].refill = s.supply[d].refill ∧ t.supply[d].faultMark = s.supply[d].faultMark ∧
              { t.carts[d] with link := s.carts[d].link } = s.carts[d]) ∧
          (∀ q ∈ s.service.pending, q.op ≠ .cap →
            (o.req.op.refillChannel = none ∨ q.op.refillChannel ≠ o.req.op.refillChannel ∨ q.origins.formatter = true) →
            (q.origins.ladder = false ∨ o.req.origins.ladder = false ∨
              ∀ d : Channel, s.service.ladders[d].waitsOn d o.req.op = true → q.op.ofLadder d = false) →
            ∃ r ∈ t.service.pending, r.covers q) ∧
          (∀ d : Channel, (o.req.origins.ladder = false ∨ s.service.ladders[d].waitsOn d o.req.op = false) → LadderStands s t d) ∧
          ∀ d : Channel, o.req.origins.ladder = true → s.service.ladders[d].state.inStep = true →
            s.service.ladders[d].waitsOn d o.req.op = true →
            t.service.ladders[d].state = .suspended ∧ t.service.ladders[d].cause = some .fault ∧
              t.service.ladders[d].suspStep = some s.service.ladders[d].state ∧
              t.service.ladders[d].suspPhase = s.service.ladders[d].phase

/-- WIPE_COMPLETION, PRIME_COMPLETION and CAP_COMPLETION of a running sequence: a wipe or a prime resets the head's drops since wipe,
charges 768 × spit count large drops to each of its channels, the spit count being the one the spit fires (log 60), a prime its purge
before them, stamps their groups, and moves a ladder waiting on it to its CHECK, which is pending; a prime withdraws the pending WIPE of
its head; a CAP leaves the heads CAPPED. Every other ladder and pending request stands, a CAP that the gate may withdraw apart. Each frees
the carriage, and is ignored without its own operation running (the model's choice, log 2). -/
def Obligations.CompletedOperationsTakeEffect : Prop :=
  ∀ s : State,
    ((∀ o, s.service.holder = .op o → o.running = false) →
      ∀ c ∈ [Instr.wipeCompletion, .primeCompletion, .capCompletion], exec c s = .next s) ∧
    ∀ o, s.service.holder = .op o → o.running = true →
      ((∀ h, o.req.op ≠ .wipe h) → exec .wipeCompletion s = .next s) ∧
      ((∀ c, o.req.op ≠ .prime c) → exec .primeCompletion s = .next s) ∧
      (o.req.op ≠ .cap → exec .capCompletion s = .next s) ∧
      (o.req.op = .cap → ∃ t, exec .capCompletion s = .next t ∧ OperationEnded s t ∧ t.service.capped = true ∧ t.accounts = s.accounts ∧
        t.service.stamps = s.service.stamps ∧ t.service.drops = s.service.drops ∧ t.maps = s.maps ∧ (∀ d, LadderStands s t d) ∧
        ∀ q ∈ s.service.pending, q.op ≠ .cap → ∃ r ∈ t.service.pending, r.covers q) ∧
      ∀ h c, ((c = .wipeCompletion ∧ o.req.op = .wipe h) ∨ (c = .primeCompletion ∧ ∃ d, o.req.op = .prime d ∧ headOf d = h)) →
        s.CarryInv → ∃ t, exec c s = .next t ∧ OperationEnded s t ∧ t.maps = s.maps ∧ t.service.capped = s.service.capped ∧
          (∀ g : Head, t.service.drops[g] = if g = h then 0 else s.service.drops[g]) ∧
          (∀ (d : Channel) (g : Fin 24),
            (spitsFor o h d → t.service.stamps[d][g] = max s.now s.service.stamps[d][g]) ∧
            (¬ spitsFor o h d → t.service.stamps[d][g] = s.service.stamps[d][g])) ∧
          (∀ d : Channel,
            t.accounts[d] = if headOf d = h then
              (s.purgedBy o).servicedAccount d ⟨0, 0, 768 * o.spit[d]⟩ else s.accounts[d]) ∧
          (∀ d : Channel, s.service.ladders[d].phase = some .operation → headOf d = h →
            (s.service.ladders[d].state = .wipeCheck ∨
              (o.req.op = .prime d ∧ (s.service.ladders[d].state = .primeCheck ∨ s.service.ladders[d].state = .prime2Check))) →
            t.service.ladders[d] = { s.service.ladders[d] with phase := some .check } ∧
              ∃ q ∈ t.service.pending, q.covers ⟨.check (channelSingle d), none, byLadder⟩) ∧
          (∀ d : Channel, ¬ (s.service.ladders[d].phase = some .operation ∧ headOf d = h ∧
            (s.service.ladders[d].state = .wipeCheck ∨
              (o.req.op = .prime d ∧ (s.service.ladders[d].state = .primeCheck ∨ s.service.ladders[d].state = .prime2Check)))) →
            LadderStands s t d) ∧
          (∀ q ∈ s.service.pending, q.op ≠ .cap → (c = .primeCompletion → q.op ≠ .wipe h) →
            ∃ r ∈ t.service.pending, r.covers q) ∧
          (c = .primeCompletion → s.SupplyInv → ∀ q ∈ t.service.pending, q.op ≠ .wipe h)

/-- CHECK_COMPLETION: each checked channel's Next list holds the lowest 48 of the nozzles found dead, its overflow flag says whether there
were more, and other lists keep their dead nozzles; auto-commit sets the commit pending flag where something changed; each checked channel
is stamped and charged 6,144 medium drops; CHECK RESULT is queued, its commit field set only where this check set a clear flag (log 39);
and each checked channel's ladder takes the count found: it enters WIPE-CHECK, a check found in flight at RESET LADDER included (log 57),
lowers its baseline, returns to NORMAL, or goes on to the next state, as Table 6.5.2 says; a DEGRADED or SUSPENDED one keeps the count
alone, one SUSPENDED with cause STARVED where the supply states are those of Table 4.1.2, as every step keeps them. The ladders of
channels not checked stand, and so do the pending requests that no ladder of a checked channel asks for, a CAP apart. -/
def Obligations.CheckResultReachesMapAndLadder : Prop :=
  ∀ (s : State) (o : OpInFlight) (set : ChannelSet) (dead : List (Channel × Nat)), s.service.holder = .op o → o.running = true →
    o.req.op = .check set →
    let found (c : Channel) : List Nat := (List.range 768).filter fun n => (c, n) ∈ dead
    let listed (x : State) (c : Channel) : List Nat := x.maps.next.lists[c].map (·.dead)
    ∃ t, exec (.checkCompletion dead) s = .next t ∧ OperationEnded s t ∧ t.service.capped = s.service.capped ∧
      t.service.drops = s.service.drops ∧ t.maps = { s.maps with next := t.maps.next, commitPending := t.maps.commitPending } ∧
      (∀ c : Channel, listed t c = (if set[c] then (found c).take 48 else listed s c) ∧
        t.maps.next.overflow[c] = if set[c] then decide (48 < (found c).length) else s.maps.next.overflow[c]) ∧
      (s.MapInv → t.MapInv) ∧
      (t.maps.commitPending = true ↔ s.maps.commitPending = true ∨ (s.tables.service.autoCommit = true ∧
        ∃ c : Channel, listed t c ≠ listed s c ∨ t.maps.next.overflow[c] ≠ s.maps.next.overflow[c])) ∧
      (∀ (c : Channel) (g : Fin 24),
        t.service.stamps[c][g] = if set[c] then max s.now s.service.stamps[c][g] else s.service.stamps[c][g]) ∧
      (∀ c : Channel, t.accounts[c] = if set[c] then s.servicedAccount c ⟨0, 6144, 0⟩ else s.accounts[c]) ∧
      s.tells t (.checkResult set (Vector.ofFn fun c : Fin 6 => if set[c] then
          some ⟨(found c).length, min 48 (found c).length, decide (48 < (found c).length)⟩ else none)
        (t.maps.commitPending && !s.maps.commitPending)) ∧
      (∀ c : Channel, set[c] = false → LadderStands s t c) ∧
      (∀ q ∈ s.service.pending, q.op ≠ .cap → (q.origins.ladder = false ∨ ∀ c : Channel, set[c] = true → q.op.ofLadder c = false) →
        ∃ r ∈ t.service.pending, r.covers q) ∧
      ∀ c : Channel, set[c] = true →
        let l := s.service.ladders[c]
        let l' := t.service.ladders[c]
        let n := (found c).length
        (l.state = .normal → s.tables.service.autoRecovery = true → (l.baseline + s.tables.service.threshold ≤ n ∨ 48 < n) →
          l'.state = .wipeCheck ∧ l'.phase = some .operation ∧ l'.baseline = l.baseline ∧ l'.last = n ∧
            ∃ q ∈ t.service.pending, q.covers ⟨.wipe (headOf c), none, byLadder⟩) ∧
        (l.state = .normal → ¬ (s.tables.service.autoRecovery = true ∧ (l.baseline + s.tables.service.threshold ≤ n ∨ 48 < n)) →
          l' = { l with baseline := min l.baseline n, last := n }) ∧
        (l.state = .degraded → l' = { l with last := n }) ∧
        (l.state = .suspended → (l.cause ≠ some .starved ∨ s.SupplyInv) → l' = { l with last := n }) ∧
        (l.state.inStep = true → l.phase = some .operation → l' = { l with last := n }) ∧
        (l.state.inStep = true → l.phase = some .check → n ≤ 48 → n < l.baseline + s.tables.service.threshold →
          l' = { l with state := .normal, phase := none, baseline := n, last := n }) ∧
        (l.phase = some .check → (48 < n ∨ l.baseline + s.tables.service.threshold ≤ n) →
          (∀ st, (l.state = .wipeCheck ∧ st = .primeCheck) ∨ (l.state = .primeCheck ∧ st = .prime2Check) →
            l'.state = st ∧ l'.phase = some .operation ∧ l'.baseline = l.baseline ∧ l'.last = n ∧
              ∃ q ∈ t.service.pending, q.covers ⟨.prime c, none, byLadder⟩) ∧
          (l.state = .prime2Check → l'.state = .degraded ∧ l'.phase = none ∧ l'.baseline = l.baseline ∧ l'.last = n))

/-- REFILL_STROKE_COMPLETE of the stroke in progress: level and cartridge take the stroke volume of the grant (log 50), the remaining not
below 0 (log 55). With the mark seen the level is the mark level and known, and REFILL DONE and MARK DRIFT are queued; with the target
reached the refill ends too. Otherwise the next stroke begins where its checks pass; a cartridge that is not identified ends the refill
with CARTRIDGE FAULT (log 30), one without a stroke's volume becomes EMPTY and ends it with CARTRIDGE EMPTY, and a FILL TO MARK at its
stroke or level limit, or with AIN9 stale, ends with REFILL FAULT, the fault mark and STATION FAULT. Every end gives the carriage back and
forms the tag deduction. A completion with no stroke in progress does nothing (the model's choice, log 2). -/
def Obligations.CompletedStrokeCreditsTheLevel : Prop :=
  ∀ (s : State) (o : OpInFlight) (c : Channel) (k : Refill), s.service.holder = .op o → o.running = true →
    o.req.op.refillChannel = some c → s.supply[c].refill = some k →
    let v := k.strokeVolume
    let level := s.accounts[c].level + v
    let k' : Refill := { k with strokes := k.strokes + 1, drawn := k.drawn + v, inStroke := false }
    let rest := s.carts[c].remaining - v
    (k.inStroke = false → exec .refillStrokeComplete s = .next s) ∧
    (k.inStroke = true → ∃ t, exec .refillStrokeComplete s = .next t ∧
      Follows { s with
        accounts := t.accounts, supply := t.supply, carts := t.carts, service := t.service
        out := { s.out with station := t.out.station } } t ∧
      t.carts[c].remaining = rest ∧
      (∀ d : Channel, d ≠ c → t.accounts[d] = s.accounts[d] ∧ t.supply[d].refill = s.supply[d].refill ∧
        { t.carts[d] with link := s.carts[d].link } = s.carts[d]) ∧
      (k.markSeen = true →
        t.accounts[c] = { s.accounts[c] with level := k.markLevel, known := true } ∧ RefillEnded s t c k' .mark ∧
        t.supply[c].faultMark = (s.supply[c].faultMark && decide (k.kind ≠ .fill)) ∧
        s.tells t (.markDrift c level k.markLevel ((level : Int) - k.markLevel) s.accounts[c].known)) ∧
      (k.markSeen = false →
        t.accounts[c] = { s.accounts[c] with level := level } ∧
        (∀ x, k.target = some x → x ≤ level → RefillEnded s t c k' .target) ∧
        ((∀ x, k.target = some x → level < x) →
          StrokeTried s t c k' level (rest < v ∨ rest < s.tables.channel[c].strokeVolume) s.service.holder)))

/-! ## Cartridges (chapter 4) -/

/-- TAG_BACKWARD_FRAME and TAG_TIMEOUT. A late answer (log 28), a missing, faulty, ill-ranged or crossed one (log 29), and a READ whose
remaining exceeds its capacity make the cartridge TAG FAULT with its condition, a reject reason absent (log 54). A READ of a tag with no
unsynced record identifies the cartridge; one that matches an unsynced record sends its DEDUCT, whose answer lowers the record: more to
deduct sends the next DEDUCT, otherwise the record is absent and the cartridge is identified with the remaining of the answer. An
identified cartridge that can supply turns the ink need of a STARVED channel into a request and resumes its ladder. The answer of a
refill's DEDUCT lowers what is owed. Without a transaction, or before the 20 ms, nothing happens (the model's choice, logs 2 and 4). -/
def Obligations.TagAnswersEndTheTransaction : Prop :=
  ∀ (s : State) (c : Channel) (answer : TagAnswer),
    (s.carts[c].link = none → exec (.tagBackwardFrame c answer) s = .next s ∧ exec (.tagTimeout c) s = .next s) ∧
    ∀ txn d, s.carts[c].link = some (txn, d) →
      (s.now < d → exec (.tagTimeout c) s = .next s) ∧
      (∀ i, ((i = .tagTimeout c ∧ d ≤ s.now) ∨ (i = .tagBackwardFrame c answer ∧ (d < s.now ∨ answer = .violation ∨
          answer = .wrongLength ∨ answer.wf = false ∨ (txn = .read ∧ ∃ n, answer = .deductData n) ∨
          (txn ≠ .read ∧ ∃ a b e f, answer = .readData a b e f) ∨
          (txn = .read ∧ ∃ a b e f, answer = .readData a b e f ∧ b < e)))) → ∃ t, exec i s = .next t ∧
        Follows { s with carts := t.carts, supply := t.supply, service := { s.service with pending := t.service.pending } } t ∧
        t.carts[c].state = .tagFault ∧ t.carts[c].link = none ∧ t.carts[c].tagCarry = s.carts[c].tagCarry ∧
        t.carts[c].serial = s.carts[c].serial ∧ t.carts[c].reject = none ∧
        t.carts[c].kind = s.carts[c].kind ∧ t.carts[c].capacity = s.carts[c].capacity ∧ t.carts[c].remaining = s.carts[c].remaining ∧
        (∀ e : Channel, e ≠ c → { t.carts[e] with link := s.carts[e].link } = s.carts[e] ∧
          t.supply[e].refill = s.supply[e].refill ∧ t.supply[e].faultMark = s.supply[e].faultMark) ∧ t.lane.conditions.tagFault = true ∧
        (∀ ser, s.carts[c].serial = some ser → t.carts[c].owed = 0 ∧
          (0 < s.carts[c].owed → t.carts[c].unsynced = some ⟨ser, s.carts[c].owed + (match s.carts[c].unsynced with
            | some u => if u.serial = ser then u.amount else 0
            | none => 0)⟩))) ∧
      (∀ code capacity remaining serial, txn = .read → answer = .readData code capacity remaining serial → answer.wf = true →
        s.now ≤ d → remaining ≤ capacity →
        (∀ u, s.carts[c].unsynced = some u → u.serial = serial → ∃ t, exec (.tagBackwardFrame c answer) s = .next t ∧
          Follows { s with carts := setAt s.carts c { s.carts[c] with
            link := some (.insertDeduct (min u.amount 65535) ⟨code, capacity, remaining, serial⟩, s.now + 20) } } t) ∧
        ((∀ u, s.carts[c].unsynced = some u → u.serial ≠ serial) →
          ∃ t, exec (.tagBackwardFrame c answer) s = .next t ∧ Identified s t c ⟨code, capacity, remaining, serial⟩)) ∧
      (∀ amount info remaining, txn = .insertDeduct amount info → answer = .deductData remaining → answer.wf = true → s.now ≤ d →
        (∀ u, s.carts[c].unsynced = some u → amount < u.amount → ∃ t, exec (.tagBackwardFrame c answer) s = .next t ∧
          Follows { s with carts := setAt s.carts c { s.carts[c] with
            unsynced := some ⟨u.serial, u.amount - amount⟩
            link := some (.insertDeduct (min (u.amount - amount) 65535) { info with remaining := remaining }, s.now + 20) } } t) ∧
        ((∀ u, s.carts[c].unsynced = some u → u.amount ≤ amount) →
          ∃ t, exec (.tagBackwardFrame c answer) s = .next t ∧ Identified s t c { info with remaining := remaining })) ∧
      ∀ amount remaining, txn = .deduct amount → answer = .deductData remaining → answer.wf = true → s.now ≤ d →
        ∃ t, exec (.tagBackwardFrame c answer) s = .next t ∧
          Follows { s with carts := setAt s.carts c { s.carts[c] with owed := s.carts[c].owed - amount, link := none } } t

/-! ## Timers -/

/-- CAP_DELAY_EXPIRY, LAMP_BLINK_TOGGLE, PERIODIC_TIMER_EXPIRY and DRY_TIMER_EXPIRY: the cap test places a CAP where the heads are
UNCAPPED, the carriage is free, STATION FAULT is clear and the delay has passed; a blinking lamp toggles and toggles again half a period
on; the periodic timer triggers a sweep where none is in flight and starts again; the dry timer's expiry changes nothing but what the gate
then evaluates: a WAITING SWATH head entry takes the hold reasons of its conditions, sends the refills its channels call for, also while
one is in flight (log 49), and raises CAPACITY once, for the lowest channel (log 62); a WAITING ADVANCE or CUT head entry takes the hold
reasons of its own conditions whole, and an advance held in TAIL OUT queues MEDIA SHORT, form BLOCKED, once. A floor above the mark level
gives CAPACITY (log 15). Before its time none of the last three has an effect (log 4). -/
def Obligations.TimersActAtTheirTime : Prop :=
  ∀ s : State,
    (Runs .capDelayExpiry s s ∧
      (s.service.capped = false → s.service.holder = .free → s.lane.conditions.stationFault = false →
        max s.service.idleSince (s.service.capWithdrawnAt.getD 0) + s.tables.service.capDelay ≤ s.now → s.queue = [] →
        ∃ t, exec .capDelayExpiry s = .next t ∧ ∃ q ∈ t.service.pending, q.covers ⟨.cap, none, byWear⟩)) ∧
    (∀ c : Channel,
      ((s.lamps[c].toggleAt = none ∨ ∃ d, s.lamps[c].toggleAt = some d ∧ s.now < d) → exec (.lampBlinkToggle c) s = .next s) ∧
      ∀ d p, s.lamps[c].toggleAt = some d → d ≤ s.now → s.lamps[c].pattern.half = some p → s.LampInv → s.SupplyInv →
        ∃ t, exec (.lampBlinkToggle c) s = .next t ∧ Follows s t ∧
          t.lamps[c] = { s.lamps[c] with on := !s.lamps[c].on, toggleAt := some (d + p) } ∧
          ∀ e : Channel, e ≠ c → t.lamps[e] = s.lamps[e]) ∧
    ((s.scan.periodicAt = none ∨ ∃ d, s.scan.periodicAt = some d ∧ s.now < d) → exec .periodicTimerExpiry s = .next s) ∧
    (∀ d, s.scan.periodicAt = some d → d ≤ s.now → Runs .periodicTimerExpiry s { s with scan := { s.scan with
      sweep := if s.scan.running = true ∧ s.scan.mode = .triggered then some (s.scan.sweep.getD s.scan.startIn) else s.scan.sweep
      periodicAt := some (d + s.scan.period) } }) ∧
    ((s.feed.dryExpiry = none ∨ ∃ d, s.feed.dryExpiry = some d ∧ s.now < d) → exec .dryTimerExpiry s = .next s) ∧
    ∀ d, s.feed.dryExpiry = some d → d ≤ s.now → ∃ t, exec .dryTimerExpiry s = .next t ∧ Follows s t ∧
      (∀ i rep rest, s.queue = ⟨.swath i rep, .waiting⟩ :: rest → SwathEvaluated s t i rep rest) ∧
      FeedHeadEvaluated s t

/-! ## Sensing (chapter 8) -/

/-- RAW_INPUT_CHANGE and INPUT_FILTER_EXPIRY: the filtered level drops a candidate, another level becomes the candidate with its time, and
is accepted when it has been held for the filter time, at once with a filter of 0 ms; before that an expiry does nothing (logs 2 and 4). A
change accepted queues INPUT EDGE where the event edge matches, and a change or a settling sets the stop latch with its cause where the
stop routing matches, which aborts a pass, ends a station operation or refill with its request pending again, and pauses the motion. A
level that sets no stop acts on the feed unit, in a paused load, eject or unload too (log 67), a cut completing when its cutter returns
within 4,000 ms and failing when it returns later, the cutter of a paused cut being HOME at an active DI8 and AWAY when it is lost, or
failing where it comes home late (log 43), or on the cartridge of its slot, whose reject reason becomes absent at its removal and at its
insertion (log 54). What an interrupted operation had fired is a free value (log 18), and the valve of a refill that the stop ends is
closed after the stop of the station (log 69). -/
def Obligations.InputsAreFilteredAndRouted : Prop :=
  ∀ (s : State) (i : DIn) (raw : Bool),
    (s.inputs[i].level = some raw →
      Runs (.rawInputChange i raw) s { s with inputs := setAt s.inputs i ⟨some raw, none⟩ }) ∧
    (s.inputs[i].level ≠ some raw → (s.inputs[i].candidate.map (·.level)) = some raw → Runs (.rawInputChange i raw) s s) ∧
    (s.inputs[i].level ≠ some raw → (s.inputs[i].candidate.map (·.level)) ≠ some raw → s.tables.input[i].filter ≠ 0 →
      Runs (.rawInputChange i raw) s { s with
        inputs := setAt s.inputs i ⟨s.inputs[i].level, some ⟨raw, s.now, s.tables.input[i].filter⟩⟩ }) ∧
    ((s.inputs[i].candidate = none ∨ ∃ k, s.inputs[i].candidate = some k ∧ s.now < k.since + k.filter) →
      exec (.inputFilterExpiry i) s = .next s) ∧
    ∀ c, ((c = .rawInputChange i raw ∧ s.inputs[i].level ≠ some raw ∧ (s.inputs[i].candidate.map (·.level)) ≠ some raw ∧
          s.tables.input[i].filter = 0) ∨
        (c = .inputFilterExpiry i ∧ ∃ k, s.inputs[i].candidate = some k ∧ k.level = raw ∧ k.since + k.filter ≤ s.now)) →
      ∃ t, exec c s = .next t ∧ t.inputs = setAt s.inputs i ⟨some raw, none⟩ ∧ t.tables = s.tables ∧ t.store = s.store ∧
        t.lane.rx = s.lane.rx ∧ t.scan = s.scan ∧
        (∀ b, s.inputs[i].level = some b → (s.tables.input[i].edge = .both ∨ (s.tables.input[i].edge = .rising ∧ raw = true) ∨
          (s.tables.input[i].edge = .falling ∧ raw = false)) → s.tells t (.inputEdge i raw s.now)) ∧
        (let stops := (s.tables.input[i].routing = .rising ∧ raw = true) ∨ (s.tables.input[i].routing = .falling ∧ raw = false)
         (stops → s.stop.set = false → t.stop = ⟨true, some (.input i)⟩ ∧ t.pass = none ∧ t.driveEnable = false ∧
            s.tells t (.forcedStop (.input i) s.now (s.pass.map (·.slot))) ∧
            (∀ p, s.pass = some p → PassEnded s t p false) ∧ (∀ m, t.feed.motion = some m → m.paused = true) ∧
            (i.val < 10 → s.pass = none → ∀ o, s.service.holder = .op o → StoppedOp s t o)) ∧
          ((¬ stops ∨ s.stop.set = true) → t.stop = s.stop ∧ t.pass = s.pass ∧ t.slots = s.slots ∧ t.maps = s.maps ∧
            (i.val < 10 → FeedInputActs s t i raw) ∧
            ∀ d : Channel, i.val = 10 + d.val → CartridgeInputActs s t d raw))

/-- CONVERSION_END of the input in the sweep stores offset + floor(raw × gain / 4,096), valid, with its time, and moves the sweep on in
ring order, back to the start in CONTINUOUS mode and to none in TRIGGERED SWEEP mode after the end input; an AIN9 result above the mark
threshold sets mark seen in a stroke; a pressure outside its stop window sets the stop latch during a pass alone; without a stop the gate
evaluates the head, and what an advance or cut entry then holds is said whole. RESULT_STALE_EXPIRY makes a valid result stale at its
maximum age (log 27), with its event and condition, and keeps its value. Without a sweep, or before that age, nothing happens (the model's
choice, logs 2 and 4). -/
def Obligations.ConversionsAndStaleness : Prop :=
  (∀ (s : State) (raw : Nat),
    (s.scan.sweep = none → exec (.conversionEnd raw) s = .next s) ∧
    ∀ i, s.scan.sweep = some i →
      let v := s.tables.scan[i].offset + Int.fdiv ((raw : Int) * s.tables.scan[i].gain) 4096
      let scan : Scan := { s.scan with
        results := setAt s.scan.results i ⟨v, some s.now, true⟩
        sweep := if i ≠ s.scan.endIn then some ⟨(i.val + 1) % 12, by omega⟩
          else if s.scan.mode = .continuous then some s.scan.startIn else none }
      let outside (c : Channel) : Prop := pressureInput c = i ∧
        (v < s.tables.channel[c].stopLow ∨ s.tables.channel[c].stopHigh < v)
      ((s.pass = none ∨ (∀ c, ¬ outside c) ∨ s.stop.set = true) → ∃ t, exec (.conversionEnd raw) s = .next t ∧
        Follows { s with scan := scan, supply := t.supply } t ∧ FeedHeadEvaluated s t ∧
        ∀ c : Channel, t.supply[c].refill = s.supply[c].refill.map fun k =>
          if i.val = 9 ∧ s.tables.service.markThreshold < v ∧ k.inStroke = true then { k with markSeen := true } else k) ∧
      ∀ c p, outside c → s.pass = some p → s.stop.set = false → ∃ t, exec (.conversionEnd raw) s = .next t ∧ t.scan = scan ∧
        t.stop = ⟨true, some (.pressure c)⟩ ∧ t.pass = none ∧ t.driveEnable = false ∧ t.slots[p.slot] = blankSlot ∧
        s.tells t (.forcedStop (.pressure c) s.now (some p.slot)) ∧ t.tables = s.tables ∧ t.store = s.store) ∧
  ∀ (s : State) (i : AIn),
    ((s.scan.results[i].valid = false ∨ s.scan.results[i].convertedAt = none ∨
      ∃ a, s.scan.results[i].convertedAt = some a ∧ s.now < a + s.tables.scan[i].maxAge) →
        exec (.resultStaleExpiry i) s = .next s) ∧
    ∀ a, s.scan.results[i].valid = true → s.scan.results[i].convertedAt = some a → a + s.tables.scan[i].maxAge ≤ s.now →
      ∃ t, exec (.resultStaleExpiry i) s = .next t ∧
        Follows { s with scan := { s.scan with results := setAt s.scan.results i { s.scan.results[i] with valid := false } } } t ∧
        t.lane.conditions.sensorStale = true ∧ s.tells t (.sensorStale i s.scan.results[i].value (s.now - a))

/-! ## Media feed (chapter 7) -/

/-- ADVANCE_START of a WAITING ADVANCE head entry: with the latch set, an orphan in flight or no path for it, nothing; otherwise its
counts N and the new residue are computed, the target rises by N, roll remaining falls, ROLL LOW is queued at the first fall below
1,000,000 µm, and the entry is ACTIVE with N counts; an advance of 0 counts completes at once. A target beyond 4,294,967,295 is cut there
(the model's choice, log 61). -/
def Obligations.AdvanceStartTakesItsCounts : Prop :=
  ∀ (s : State) (d : Nat) (n r : Option Nat) (short : Bool) (rest : List Entry),
    s.queue = ⟨.advance d n r short, .waiting⟩ :: rest →
    let x := ((d : Int) * 2 * (1000000 + s.calibration) + s.feed.residue).toNat
    let allowed := s.stop.set = false ∧ (∀ m, s.feed.motion = some m → m.owner ≠ .orphan) ∧
      (s.feed.path = .ready ∨ ∃ a b, s.feed.path = .tailOut ∧ s.feed.tail = some a ∧ s.feed.pos = some b ∧ x / 3000000 ≤ a - b)
    (¬ allowed → exec .advanceStart s = .next s) ∧
    (allowed → ∃ t, exec .advanceStart s = .next t ∧ advanceStarts s t d ∧
      (x / 3000000 ≠ 0 → ∃ m, t.feed.motion = some m ∧
        Follows { s with
          queue := ⟨.advance d (some (x / 3000000)) (some (x / 3000000)) short, .active⟩ :: rest
          feed := { s.feed with
            residue := t.feed.residue, rollRemaining := t.feed.rollRemaining, rollLow := t.feed.rollLow, motion := some m
            target := s.feed.target.map fun g => min (g + x / 3000000) 4294967295 }
          out := { s.out with feed := t.out.feed } } t ∧
        m.work = .advance d (x / 3000000) false ∧ m.owner = .entry ∧ m.paused = false ∧ m.progressAt = s.now) ∧
      (x / 3000000 = 0 → Follows { s with
        queue := rest
        feed := { s.feed with
          residue := t.feed.residue, rollRemaining := t.feed.rollRemaining, rollLow := t.feed.rollLow, motion := none
          target := s.feed.target.map fun g => min g 4294967295 }
        out := { s.out with feed := .stop } } t))

/-- CUT_START of a WAITING CUT head entry: with the latch set, an orphan in flight, the cutter not home, the path not READY or TAIL OUT,
or the dry timer running, nothing; otherwise the entry is ACTIVE and, with a roll engaged, a cut of 4,000 ms begins across the media, or
an eject begins. -/
def Obligations.CutStartBeginsACutOrAnEject : Prop :=
  ∀ (s : State) (rest : List Entry), s.queue = ⟨.cut, .waiting⟩ :: rest →
    let allowed := s.stop.set = false ∧ (∀ m, s.feed.motion = some m → m.owner ≠ .orphan) ∧ s.feed.cutter = .home ∧
      (s.feed.path = .ready ∨ s.feed.path = .tailOut) ∧ (∀ d, s.feed.dryExpiry = some d → d ≤ s.now)
    (¬ allowed → exec .cutStart s = .next s) ∧
    (allowed → (s.feed.source = some .roll1 ∨ s.feed.source = some .roll2) → ∃ t m, exec .cutStart s = .next t ∧
      Follows { s with
        queue := ⟨.cut, .active⟩ :: rest
        feed := { s.feed with path := .cutting, beforeCut := s.feed.path, cutter := .cutting, motion := some m }
        out := { s.out with cutter := .across } } t ∧
      m.work = .cut (s.now + 4000) false ∧ m.owner = .entry ∧ m.paused = false) ∧
    (allowed → (s.feed.source = none ∨ s.feed.source = some .sheet) → ∃ t m, exec .cutStart s = .next t ∧
      Follows { s with
        queue := ⟨.cut, .active⟩ :: rest
        feed := { s.feed with path := .ejecting, pos := none, target := none, motion := some m }
        out := { s.out with feed := t.out.feed } } t ∧
      m.work = .eject (if s.inputs[(2 : DIn)].level = some false then some 0 else none) ∧ m.owner = .entry ∧ m.paused = false ∧
        m.count = 0)

/-- FEED_ENCODER_COUNT: the feed position follows the encoder within its range, but in JAMMED, a motion's counts move with it, and the
head ADVANCE entry's counts remaining are what is left to its target; an advance that reaches the tail position short of its target stops
there. The cut at the ends of the position's range and the position kept in JAMMED rest on log 23; while the motion is paused, or an
advance stands in its settle band, the stall time is held (log 37). -/
def Obligations.FeedPositionFollowsTheEncoder : Prop :=
  ∀ (s : State) (delta : Int), ∃ t, exec (.feedEncoderCount delta) s = .next t ∧
    Follows { s with
      queue := t.queue, feed := { s.feed with pos := t.feed.pos, motion := t.feed.motion }
      out := { s.out with feed := t.out.feed } } t ∧
    t.feed.pos = (if s.feed.path = .jammed then s.feed.pos
      else s.feed.pos.map fun p => min ((p : Int) + delta).toNat 4294967295) ∧
    (s.feed.motion = none → t.feed.motion = none ∧ t.queue.map Entry.bare = s.queue.map Entry.bare) ∧
    (∀ m, s.feed.motion = some m → (m.work.kind ≠ .advance ∨ m.owner ≠ .entry) →
      t.queue.map Entry.bare = s.queue.map Entry.bare) ∧
    (∀ m, s.feed.motion = some m → ∃ m', t.feed.motion = some m' ∧ m'.count = m.count + delta ∧ m'.owner = m.owner ∧
      m'.paused = m.paused ∧ (m'.inBandSince.isSome = t.feed.inBand m') ∧
      (m'.heldAt.isSome = (m.paused || (decide (m.work.kind = .advance) && t.feed.inBand m'))) ∧
      (m.paused = false → ((s.feed.direction m = .forward ∧ 0 < delta) ∨ (s.feed.direction m = .back ∧ delta < 0)) →
        m'.progressAt = s.now) ∧
      (m.heldAt = none → delta = 0 → m'.progressAt = m.progressAt) ∧
      (m'.work = m.work ∨ ∃ d n, m.work = .advance d n false ∧ m'.work = .advance d n true)) ∧
    (∀ m d n a g p, s.feed.motion = some m → m.work = .advance d n false → s.feed.path = .tailOut → s.feed.tail = some a →
      s.feed.target = some g → t.feed.pos = some p →
      ∃ m', t.feed.motion = some m' ∧ (m'.work = .advance d n true ↔ a ≤ p ∧ a < g)) ∧
    ∀ m d n r ph short rest p g, s.feed.motion = some m → m.work.kind = .advance → m.owner = .entry →
      s.queue = ⟨.advance d n r short, ph⟩ :: rest → t.feed.pos = some p → s.feed.target = some g →
      t.queue.map Entry.bare = (⟨.advance d n (some (g - p)) false, ph⟩ :: rest).map Entry.bare

/-- ADVANCE_SETTLED: an advance that has stayed within 2 counts of where it comes to rest for 20 ms, not paused, completes: the motion
ends, an entry's entry leaves the queue, and one stopped at the tail takes the tail position as its target and queues MEDIA SHORT, form
SHORT. That one resting in the band of its own target just short of the tail completes in full, and that the 20 ms run on in a pause, are
the model's choices (logs 71 and 72). Before that, or for another motion, nothing happens (the model's choice, logs 2 and 4). -/
def Obligations.SettledAdvanceCompletes : Prop :=
  ∀ s : State,
    ((∀ m, s.feed.motion = some m → m.work.kind ≠ .advance ∨ m.paused = true ∨ m.inBandSince = none ∨
      ∃ b, m.inBandSince = some b ∧ s.now < b + 20) → exec .advanceSettled s = .next s) ∧
    ∀ m d n short b, s.feed.motion = some m → m.work = .advance d n short → m.paused = false → m.inBandSince = some b →
      b + 20 ≤ s.now → ∃ t, exec .advanceSettled s = .next t ∧
        Follows { s with
          queue := if m.owner = .entry then s.queue.tail else s.queue
          feed := { s.feed with motion := none, target := if short then s.feed.tail else s.feed.target }
          out := { s.out with feed := .stop } } t ∧
        (short = true → ∀ g p, s.feed.target = some g → s.feed.pos = some p → s.tells t (.mediaShort .short d n (g - p)))

/-- FEED_STALL, CUT_TIMEOUT, EJECT_LIMIT and UNLOAD_LIMIT jam the path when their limit is reached: the motion ends, the drive stops, the
cause is recorded, JAM stands, and an entry's entry leaves the queue; source, profile, feed position, residue, target and tail window are
kept. An advance does not stall within its settle band; every other motion in flight does, and counts as driven unless it is paused (log
23). A paused cut's return home fails where DI8 is not active (log 43). Before the limit, or for another motion, nothing happens (the
model's choice, logs 2 and 4). -/
def Obligations.FailedMotionJamsThePath : Prop :=
  ∀ (s : State) (m : Motion), s.feed.motion = some m →
    let stalls := m.work.kind ≠ .cut ∧ m.paused = false ∧ ¬ (m.work.kind = .advance ∧ s.feed.inBand m = true) ∧ m.progressAt + 500 ≤ s.now
    let cutLate := ∃ d left, m.work = .cut d left ∧ d ≤ s.now ∧ (m.paused = false ∨
      (s.feed.cutter = .returning ∧ s.inputs[(8 : DIn)].level ≠ some true))
    let ejectFar := m.work = .eject none ∧ m.paused = false ∧ 2000000 ≤ m.count
    let unloadFar := m.work = .unload none ∧ m.paused = false ∧ m.count ≤ -100000
    (¬ stalls → exec .feedStall s = .next s) ∧ (¬ cutLate → exec .cutTimeout s = .next s) ∧
    (¬ ejectFar → exec .ejectLimit s = .next s) ∧ (¬ unloadFar → exec .unloadLimit s = .next s) ∧
    ∀ c cause, ((c = .feedStall ∧ stalls ∧ cause = .stall) ∨ (c = .cutTimeout ∧ cutLate ∧ cause = .cutter) ∨
        (c = .ejectLimit ∧ ejectFar ∧ cause = .limit) ∨ (c = .unloadLimit ∧ unloadFar ∧ cause = .limit)) →
      ∃ t, exec c s = .next t ∧
        Follows { s with
          queue := if m.owner = .entry then s.queue.tail else s.queue
          feed := { s.feed with path := .jammed, motion := none, jam := some cause, cutter := t.feed.cutter }
          out := if cause = .cutter then { s.out with cutter := .stop } else { s.out with feed := .stop } } t ∧
        t.lane.conditions.jam = true ∧ (s.lane.conditions.jam = false → s.tells t (.condition (.jam cause))) ∧
        t.feed.cutter = if cause = .cutter then (if s.inputs[(8 : DIn)].level = some true then .home else .away)
          else s.feed.cutter

/-- LOAD_EDGE_SETTLED, LOAD_BACKFEED_DONE and LOAD_NO_EDGE: at rest at the later edge the skew floor(difference × 1,500,000 / 914,400) is
judged; within the profile's limit the path is READY at position 0, or TAIL OUT at once where a tail condition stands; beyond it the media
is back-fed, ALIGNING, the stall time going on from where a pause held it (log 37). 33,334 counts back a new attempt begins, which counts
it (log 45), or after the third the load fails with SKEW; without the edges it fails with NO EDGE. A failed load leaves the path EMPTY
without source, profile and roll remaining. Before its time or count nothing happens (the model's choice, log 4). -/
def Obligations.LoadStepsAlignOrFail : Prop :=
  ∀ (s : State) (m : Motion), s.feed.motion = some m → m.paused = false →
    let fails (t : State) (reason : LoadFailReason) (skew : Option Nat) : Prop :=
      Follows { s with
        feed := { s.feed with path := .empty, source := none, profile := none, rollRemaining := none, motion := none }
        out := { s.out with feed := .stop } } t ∧
      s.tells t (.loadFailed s.feed.source s.feed.profile reason s.feed.attempt skew)
    (∀ st a b old k since, m.work = .load .toRest st (some a) (some b) old → s.feed.profile = some k →
      m.inBandSince = some since →
      (s.now < since + 20 → exec .loadEdgeSettled s = .next s) ∧
      (since + 20 ≤ s.now → let skew := (a - b).natAbs * 1500000 / 914400
        ∃ t, exec .loadEdgeSettled s = .next t ∧
        (skew ≤ s.tables.profile[k].skewLimit → Follows { s with
          feed := { s.feed with
            path := if s.tailSeen then .tailOut else .ready
            pos := some 0, target := some 0, tail := if s.tailSeen then some 28000 else none, motion := none }
          out := { s.out with feed := .stop } } t) ∧
        (s.tables.profile[k].skewLimit < skew → Follows { s with
          feed := { s.feed with
            path := .aligning
            motion := some { m with
              work := .load .retry m.count none none (some skew), inBandSince := none, heldAt := none
              progressAt := m.progressAt + (s.now - m.heldAt.getD s.now) } }
          out := { s.out with feed := .back } } t))) ∧
    (∀ st e0 e1 old, m.work = .load .retry st e0 e1 old →
      (st - 33334 < m.count → exec .loadBackfeedDone s = .next s) ∧
      (m.count ≤ st - 33334 → ∃ t, exec .loadBackfeedDone s = .next t ∧
        (3 ≤ s.feed.attempt → fails t .skew old) ∧
        (s.feed.attempt < 3 → Follows { s with
          feed := { s.feed with
            path := .loading, attempt := s.feed.attempt + 1
            motion := some { m with
              work := .load (if s.inputs[(0 : DIn)].level = some true ∨ s.inputs[(1 : DIn)].level = some true then .clearing
                else .forward) m.count none none old
              inBandSince := none } }
          out := { s.out with feed := t.out.feed } } t))) ∧
    ∀ st e0 e1 old, (m.work = .load .clearing st e0 e1 old ∨ m.work = .load .forward st e0 e1 old) →
      let far := if m.work = .load .clearing st e0 e1 old then m.count ≤ st - 2000000 else st + 1000000 ≤ m.count
      (¬ far → exec .loadNoEdge s = .next s) ∧ (far → ∃ t, exec .loadNoEdge s = .next t ∧ fails t .noEdge old)

/-- EJECT_COMPLETE and UNLOAD_COMPLETE: at rest the media is out: the path EMPTY, source, profile, positions, roll remaining and jam cause
absent, residue 0, window empty, no motion, no wet-edge time; an eject of an entry or an orphan queues CUT DONE, kind EJECT, and an
entry's entry leaves the queue. Before that, or for another motion, nothing happens (the model's choice, logs 2 and 4). -/
def Obligations.EjectAndUnloadClearThePath : Prop :=
  ∀ (s : State) (m : Motion), s.feed.motion = some m →
    ∀ q ∈ [(Instr.ejectComplete, MotionKind.eject), (Instr.unloadComplete, MotionKind.unload)],
      ((m.work.kind ≠ q.2 ∨ m.paused = true ∨ m.inBandSince = none ∨ ∃ b, m.inBandSince = some b ∧ s.now < b + 20) →
        exec q.1 s = .next s) ∧
      ∀ b, m.work.kind = q.2 → m.paused = false → m.inBandSince = some b → b + 20 ≤ s.now → ∃ t, exec q.1 s = .next t ∧
        Follows { s with
          queue := if q.2 = .eject ∧ m.owner = .entry then s.queue.tail else s.queue
          wetEdge := none
          feed := { s.feed with
            path := .empty, source := none, profile := none, pos := none, target := none, residue := 0, tail := none
            rollRemaining := none, window := [], motion := none, jam := none }
          out := { s.out with feed := .stop } } t ∧
        (q.2 = .eject → m.owner ≠ .request → s.tells t (.cutDone .eject s.feed.source s.feed.rollRemaining))

/-! ## Figures (chapters 3 and 7) -/

/-- The product of the first three stages: V times F, with F within 8,800..12,700, at most 674,949,120,000,000 units over the ranges of
the tables and the counts, which the greatest ones reach, and 0 where every count is 0; then the estimate is 0 and the debit 0 with the
carry unchanged. -/
def Obligations.ProductStaysInItsRange : Prop :=
  dropProduct 400 400 400 60 70 ⟨44236800, 44236800, 44236800⟩ 153600 = 674949120000000 ∧
  ∀ (vS vM vL k : Nat) (temp : Int) (n : Counts) (spit : Nat), vS ≤ 400 → vM ≤ 400 → vL ≤ 400 → k ≤ 60 →
    dropProduct vS vM vL k temp n spit = volumeSum vS vM vL n spit * tempFactor k temp ∧
    8800 ≤ tempFactor k temp ∧ tempFactor k temp ≤ 12700 ∧
    (n.small ≤ 44236800 → n.medium ≤ 44236800 → n.large ≤ 44236800 → spit ≤ 153600 →
      dropProduct vS vM vL k temp n spit ≤ 674949120000000) ∧
    (n = ⟨0, 0, 0⟩ → spit = 0 → dropProduct vS vM vL k temp n spit = 0 ∧ estimateOf (dropProduct vS vM vL k temp n spit) = 0 ∧
      ∀ carry, carry < 100000000 → debitOf (dropProduct vS vM vL k temp n spit) carry = (0, carry))

/-- Over any series of debits of one channel the nanolitres charged plus the final carry, in units, equal the sum of the products plus the
first carry, and the carry stays below 100,000,000. Over any series of advances at one calibration the counts fed and the residue are the
exact sum of the distances, the residue stays below 3,000,000, and one advance is at most 1,020,000 counts. -/
def Obligations.SeriesLoseNothing : Prop :=
  (∀ (ps : List Nat) (carry : Nat), carry < 100000000 →
    (chargedSeries ps carry).1 * 100000000 + (chargedSeries ps carry).2 = ps.sum + carry ∧
      (chargedSeries ps carry).2 < 100000000) ∧
  ∀ (ds : List Nat) (c : Int) (r : Nat), -20000 ≤ c → c ≤ 20000 → r < 3000000 →
    (((advancedSeries c ds r).1 * 3000000 + (advancedSeries c ds r).2 : Nat) : Int) = (ds.sum : Int) * 2 * (1000000 + c) + r ∧
      (advancedSeries c ds r).2 < 3000000 ∧ ∀ d, d ≤ 1500000 → (advanceCounts d c r).1 ≤ 1020000

/-! ## Invariants that every step keeps -/

/-- Each invariant holds right after reset. -/
def Obligations.ResetMeetsTheInvariants : Prop :=
  State.reset.QueueInv ∧ State.reset.PassInv ∧ State.reset.ReserveInv ∧ State.reset.LadderInv ∧ State.reset.RequestInv ∧
    State.reset.CarriageInv ∧ State.reset.LaneInv ∧ State.reset.CarryInv ∧ State.reset.StoreInv ∧ State.reset.SupplyInv ∧
    State.reset.LampInv ∧ State.reset.HoldsInv ∧ State.reset.StopInv ∧ State.reset.MapInv ∧ State.reset.GenInv

/-- Every step keeps the agreement of queue, slots, pass and an entry's motion, and with it the queue's bound and the generations that
slots refer to: always Current's or Retained's, and Retained is held only while referred to. -/
def Obligations.StepsKeepQueueSlotsAndGenerations : Prop :=
  ∀ s t : State, step s = .next t → s.QueueInv → s.PassInv → s.GenInv → t.QueueInv ∧ t.PassInv ∧ t.GenInv

/-- Every step keeps the bounds of the lane (32 frames received, HOLD between its thresholds, 8 replies and 64 events, each counted
without the frame being sent, log 8; while UNALIGNED no frame received, no reply and nothing being sent, events alone waiting), the Swath
Store in its canonical form, and the carries of the accounts, the tags and the feed with the tail window in their ranges. -/
def Obligations.StepsKeepLaneStoreAndCarries : Prop :=
  ∀ s t : State, step s = .next t →
    (s.LaneInv → t.LaneInv) ∧ (s.StoreInv → t.StoreInv) ∧ (s.CarryInv → t.CarryInv)

/-- Every step leaves the supply state of each channel as Table 4.1.2 gives it, the lamp as Table 4.6.1, and the hold-reason set as R24
says for an empty queue and an ACTIVE head. -/
def Obligations.StepsFormSupplyLampsAndHolds : Prop :=
  ∀ s t : State, step s = .next t → s.SupplyInv → s.LampInv → s.HoldsInv → t.SupplyInv ∧ t.LampInv ∧ t.HoldsInv

/-- Every step keeps it so that while the stop latch is set no pass is in flight, the head drive enable is low, no station operation is in
flight, and a motion in flight is paused. -/
def Obligations.StepsKeepTheStoppedEngineStill : Prop := ∀ s t : State, step s = .next t → s.StopInv → t.StopInv

/-- Every step keeps the three map banks sound and the Next bank resolved against its own dead nozzles and the channel table. -/
def Obligations.StepsKeepTheMapsSound : Prop := ∀ s t : State, step s = .next t → s.MapInv → t.MapInv

/-- Every step keeps it so that each reservation is that of the pass in flight, that the carriage, the pass, the refill records and the
dock agree, that each ladder's record is of its state, and that no two pending requests match. -/
def Obligations.StepsKeepCarriageReservationsAndLadders : Prop :=
  ∀ s t : State, step s = .next t → s.ReserveInv → s.CarriageInv → s.LadderInv → s.RequestInv →
    t.ReserveInv ∧ t.CarriageInv ∧ t.LadderInv ∧ t.RequestInv

/-! ## Rules of the whole machine -/

/-- Only TABLE_WRITE and POWER_ON change a loaded table; only CLEAR_CONDITIONS and POWER_ON clear a condition; only RESUME, ENGINE RESET
and POWER_ON clear the stop latch; only SWATH_OPEN, SLICE and POWER_ON change a byte of the Swath Store; only SWATH_OPEN and POWER_ON
change the Current bank and its generation; no command touches the commands waiting, a queue that is the model's (log 2). -/
def Obligations.OnlyItsCommandsChangeWhatTheyOwn : Prop :=
  ∀ (c : Instr) (s t : State), exec c s = .next t →
    (c ≠ .tableWrite → (∀ raw, c ≠ .powerOn raw) → t.tables = s.tables) ∧
    (c ≠ .clearConditions → (∀ raw, c ≠ .powerOn raw) →
      ∀ k, s.lane.conditions.latched k = true → t.lane.conditions.latched k = true) ∧
    (c ≠ .resume → c ≠ .engineReset → c ≠ .engineResetLine → (∀ raw, c ≠ .powerOn raw) → s.stop.set = true → t.stop = s.stop) ∧
    (c ≠ .swathOpen → c ≠ .slice → (∀ raw, c ≠ .powerOn raw) → ∀ a, Memory.read t.store a = Memory.read s.store a) ∧
    (c ≠ .swathOpen → (∀ raw, c ≠ .powerOn raw) → t.maps.current = s.maps.current ∧ t.maps.currentGen = s.maps.currentGen) ∧
    t.pending = s.pending

/-- Every change of the media path state by any command but POWER_ON queues a MEDIA STATE event with the new state and, as the media
record then stands, its source, profile, feed position, remaining length and, in JAMMED, its jam cause. -/
def Obligations.PathChangesAreReported : Prop :=
  ∀ (c : Instr) (s t : State), exec c s = .next t → (∀ raw, c ≠ .powerOn raw) → t.feed.path ≠ s.feed.path →
    s.tells t (.mediaState t.feed.path t.feed.source t.feed.profile t.feed.pos t.feed.remaining
      (if t.feed.path = .jammed then t.feed.jam else none))
end

