-- ==== Sys2Proof/Laws/State.lean ====
section
/-!
SUPPORT. One lemma for each field that an update of the state leaves.
-/

namespace Sys2Proof.Machine

variable (s : State)

@[simp] theorem State.raise_now (e : Event) : (s.raise e).now = s.now := rfl
@[simp] theorem State.raise_slots (e : Event) : (s.raise e).slots = s.slots := rfl
@[simp] theorem State.raise_store (e : Event) : (s.raise e).store = s.store := rfl
@[simp] theorem State.raise_queue (e : Event) : (s.raise e).queue = s.queue := rfl
@[simp] theorem State.raise_holds (e : Event) : (s.raise e).holds = s.holds := rfl
@[simp] theorem State.raise_wetEdge (e : Event) : (s.raise e).wetEdge = s.wetEdge := rfl
@[simp] theorem State.raise_pass (e : Event) : (s.raise e).pass = s.pass := rfl
@[simp] theorem State.raise_driveEnable (e : Event) : (s.raise e).driveEnable = s.driveEnable := rfl
@[simp] theorem State.raise_accounts (e : Event) : (s.raise e).accounts = s.accounts := rfl
@[simp] theorem State.raise_supply (e : Event) : (s.raise e).supply = s.supply := rfl
@[simp] theorem State.raise_carts (e : Event) : (s.raise e).carts = s.carts := rfl
@[simp] theorem State.raise_lamps (e : Event) : (s.raise e).lamps = s.lamps := rfl
@[simp] theorem State.raise_maps (e : Event) : (s.raise e).maps = s.maps := rfl
@[simp] theorem State.raise_service (e : Event) : (s.raise e).service = s.service := rfl
@[simp] theorem State.raise_feed (e : Event) : (s.raise e).feed = s.feed := rfl
@[simp] theorem State.raise_scan (e : Event) : (s.raise e).scan = s.scan := rfl
@[simp] theorem State.raise_inputs (e : Event) : (s.raise e).inputs = s.inputs := rfl
@[simp] theorem State.raise_stop (e : Event) : (s.raise e).stop = s.stop := rfl
@[simp] theorem State.raise_tables (e : Event) : (s.raise e).tables = s.tables := rfl
@[simp] theorem State.raise_out (e : Event) : (s.raise e).out = s.out := rfl
@[simp] theorem State.raise_freeCount (e : Event) : (s.raise e).freeCount = s.freeCount := rfl
@[simp] theorem State.raise_pending (e : Event) : (s.raise e).pending = s.pending := rfl

@[simp] theorem State.raiseCondition_now (r : CondRaise) : (s.raiseCondition r).now = s.now := rfl
@[simp] theorem State.raiseCondition_slots (r : CondRaise) : (s.raiseCondition r).slots = s.slots := rfl
@[simp] theorem State.raiseCondition_store (r : CondRaise) : (s.raiseCondition r).store = s.store := rfl
@[simp] theorem State.raiseCondition_queue (r : CondRaise) : (s.raiseCondition r).queue = s.queue := rfl
@[simp] theorem State.raiseCondition_holds (r : CondRaise) : (s.raiseCondition r).holds = s.holds := rfl
@[simp] theorem State.raiseCondition_wetEdge (r : CondRaise) : (s.raiseCondition r).wetEdge = s.wetEdge := rfl
@[simp] theorem State.raiseCondition_pass (r : CondRaise) : (s.raiseCondition r).pass = s.pass := rfl
@[simp] theorem State.raiseCondition_driveEnable (r : CondRaise) : (s.raiseCondition r).driveEnable = s.driveEnable := rfl
@[simp] theorem State.raiseCondition_accounts (r : CondRaise) : (s.raiseCondition r).accounts = s.accounts := rfl
@[simp] theorem State.raiseCondition_supply (r : CondRaise) : (s.raiseCondition r).supply = s.supply := rfl
@[simp] theorem State.raiseCondition_carts (r : CondRaise) : (s.raiseCondition r).carts = s.carts := rfl
@[simp] theorem State.raiseCondition_lamps (r : CondRaise) : (s.raiseCondition r).lamps = s.lamps := rfl
@[simp] theorem State.raiseCondition_maps (r : CondRaise) : (s.raiseCondition r).maps = s.maps := rfl
@[simp] theorem State.raiseCondition_service (r : CondRaise) : (s.raiseCondition r).service = s.service := rfl
@[simp] theorem State.raiseCondition_feed (r : CondRaise) : (s.raiseCondition r).feed = s.feed := rfl
@[simp] theorem State.raiseCondition_scan (r : CondRaise) : (s.raiseCondition r).scan = s.scan := rfl
@[simp] theorem State.raiseCondition_inputs (r : CondRaise) : (s.raiseCondition r).inputs = s.inputs := rfl
@[simp] theorem State.raiseCondition_stop (r : CondRaise) : (s.raiseCondition r).stop = s.stop := rfl
@[simp] theorem State.raiseCondition_tables (r : CondRaise) : (s.raiseCondition r).tables = s.tables := rfl
@[simp] theorem State.raiseCondition_out (r : CondRaise) : (s.raiseCondition r).out = s.out := rfl
@[simp] theorem State.raiseCondition_freeCount (r : CondRaise) : (s.raiseCondition r).freeCount = s.freeCount := rfl
@[simp] theorem State.raiseCondition_pending (r : CondRaise) : (s.raiseCondition r).pending = s.pending := rfl

@[simp] theorem State.chooseReturn_now : (s.chooseReturn).now = s.now := rfl
@[simp] theorem State.chooseReturn_slots : (s.chooseReturn).slots = s.slots := rfl
@[simp] theorem State.chooseReturn_store : (s.chooseReturn).store = s.store := rfl
@[simp] theorem State.chooseReturn_queue : (s.chooseReturn).queue = s.queue := rfl
@[simp] theorem State.chooseReturn_holds : (s.chooseReturn).holds = s.holds := rfl
@[simp] theorem State.chooseReturn_wetEdge : (s.chooseReturn).wetEdge = s.wetEdge := rfl
@[simp] theorem State.chooseReturn_pass : (s.chooseReturn).pass = s.pass := rfl
@[simp] theorem State.chooseReturn_driveEnable : (s.chooseReturn).driveEnable = s.driveEnable := rfl
@[simp] theorem State.chooseReturn_accounts : (s.chooseReturn).accounts = s.accounts := rfl
@[simp] theorem State.chooseReturn_supply : (s.chooseReturn).supply = s.supply := rfl
@[simp] theorem State.chooseReturn_carts : (s.chooseReturn).carts = s.carts := rfl
@[simp] theorem State.chooseReturn_lamps : (s.chooseReturn).lamps = s.lamps := rfl
@[simp] theorem State.chooseReturn_maps : (s.chooseReturn).maps = s.maps := rfl
@[simp] theorem State.chooseReturn_service : (s.chooseReturn).service = s.service := rfl
@[simp] theorem State.chooseReturn_feed : (s.chooseReturn).feed = s.feed := rfl
@[simp] theorem State.chooseReturn_scan : (s.chooseReturn).scan = s.scan := rfl
@[simp] theorem State.chooseReturn_inputs : (s.chooseReturn).inputs = s.inputs := rfl
@[simp] theorem State.chooseReturn_stop : (s.chooseReturn).stop = s.stop := rfl
@[simp] theorem State.chooseReturn_tables : (s.chooseReturn).tables = s.tables := rfl
@[simp] theorem State.chooseReturn_out : (s.chooseReturn).out = s.out := rfl
@[simp] theorem State.chooseReturn_freeCount : (s.chooseReturn).freeCount = s.freeCount := rfl
@[simp] theorem State.chooseReturn_pending : (s.chooseReturn).pending = s.pending := rfl

@[simp] theorem State.place_now (op : StationOp) (a : Option Nat) (o : Origins) : (s.place op a o).now = s.now := rfl
@[simp] theorem State.place_lane (op : StationOp) (a : Option Nat) (o : Origins) : (s.place op a o).lane = s.lane := rfl
@[simp] theorem State.place_slots (op : StationOp) (a : Option Nat) (o : Origins) : (s.place op a o).slots = s.slots := rfl
@[simp] theorem State.place_store (op : StationOp) (a : Option Nat) (o : Origins) : (s.place op a o).store = s.store := rfl
@[simp] theorem State.place_queue (op : StationOp) (a : Option Nat) (o : Origins) : (s.place op a o).queue = s.queue := rfl
@[simp] theorem State.place_holds (op : StationOp) (a : Option Nat) (o : Origins) : (s.place op a o).holds = s.holds := rfl
@[simp] theorem State.place_wetEdge (op : StationOp) (a : Option Nat) (o : Origins) : (s.place op a o).wetEdge = s.wetEdge := rfl
@[simp] theorem State.place_pass (op : StationOp) (a : Option Nat) (o : Origins) : (s.place op a o).pass = s.pass := rfl
@[simp] theorem State.place_driveEnable (op : StationOp) (a : Option Nat) (o : Origins) : (s.place op a o).driveEnable = s.driveEnable := rfl
@[simp] theorem State.place_accounts (op : StationOp) (a : Option Nat) (o : Origins) : (s.place op a o).accounts = s.accounts := rfl
@[simp] theorem State.place_supply (op : StationOp) (a : Option Nat) (o : Origins) : (s.place op a o).supply = s.supply := rfl
@[simp] theorem State.place_carts (op : StationOp) (a : Option Nat) (o : Origins) : (s.place op a o).carts = s.carts := rfl
@[simp] theorem State.place_lamps (op : StationOp) (a : Option Nat) (o : Origins) : (s.place op a o).lamps = s.lamps := rfl
@[simp] theorem State.place_maps (op : StationOp) (a : Option Nat) (o : Origins) : (s.place op a o).maps = s.maps := rfl
@[simp] theorem State.place_feed (op : StationOp) (a : Option Nat) (o : Origins) : (s.place op a o).feed = s.feed := rfl
@[simp] theorem State.place_scan (op : StationOp) (a : Option Nat) (o : Origins) : (s.place op a o).scan = s.scan := rfl
@[simp] theorem State.place_inputs (op : StationOp) (a : Option Nat) (o : Origins) : (s.place op a o).inputs = s.inputs := rfl
@[simp] theorem State.place_stop (op : StationOp) (a : Option Nat) (o : Origins) : (s.place op a o).stop = s.stop := rfl
@[simp] theorem State.place_tables (op : StationOp) (a : Option Nat) (o : Origins) : (s.place op a o).tables = s.tables := rfl
@[simp] theorem State.place_out (op : StationOp) (a : Option Nat) (o : Origins) : (s.place op a o).out = s.out := rfl
@[simp] theorem State.place_freeCount (op : StationOp) (a : Option Nat) (o : Origins) : (s.place op a o).freeCount = s.freeCount := rfl
@[simp] theorem State.place_pending (op : StationOp) (a : Option Nat) (o : Origins) : (s.place op a o).pending = s.pending := rfl

@[simp] theorem State.withdraw_now (p : StationOp → Bool) : (s.withdraw p).now = s.now := rfl
@[simp] theorem State.withdraw_lane (p : StationOp → Bool) : (s.withdraw p).lane = s.lane := rfl
@[simp] theorem State.withdraw_slots (p : StationOp → Bool) : (s.withdraw p).slots = s.slots := rfl
@[simp] theorem State.withdraw_store (p : StationOp → Bool) : (s.withdraw p).store = s.store := rfl
@[simp] theorem State.withdraw_queue (p : StationOp → Bool) : (s.withdraw p).queue = s.queue := rfl
@[simp] theorem State.withdraw_holds (p : StationOp → Bool) : (s.withdraw p).holds = s.holds := rfl
@[simp] theorem State.withdraw_wetEdge (p : StationOp → Bool) : (s.withdraw p).wetEdge = s.wetEdge := rfl
@[simp] theorem State.withdraw_pass (p : StationOp → Bool) : (s.withdraw p).pass = s.pass := rfl
@[simp] theorem State.withdraw_driveEnable (p : StationOp → Bool) : (s.withdraw p).driveEnable = s.driveEnable := rfl
@[simp] theorem State.withdraw_accounts (p : StationOp → Bool) : (s.withdraw p).accounts = s.accounts := rfl
@[simp] theorem State.withdraw_supply (p : StationOp → Bool) : (s.withdraw p).supply = s.supply := rfl
@[simp] theorem State.withdraw_carts (p : StationOp → Bool) : (s.withdraw p).carts = s.carts := rfl
@[simp] theorem State.withdraw_lamps (p : StationOp → Bool) : (s.withdraw p).lamps = s.lamps := rfl
@[simp] theorem State.withdraw_maps (p : StationOp → Bool) : (s.withdraw p).maps = s.maps := rfl
@[simp] theorem State.withdraw_feed (p : StationOp → Bool) : (s.withdraw p).feed = s.feed := rfl
@[simp] theorem State.withdraw_scan (p : StationOp → Bool) : (s.withdraw p).scan = s.scan := rfl
@[simp] theorem State.withdraw_inputs (p : StationOp → Bool) : (s.withdraw p).inputs = s.inputs := rfl
@[simp] theorem State.withdraw_stop (p : StationOp → Bool) : (s.withdraw p).stop = s.stop := rfl
@[simp] theorem State.withdraw_tables (p : StationOp → Bool) : (s.withdraw p).tables = s.tables := rfl
@[simp] theorem State.withdraw_out (p : StationOp → Bool) : (s.withdraw p).out = s.out := rfl
@[simp] theorem State.withdraw_freeCount (p : StationOp → Bool) : (s.withdraw p).freeCount = s.freeCount := rfl
@[simp] theorem State.withdraw_pending (p : StationOp → Bool) : (s.withdraw p).pending = s.pending := rfl

@[simp] theorem State.freeCarriage_now : (s.freeCarriage).now = s.now := rfl
@[simp] theorem State.freeCarriage_lane : (s.freeCarriage).lane = s.lane := rfl
@[simp] theorem State.freeCarriage_slots : (s.freeCarriage).slots = s.slots := rfl
@[simp] theorem State.freeCarriage_store : (s.freeCarriage).store = s.store := rfl
@[simp] theorem State.freeCarriage_queue : (s.freeCarriage).queue = s.queue := rfl
@[simp] theorem State.freeCarriage_holds : (s.freeCarriage).holds = s.holds := rfl
@[simp] theorem State.freeCarriage_wetEdge : (s.freeCarriage).wetEdge = s.wetEdge := rfl
@[simp] theorem State.freeCarriage_pass : (s.freeCarriage).pass = s.pass := rfl
@[simp] theorem State.freeCarriage_driveEnable : (s.freeCarriage).driveEnable = s.driveEnable := rfl
@[simp] theorem State.freeCarriage_accounts : (s.freeCarriage).accounts = s.accounts := rfl
@[simp] theorem State.freeCarriage_supply : (s.freeCarriage).supply = s.supply := rfl
@[simp] theorem State.freeCarriage_carts : (s.freeCarriage).carts = s.carts := rfl
@[simp] theorem State.freeCarriage_lamps : (s.freeCarriage).lamps = s.lamps := rfl
@[simp] theorem State.freeCarriage_maps : (s.freeCarriage).maps = s.maps := rfl
@[simp] theorem State.freeCarriage_feed : (s.freeCarriage).feed = s.feed := rfl
@[simp] theorem State.freeCarriage_scan : (s.freeCarriage).scan = s.scan := rfl
@[simp] theorem State.freeCarriage_inputs : (s.freeCarriage).inputs = s.inputs := rfl
@[simp] theorem State.freeCarriage_stop : (s.freeCarriage).stop = s.stop := rfl
@[simp] theorem State.freeCarriage_tables : (s.freeCarriage).tables = s.tables := rfl
@[simp] theorem State.freeCarriage_out : (s.freeCarriage).out = s.out := rfl
@[simp] theorem State.freeCarriage_freeCount : (s.freeCarriage).freeCount = s.freeCount := rfl
@[simp] theorem State.freeCarriage_pending : (s.freeCarriage).pending = s.pending := rfl

@[simp] theorem State.undock_now : (s.undock).now = s.now := rfl
@[simp] theorem State.undock_lane : (s.undock).lane = s.lane := rfl
@[simp] theorem State.undock_slots : (s.undock).slots = s.slots := rfl
@[simp] theorem State.undock_store : (s.undock).store = s.store := rfl
@[simp] theorem State.undock_queue : (s.undock).queue = s.queue := rfl
@[simp] theorem State.undock_holds : (s.undock).holds = s.holds := rfl
@[simp] theorem State.undock_wetEdge : (s.undock).wetEdge = s.wetEdge := rfl
@[simp] theorem State.undock_pass : (s.undock).pass = s.pass := rfl
@[simp] theorem State.undock_driveEnable : (s.undock).driveEnable = s.driveEnable := rfl
@[simp] theorem State.undock_accounts : (s.undock).accounts = s.accounts := rfl
@[simp] theorem State.undock_supply : (s.undock).supply = s.supply := rfl
@[simp] theorem State.undock_carts : (s.undock).carts = s.carts := rfl
@[simp] theorem State.undock_lamps : (s.undock).lamps = s.lamps := rfl
@[simp] theorem State.undock_maps : (s.undock).maps = s.maps := rfl
@[simp] theorem State.undock_feed : (s.undock).feed = s.feed := rfl
@[simp] theorem State.undock_scan : (s.undock).scan = s.scan := rfl
@[simp] theorem State.undock_inputs : (s.undock).inputs = s.inputs := rfl
@[simp] theorem State.undock_stop : (s.undock).stop = s.stop := rfl
@[simp] theorem State.undock_tables : (s.undock).tables = s.tables := rfl
@[simp] theorem State.undock_out : (s.undock).out = s.out := rfl
@[simp] theorem State.undock_freeCount : (s.undock).freeCount = s.freeCount := rfl
@[simp] theorem State.undock_pending : (s.undock).pending = s.pending := rfl

@[simp] theorem State.stamp_now (v : Vector GroupSet 6) : (s.stamp v).now = s.now := rfl
@[simp] theorem State.stamp_lane (v : Vector GroupSet 6) : (s.stamp v).lane = s.lane := rfl
@[simp] theorem State.stamp_slots (v : Vector GroupSet 6) : (s.stamp v).slots = s.slots := rfl
@[simp] theorem State.stamp_store (v : Vector GroupSet 6) : (s.stamp v).store = s.store := rfl
@[simp] theorem State.stamp_queue (v : Vector GroupSet 6) : (s.stamp v).queue = s.queue := rfl
@[simp] theorem State.stamp_holds (v : Vector GroupSet 6) : (s.stamp v).holds = s.holds := rfl
@[simp] theorem State.stamp_wetEdge (v : Vector GroupSet 6) : (s.stamp v).wetEdge = s.wetEdge := rfl
@[simp] theorem State.stamp_pass (v : Vector GroupSet 6) : (s.stamp v).pass = s.pass := rfl
@[simp] theorem State.stamp_driveEnable (v : Vector GroupSet 6) : (s.stamp v).driveEnable = s.driveEnable := rfl
@[simp] theorem State.stamp_accounts (v : Vector GroupSet 6) : (s.stamp v).accounts = s.accounts := rfl
@[simp] theorem State.stamp_supply (v : Vector GroupSet 6) : (s.stamp v).supply = s.supply := rfl
@[simp] theorem State.stamp_carts (v : Vector GroupSet 6) : (s.stamp v).carts = s.carts := rfl
@[simp] theorem State.stamp_lamps (v : Vector GroupSet 6) : (s.stamp v).lamps = s.lamps := rfl
@[simp] theorem State.stamp_maps (v : Vector GroupSet 6) : (s.stamp v).maps = s.maps := rfl
@[simp] theorem State.stamp_feed (v : Vector GroupSet 6) : (s.stamp v).feed = s.feed := rfl
@[simp] theorem State.stamp_scan (v : Vector GroupSet 6) : (s.stamp v).scan = s.scan := rfl
@[simp] theorem State.stamp_inputs (v : Vector GroupSet 6) : (s.stamp v).inputs = s.inputs := rfl
@[simp] theorem State.stamp_stop (v : Vector GroupSet 6) : (s.stamp v).stop = s.stop := rfl
@[simp] theorem State.stamp_tables (v : Vector GroupSet 6) : (s.stamp v).tables = s.tables := rfl
@[simp] theorem State.stamp_out (v : Vector GroupSet 6) : (s.stamp v).out = s.out := rfl
@[simp] theorem State.stamp_freeCount (v : Vector GroupSet 6) : (s.stamp v).freeCount = s.freeCount := rfl
@[simp] theorem State.stamp_pending (v : Vector GroupSet 6) : (s.stamp v).pending = s.pending := rfl

@[simp] theorem State.uncap_now : (s.uncap).now = s.now := rfl
@[simp] theorem State.uncap_lane : (s.uncap).lane = s.lane := rfl
@[simp] theorem State.uncap_slots : (s.uncap).slots = s.slots := rfl
@[simp] theorem State.uncap_store : (s.uncap).store = s.store := rfl
@[simp] theorem State.uncap_queue : (s.uncap).queue = s.queue := rfl
@[simp] theorem State.uncap_holds : (s.uncap).holds = s.holds := rfl
@[simp] theorem State.uncap_wetEdge : (s.uncap).wetEdge = s.wetEdge := rfl
@[simp] theorem State.uncap_pass : (s.uncap).pass = s.pass := rfl
@[simp] theorem State.uncap_driveEnable : (s.uncap).driveEnable = s.driveEnable := rfl
@[simp] theorem State.uncap_accounts : (s.uncap).accounts = s.accounts := rfl
@[simp] theorem State.uncap_supply : (s.uncap).supply = s.supply := rfl
@[simp] theorem State.uncap_carts : (s.uncap).carts = s.carts := rfl
@[simp] theorem State.uncap_lamps : (s.uncap).lamps = s.lamps := rfl
@[simp] theorem State.uncap_maps : (s.uncap).maps = s.maps := rfl
@[simp] theorem State.uncap_feed : (s.uncap).feed = s.feed := rfl
@[simp] theorem State.uncap_scan : (s.uncap).scan = s.scan := rfl
@[simp] theorem State.uncap_inputs : (s.uncap).inputs = s.inputs := rfl
@[simp] theorem State.uncap_stop : (s.uncap).stop = s.stop := rfl
@[simp] theorem State.uncap_tables : (s.uncap).tables = s.tables := rfl
@[simp] theorem State.uncap_out : (s.uncap).out = s.out := rfl
@[simp] theorem State.uncap_freeCount : (s.uncap).freeCount = s.freeCount := rfl
@[simp] theorem State.uncap_pending : (s.uncap).pending = s.pending := rfl

@[simp] theorem State.wiped_now (h : Head) : (s.wiped h).now = s.now := rfl
@[simp] theorem State.wiped_lane (h : Head) : (s.wiped h).lane = s.lane := rfl
@[simp] theorem State.wiped_slots (h : Head) : (s.wiped h).slots = s.slots := rfl
@[simp] theorem State.wiped_store (h : Head) : (s.wiped h).store = s.store := rfl
@[simp] theorem State.wiped_queue (h : Head) : (s.wiped h).queue = s.queue := rfl
@[simp] theorem State.wiped_holds (h : Head) : (s.wiped h).holds = s.holds := rfl
@[simp] theorem State.wiped_wetEdge (h : Head) : (s.wiped h).wetEdge = s.wetEdge := rfl
@[simp] theorem State.wiped_pass (h : Head) : (s.wiped h).pass = s.pass := rfl
@[simp] theorem State.wiped_driveEnable (h : Head) : (s.wiped h).driveEnable = s.driveEnable := rfl
@[simp] theorem State.wiped_accounts (h : Head) : (s.wiped h).accounts = s.accounts := rfl
@[simp] theorem State.wiped_supply (h : Head) : (s.wiped h).supply = s.supply := rfl
@[simp] theorem State.wiped_carts (h : Head) : (s.wiped h).carts = s.carts := rfl
@[simp] theorem State.wiped_lamps (h : Head) : (s.wiped h).lamps = s.lamps := rfl
@[simp] theorem State.wiped_maps (h : Head) : (s.wiped h).maps = s.maps := rfl
@[simp] theorem State.wiped_feed (h : Head) : (s.wiped h).feed = s.feed := rfl
@[simp] theorem State.wiped_scan (h : Head) : (s.wiped h).scan = s.scan := rfl
@[simp] theorem State.wiped_inputs (h : Head) : (s.wiped h).inputs = s.inputs := rfl
@[simp] theorem State.wiped_stop (h : Head) : (s.wiped h).stop = s.stop := rfl
@[simp] theorem State.wiped_tables (h : Head) : (s.wiped h).tables = s.tables := rfl
@[simp] theorem State.wiped_out (h : Head) : (s.wiped h).out = s.out := rfl
@[simp] theorem State.wiped_freeCount (h : Head) : (s.wiped h).freeCount = s.freeCount := rfl
@[simp] theorem State.wiped_pending (h : Head) : (s.wiped h).pending = s.pending := rfl

@[simp] theorem State.sheetEnds_now : (s.sheetEnds).now = s.now := rfl
@[simp] theorem State.sheetEnds_lane : (s.sheetEnds).lane = s.lane := rfl
@[simp] theorem State.sheetEnds_slots : (s.sheetEnds).slots = s.slots := rfl
@[simp] theorem State.sheetEnds_store : (s.sheetEnds).store = s.store := rfl
@[simp] theorem State.sheetEnds_queue : (s.sheetEnds).queue = s.queue := rfl
@[simp] theorem State.sheetEnds_holds : (s.sheetEnds).holds = s.holds := rfl
@[simp] theorem State.sheetEnds_pass : (s.sheetEnds).pass = s.pass := rfl
@[simp] theorem State.sheetEnds_driveEnable : (s.sheetEnds).driveEnable = s.driveEnable := rfl
@[simp] theorem State.sheetEnds_accounts : (s.sheetEnds).accounts = s.accounts := rfl
@[simp] theorem State.sheetEnds_supply : (s.sheetEnds).supply = s.supply := rfl
@[simp] theorem State.sheetEnds_carts : (s.sheetEnds).carts = s.carts := rfl
@[simp] theorem State.sheetEnds_lamps : (s.sheetEnds).lamps = s.lamps := rfl
@[simp] theorem State.sheetEnds_maps : (s.sheetEnds).maps = s.maps := rfl
@[simp] theorem State.sheetEnds_service : (s.sheetEnds).service = s.service := rfl
@[simp] theorem State.sheetEnds_feed : (s.sheetEnds).feed = s.feed := rfl
@[simp] theorem State.sheetEnds_scan : (s.sheetEnds).scan = s.scan := rfl
@[simp] theorem State.sheetEnds_inputs : (s.sheetEnds).inputs = s.inputs := rfl
@[simp] theorem State.sheetEnds_stop : (s.sheetEnds).stop = s.stop := rfl
@[simp] theorem State.sheetEnds_tables : (s.sheetEnds).tables = s.tables := rfl
@[simp] theorem State.sheetEnds_out : (s.sheetEnds).out = s.out := rfl
@[simp] theorem State.sheetEnds_freeCount : (s.sheetEnds).freeCount = s.freeCount := rfl
@[simp] theorem State.sheetEnds_pending : (s.sheetEnds).pending = s.pending := rfl

@[simp] theorem State.driveFeed_now (c : FeedCmd) : (s.driveFeed c).now = s.now := rfl
@[simp] theorem State.driveFeed_lane (c : FeedCmd) : (s.driveFeed c).lane = s.lane := rfl
@[simp] theorem State.driveFeed_slots (c : FeedCmd) : (s.driveFeed c).slots = s.slots := rfl
@[simp] theorem State.driveFeed_store (c : FeedCmd) : (s.driveFeed c).store = s.store := rfl
@[simp] theorem State.driveFeed_queue (c : FeedCmd) : (s.driveFeed c).queue = s.queue := rfl
@[simp] theorem State.driveFeed_holds (c : FeedCmd) : (s.driveFeed c).holds = s.holds := rfl
@[simp] theorem State.driveFeed_wetEdge (c : FeedCmd) : (s.driveFeed c).wetEdge = s.wetEdge := rfl
@[simp] theorem State.driveFeed_pass (c : FeedCmd) : (s.driveFeed c).pass = s.pass := rfl
@[simp] theorem State.driveFeed_driveEnable (c : FeedCmd) : (s.driveFeed c).driveEnable = s.driveEnable := rfl
@[simp] theorem State.driveFeed_accounts (c : FeedCmd) : (s.driveFeed c).accounts = s.accounts := rfl
@[simp] theorem State.driveFeed_supply (c : FeedCmd) : (s.driveFeed c).supply = s.supply := rfl
@[simp] theorem State.driveFeed_carts (c : FeedCmd) : (s.driveFeed c).carts = s.carts := rfl
@[simp] theorem State.driveFeed_lamps (c : FeedCmd) : (s.driveFeed c).lamps = s.lamps := rfl
@[simp] theorem State.driveFeed_maps (c : FeedCmd) : (s.driveFeed c).maps = s.maps := rfl
@[simp] theorem State.driveFeed_service (c : FeedCmd) : (s.driveFeed c).service = s.service := rfl
@[simp] theorem State.driveFeed_feed (c : FeedCmd) : (s.driveFeed c).feed = s.feed := rfl
@[simp] theorem State.driveFeed_scan (c : FeedCmd) : (s.driveFeed c).scan = s.scan := rfl
@[simp] theorem State.driveFeed_inputs (c : FeedCmd) : (s.driveFeed c).inputs = s.inputs := rfl
@[simp] theorem State.driveFeed_stop (c : FeedCmd) : (s.driveFeed c).stop = s.stop := rfl
@[simp] theorem State.driveFeed_tables (c : FeedCmd) : (s.driveFeed c).tables = s.tables := rfl
@[simp] theorem State.driveFeed_freeCount (c : FeedCmd) : (s.driveFeed c).freeCount = s.freeCount := rfl
@[simp] theorem State.driveFeed_pending (c : FeedCmd) : (s.driveFeed c).pending = s.pending := rfl

@[simp] theorem State.driveCutter_now (c : CutterCmd) : (s.driveCutter c).now = s.now := rfl
@[simp] theorem State.driveCutter_lane (c : CutterCmd) : (s.driveCutter c).lane = s.lane := rfl
@[simp] theorem State.driveCutter_slots (c : CutterCmd) : (s.driveCutter c).slots = s.slots := rfl
@[simp] theorem State.driveCutter_store (c : CutterCmd) : (s.driveCutter c).store = s.store := rfl
@[simp] theorem State.driveCutter_queue (c : CutterCmd) : (s.driveCutter c).queue = s.queue := rfl
@[simp] theorem State.driveCutter_holds (c : CutterCmd) : (s.driveCutter c).holds = s.holds := rfl
@[simp] theorem State.driveCutter_wetEdge (c : CutterCmd) : (s.driveCutter c).wetEdge = s.wetEdge := rfl
@[simp] theorem State.driveCutter_pass (c : CutterCmd) : (s.driveCutter c).pass = s.pass := rfl
@[simp] theorem State.driveCutter_driveEnable (c : CutterCmd) : (s.driveCutter c).driveEnable = s.driveEnable := rfl
@[simp] theorem State.driveCutter_accounts (c : CutterCmd) : (s.driveCutter c).accounts = s.accounts := rfl
@[simp] theorem State.driveCutter_supply (c : CutterCmd) : (s.driveCutter c).supply = s.supply := rfl
@[simp] theorem State.driveCutter_carts (c : CutterCmd) : (s.driveCutter c).carts = s.carts := rfl
@[simp] theorem State.driveCutter_lamps (c : CutterCmd) : (s.driveCutter c).lamps = s.lamps := rfl
@[simp] theorem State.driveCutter_maps (c : CutterCmd) : (s.driveCutter c).maps = s.maps := rfl
@[simp] theorem State.driveCutter_service (c : CutterCmd) : (s.driveCutter c).service = s.service := rfl
@[simp] theorem State.driveCutter_feed (c : CutterCmd) : (s.driveCutter c).feed = s.feed := rfl
@[simp] theorem State.driveCutter_scan (c : CutterCmd) : (s.driveCutter c).scan = s.scan := rfl
@[simp] theorem State.driveCutter_inputs (c : CutterCmd) : (s.driveCutter c).inputs = s.inputs := rfl
@[simp] theorem State.driveCutter_stop (c : CutterCmd) : (s.driveCutter c).stop = s.stop := rfl
@[simp] theorem State.driveCutter_tables (c : CutterCmd) : (s.driveCutter c).tables = s.tables := rfl
@[simp] theorem State.driveCutter_freeCount (c : CutterCmd) : (s.driveCutter c).freeCount = s.freeCount := rfl
@[simp] theorem State.driveCutter_pending (c : CutterCmd) : (s.driveCutter c).pending = s.pending := rfl

@[simp] theorem State.stopStation_now : (s.stopStation).now = s.now := rfl
@[simp] theorem State.stopStation_lane : (s.stopStation).lane = s.lane := rfl
@[simp] theorem State.stopStation_slots : (s.stopStation).slots = s.slots := rfl
@[simp] theorem State.stopStation_store : (s.stopStation).store = s.store := rfl
@[simp] theorem State.stopStation_queue : (s.stopStation).queue = s.queue := rfl
@[simp] theorem State.stopStation_holds : (s.stopStation).holds = s.holds := rfl
@[simp] theorem State.stopStation_wetEdge : (s.stopStation).wetEdge = s.wetEdge := rfl
@[simp] theorem State.stopStation_pass : (s.stopStation).pass = s.pass := rfl
@[simp] theorem State.stopStation_driveEnable : (s.stopStation).driveEnable = s.driveEnable := rfl
@[simp] theorem State.stopStation_accounts : (s.stopStation).accounts = s.accounts := rfl
@[simp] theorem State.stopStation_supply : (s.stopStation).supply = s.supply := rfl
@[simp] theorem State.stopStation_carts : (s.stopStation).carts = s.carts := rfl
@[simp] theorem State.stopStation_lamps : (s.stopStation).lamps = s.lamps := rfl
@[simp] theorem State.stopStation_maps : (s.stopStation).maps = s.maps := rfl
@[simp] theorem State.stopStation_service : (s.stopStation).service = s.service := rfl
@[simp] theorem State.stopStation_feed : (s.stopStation).feed = s.feed := rfl
@[simp] theorem State.stopStation_scan : (s.stopStation).scan = s.scan := rfl
@[simp] theorem State.stopStation_inputs : (s.stopStation).inputs = s.inputs := rfl
@[simp] theorem State.stopStation_stop : (s.stopStation).stop = s.stop := rfl
@[simp] theorem State.stopStation_tables : (s.stopStation).tables = s.tables := rfl
@[simp] theorem State.stopStation_freeCount : (s.stopStation).freeCount = s.freeCount := rfl
@[simp] theorem State.stopStation_pending : (s.stopStation).pending = s.pending := rfl

@[simp] theorem State.formDeduction_now (c : Channel) (n : Nat) : (s.formDeduction c n).now = s.now := rfl
@[simp] theorem State.formDeduction_lane (c : Channel) (n : Nat) : (s.formDeduction c n).lane = s.lane := rfl
@[simp] theorem State.formDeduction_slots (c : Channel) (n : Nat) : (s.formDeduction c n).slots = s.slots := rfl
@[simp] theorem State.formDeduction_store (c : Channel) (n : Nat) : (s.formDeduction c n).store = s.store := rfl
@[simp] theorem State.formDeduction_queue (c : Channel) (n : Nat) : (s.formDeduction c n).queue = s.queue := rfl
@[simp] theorem State.formDeduction_holds (c : Channel) (n : Nat) : (s.formDeduction c n).holds = s.holds := rfl
@[simp] theorem State.formDeduction_wetEdge (c : Channel) (n : Nat) : (s.formDeduction c n).wetEdge = s.wetEdge := rfl
@[simp] theorem State.formDeduction_pass (c : Channel) (n : Nat) : (s.formDeduction c n).pass = s.pass := rfl
@[simp] theorem State.formDeduction_driveEnable (c : Channel) (n : Nat) : (s.formDeduction c n).driveEnable = s.driveEnable := rfl
@[simp] theorem State.formDeduction_accounts (c : Channel) (n : Nat) : (s.formDeduction c n).accounts = s.accounts := rfl
@[simp] theorem State.formDeduction_supply (c : Channel) (n : Nat) : (s.formDeduction c n).supply = s.supply := rfl
@[simp] theorem State.formDeduction_lamps (c : Channel) (n : Nat) : (s.formDeduction c n).lamps = s.lamps := rfl
@[simp] theorem State.formDeduction_maps (c : Channel) (n : Nat) : (s.formDeduction c n).maps = s.maps := rfl
@[simp] theorem State.formDeduction_service (c : Channel) (n : Nat) : (s.formDeduction c n).service = s.service := rfl
@[simp] theorem State.formDeduction_feed (c : Channel) (n : Nat) : (s.formDeduction c n).feed = s.feed := rfl
@[simp] theorem State.formDeduction_scan (c : Channel) (n : Nat) : (s.formDeduction c n).scan = s.scan := rfl
@[simp] theorem State.formDeduction_inputs (c : Channel) (n : Nat) : (s.formDeduction c n).inputs = s.inputs := rfl
@[simp] theorem State.formDeduction_stop (c : Channel) (n : Nat) : (s.formDeduction c n).stop = s.stop := rfl
@[simp] theorem State.formDeduction_tables (c : Channel) (n : Nat) : (s.formDeduction c n).tables = s.tables := rfl
@[simp] theorem State.formDeduction_out (c : Channel) (n : Nat) : (s.formDeduction c n).out = s.out := rfl
@[simp] theorem State.formDeduction_freeCount (c : Channel) (n : Nat) : (s.formDeduction c n).freeCount = s.freeCount := rfl
@[simp] theorem State.formDeduction_pending (c : Channel) (n : Nat) : (s.formDeduction c n).pending = s.pending := rfl

@[simp] theorem State.setNext_now (b : Bank) : (s.setNext b).now = s.now := rfl
@[simp] theorem State.setNext_lane (b : Bank) : (s.setNext b).lane = s.lane := rfl
@[simp] theorem State.setNext_slots (b : Bank) : (s.setNext b).slots = s.slots := rfl
@[simp] theorem State.setNext_store (b : Bank) : (s.setNext b).store = s.store := rfl
@[simp] theorem State.setNext_queue (b : Bank) : (s.setNext b).queue = s.queue := rfl
@[simp] theorem State.setNext_holds (b : Bank) : (s.setNext b).holds = s.holds := rfl
@[simp] theorem State.setNext_wetEdge (b : Bank) : (s.setNext b).wetEdge = s.wetEdge := rfl
@[simp] theorem State.setNext_pass (b : Bank) : (s.setNext b).pass = s.pass := rfl
@[simp] theorem State.setNext_driveEnable (b : Bank) : (s.setNext b).driveEnable = s.driveEnable := rfl
@[simp] theorem State.setNext_accounts (b : Bank) : (s.setNext b).accounts = s.accounts := rfl
@[simp] theorem State.setNext_supply (b : Bank) : (s.setNext b).supply = s.supply := rfl
@[simp] theorem State.setNext_carts (b : Bank) : (s.setNext b).carts = s.carts := rfl
@[simp] theorem State.setNext_lamps (b : Bank) : (s.setNext b).lamps = s.lamps := rfl
@[simp] theorem State.setNext_service (b : Bank) : (s.setNext b).service = s.service := rfl
@[simp] theorem State.setNext_feed (b : Bank) : (s.setNext b).feed = s.feed := rfl
@[simp] theorem State.setNext_scan (b : Bank) : (s.setNext b).scan = s.scan := rfl
@[simp] theorem State.setNext_inputs (b : Bank) : (s.setNext b).inputs = s.inputs := rfl
@[simp] theorem State.setNext_stop (b : Bank) : (s.setNext b).stop = s.stop := rfl
@[simp] theorem State.setNext_tables (b : Bank) : (s.setNext b).tables = s.tables := rfl
@[simp] theorem State.setNext_out (b : Bank) : (s.setNext b).out = s.out := rfl
@[simp] theorem State.setNext_freeCount (b : Bank) : (s.setNext b).freeCount = s.freeCount := rfl
@[simp] theorem State.setNext_pending (b : Bank) : (s.setNext b).pending = s.pending := rfl

@[simp] theorem State.recordNeed_now (c : Channel) (n : Need) : (s.recordNeed c n).now = s.now := rfl
@[simp] theorem State.recordNeed_lane (c : Channel) (n : Need) : (s.recordNeed c n).lane = s.lane := rfl
@[simp] theorem State.recordNeed_slots (c : Channel) (n : Need) : (s.recordNeed c n).slots = s.slots := rfl
@[simp] theorem State.recordNeed_store (c : Channel) (n : Need) : (s.recordNeed c n).store = s.store := rfl
@[simp] theorem State.recordNeed_queue (c : Channel) (n : Need) : (s.recordNeed c n).queue = s.queue := rfl
@[simp] theorem State.recordNeed_holds (c : Channel) (n : Need) : (s.recordNeed c n).holds = s.holds := rfl
@[simp] theorem State.recordNeed_wetEdge (c : Channel) (n : Need) : (s.recordNeed c n).wetEdge = s.wetEdge := rfl
@[simp] theorem State.recordNeed_pass (c : Channel) (n : Need) : (s.recordNeed c n).pass = s.pass := rfl
@[simp] theorem State.recordNeed_driveEnable (c : Channel) (n : Need) : (s.recordNeed c n).driveEnable = s.driveEnable := rfl
@[simp] theorem State.recordNeed_accounts (c : Channel) (n : Need) : (s.recordNeed c n).accounts = s.accounts := rfl
@[simp] theorem State.recordNeed_carts (c : Channel) (n : Need) : (s.recordNeed c n).carts = s.carts := rfl
@[simp] theorem State.recordNeed_lamps (c : Channel) (n : Need) : (s.recordNeed c n).lamps = s.lamps := rfl
@[simp] theorem State.recordNeed_maps (c : Channel) (n : Need) : (s.recordNeed c n).maps = s.maps := rfl
@[simp] theorem State.recordNeed_service (c : Channel) (n : Need) : (s.recordNeed c n).service = s.service := rfl
@[simp] theorem State.recordNeed_feed (c : Channel) (n : Need) : (s.recordNeed c n).feed = s.feed := rfl
@[simp] theorem State.recordNeed_scan (c : Channel) (n : Need) : (s.recordNeed c n).scan = s.scan := rfl
@[simp] theorem State.recordNeed_inputs (c : Channel) (n : Need) : (s.recordNeed c n).inputs = s.inputs := rfl
@[simp] theorem State.recordNeed_stop (c : Channel) (n : Need) : (s.recordNeed c n).stop = s.stop := rfl
@[simp] theorem State.recordNeed_tables (c : Channel) (n : Need) : (s.recordNeed c n).tables = s.tables := rfl
@[simp] theorem State.recordNeed_out (c : Channel) (n : Need) : (s.recordNeed c n).out = s.out := rfl
@[simp] theorem State.recordNeed_freeCount (c : Channel) (n : Need) : (s.recordNeed c n).freeCount = s.freeCount := rfl
@[simp] theorem State.recordNeed_pending (c : Channel) (n : Need) : (s.recordNeed c n).pending = s.pending := rfl

@[simp] theorem State.sendDeductions_now : (s.sendDeductions).now = s.now := rfl
@[simp] theorem State.sendDeductions_lane : (s.sendDeductions).lane = s.lane := rfl
@[simp] theorem State.sendDeductions_slots : (s.sendDeductions).slots = s.slots := rfl
@[simp] theorem State.sendDeductions_store : (s.sendDeductions).store = s.store := rfl
@[simp] theorem State.sendDeductions_queue : (s.sendDeductions).queue = s.queue := rfl
@[simp] theorem State.sendDeductions_holds : (s.sendDeductions).holds = s.holds := rfl
@[simp] theorem State.sendDeductions_wetEdge : (s.sendDeductions).wetEdge = s.wetEdge := rfl
@[simp] theorem State.sendDeductions_pass : (s.sendDeductions).pass = s.pass := rfl
@[simp] theorem State.sendDeductions_driveEnable : (s.sendDeductions).driveEnable = s.driveEnable := rfl
@[simp] theorem State.sendDeductions_accounts : (s.sendDeductions).accounts = s.accounts := rfl
@[simp] theorem State.sendDeductions_supply : (s.sendDeductions).supply = s.supply := rfl
@[simp] theorem State.sendDeductions_lamps : (s.sendDeductions).lamps = s.lamps := rfl
@[simp] theorem State.sendDeductions_maps : (s.sendDeductions).maps = s.maps := rfl
@[simp] theorem State.sendDeductions_service : (s.sendDeductions).service = s.service := rfl
@[simp] theorem State.sendDeductions_feed : (s.sendDeductions).feed = s.feed := rfl
@[simp] theorem State.sendDeductions_scan : (s.sendDeductions).scan = s.scan := rfl
@[simp] theorem State.sendDeductions_inputs : (s.sendDeductions).inputs = s.inputs := rfl
@[simp] theorem State.sendDeductions_stop : (s.sendDeductions).stop = s.stop := rfl
@[simp] theorem State.sendDeductions_tables : (s.sendDeductions).tables = s.tables := rfl
@[simp] theorem State.sendDeductions_out : (s.sendDeductions).out = s.out := rfl
@[simp] theorem State.sendDeductions_freeCount : (s.sendDeductions).freeCount = s.freeCount := rfl
@[simp] theorem State.sendDeductions_pending : (s.sendDeductions).pending = s.pending := rfl

@[simp] theorem State.reformLamps_now : (s.reformLamps).now = s.now := rfl
@[simp] theorem State.reformLamps_lane : (s.reformLamps).lane = s.lane := rfl
@[simp] theorem State.reformLamps_slots : (s.reformLamps).slots = s.slots := rfl
@[simp] theorem State.reformLamps_store : (s.reformLamps).store = s.store := rfl
@[simp] theorem State.reformLamps_queue : (s.reformLamps).queue = s.queue := rfl
@[simp] theorem State.reformLamps_holds : (s.reformLamps).holds = s.holds := rfl
@[simp] theorem State.reformLamps_wetEdge : (s.reformLamps).wetEdge = s.wetEdge := rfl
@[simp] theorem State.reformLamps_pass : (s.reformLamps).pass = s.pass := rfl
@[simp] theorem State.reformLamps_driveEnable : (s.reformLamps).driveEnable = s.driveEnable := rfl
@[simp] theorem State.reformLamps_accounts : (s.reformLamps).accounts = s.accounts := rfl
@[simp] theorem State.reformLamps_supply : (s.reformLamps).supply = s.supply := rfl
@[simp] theorem State.reformLamps_carts : (s.reformLamps).carts = s.carts := rfl
@[simp] theorem State.reformLamps_maps : (s.reformLamps).maps = s.maps := rfl
@[simp] theorem State.reformLamps_service : (s.reformLamps).service = s.service := rfl
@[simp] theorem State.reformLamps_feed : (s.reformLamps).feed = s.feed := rfl
@[simp] theorem State.reformLamps_scan : (s.reformLamps).scan = s.scan := rfl
@[simp] theorem State.reformLamps_inputs : (s.reformLamps).inputs = s.inputs := rfl
@[simp] theorem State.reformLamps_stop : (s.reformLamps).stop = s.stop := rfl
@[simp] theorem State.reformLamps_tables : (s.reformLamps).tables = s.tables := rfl
@[simp] theorem State.reformLamps_out : (s.reformLamps).out = s.out := rfl
@[simp] theorem State.reformLamps_freeCount : (s.reformLamps).freeCount = s.freeCount := rfl
@[simp] theorem State.reformLamps_pending : (s.reformLamps).pending = s.pending := rfl

@[simp] theorem State.setFaultMark_now (c : Channel) : (s.setFaultMark c).now = s.now := rfl
@[simp] theorem State.setFaultMark_lane (c : Channel) : (s.setFaultMark c).lane = s.lane := rfl
@[simp] theorem State.setFaultMark_slots (c : Channel) : (s.setFaultMark c).slots = s.slots := rfl
@[simp] theorem State.setFaultMark_store (c : Channel) : (s.setFaultMark c).store = s.store := rfl
@[simp] theorem State.setFaultMark_queue (c : Channel) : (s.setFaultMark c).queue = s.queue := rfl
@[simp] theorem State.setFaultMark_holds (c : Channel) : (s.setFaultMark c).holds = s.holds := rfl
@[simp] theorem State.setFaultMark_wetEdge (c : Channel) : (s.setFaultMark c).wetEdge = s.wetEdge := rfl
@[simp] theorem State.setFaultMark_pass (c : Channel) : (s.setFaultMark c).pass = s.pass := rfl
@[simp] theorem State.setFaultMark_driveEnable (c : Channel) : (s.setFaultMark c).driveEnable = s.driveEnable := rfl
@[simp] theorem State.setFaultMark_accounts (c : Channel) : (s.setFaultMark c).accounts = s.accounts := rfl
@[simp] theorem State.setFaultMark_carts (c : Channel) : (s.setFaultMark c).carts = s.carts := rfl
@[simp] theorem State.setFaultMark_lamps (c : Channel) : (s.setFaultMark c).lamps = s.lamps := rfl
@[simp] theorem State.setFaultMark_maps (c : Channel) : (s.setFaultMark c).maps = s.maps := rfl
@[simp] theorem State.setFaultMark_feed (c : Channel) : (s.setFaultMark c).feed = s.feed := rfl
@[simp] theorem State.setFaultMark_scan (c : Channel) : (s.setFaultMark c).scan = s.scan := rfl
@[simp] theorem State.setFaultMark_inputs (c : Channel) : (s.setFaultMark c).inputs = s.inputs := rfl
@[simp] theorem State.setFaultMark_stop (c : Channel) : (s.setFaultMark c).stop = s.stop := rfl
@[simp] theorem State.setFaultMark_tables (c : Channel) : (s.setFaultMark c).tables = s.tables := rfl
@[simp] theorem State.setFaultMark_out (c : Channel) : (s.setFaultMark c).out = s.out := rfl
@[simp] theorem State.setFaultMark_freeCount (c : Channel) : (s.setFaultMark c).freeCount = s.freeCount := rfl
@[simp] theorem State.setFaultMark_pending (c : Channel) : (s.setFaultMark c).pending = s.pending := rfl

@[simp] theorem State.dropLadder_now (p : StationOp → Bool) : (s.dropLadder p).now = s.now := rfl
@[simp] theorem State.dropLadder_lane (p : StationOp → Bool) : (s.dropLadder p).lane = s.lane := rfl
@[simp] theorem State.dropLadder_slots (p : StationOp → Bool) : (s.dropLadder p).slots = s.slots := rfl
@[simp] theorem State.dropLadder_store (p : StationOp → Bool) : (s.dropLadder p).store = s.store := rfl
@[simp] theorem State.dropLadder_queue (p : StationOp → Bool) : (s.dropLadder p).queue = s.queue := rfl
@[simp] theorem State.dropLadder_holds (p : StationOp → Bool) : (s.dropLadder p).holds = s.holds := rfl
@[simp] theorem State.dropLadder_wetEdge (p : StationOp → Bool) : (s.dropLadder p).wetEdge = s.wetEdge := rfl
@[simp] theorem State.dropLadder_pass (p : StationOp → Bool) : (s.dropLadder p).pass = s.pass := rfl
@[simp] theorem State.dropLadder_driveEnable (p : StationOp → Bool) : (s.dropLadder p).driveEnable = s.driveEnable := rfl
@[simp] theorem State.dropLadder_accounts (p : StationOp → Bool) : (s.dropLadder p).accounts = s.accounts := rfl
@[simp] theorem State.dropLadder_supply (p : StationOp → Bool) : (s.dropLadder p).supply = s.supply := rfl
@[simp] theorem State.dropLadder_carts (p : StationOp → Bool) : (s.dropLadder p).carts = s.carts := rfl
@[simp] theorem State.dropLadder_lamps (p : StationOp → Bool) : (s.dropLadder p).lamps = s.lamps := rfl
@[simp] theorem State.dropLadder_maps (p : StationOp → Bool) : (s.dropLadder p).maps = s.maps := rfl
@[simp] theorem State.dropLadder_feed (p : StationOp → Bool) : (s.dropLadder p).feed = s.feed := rfl
@[simp] theorem State.dropLadder_scan (p : StationOp → Bool) : (s.dropLadder p).scan = s.scan := rfl
@[simp] theorem State.dropLadder_inputs (p : StationOp → Bool) : (s.dropLadder p).inputs = s.inputs := rfl
@[simp] theorem State.dropLadder_stop (p : StationOp → Bool) : (s.dropLadder p).stop = s.stop := rfl
@[simp] theorem State.dropLadder_tables (p : StationOp → Bool) : (s.dropLadder p).tables = s.tables := rfl
@[simp] theorem State.dropLadder_out (p : StationOp → Bool) : (s.dropLadder p).out = s.out := rfl
@[simp] theorem State.dropLadder_freeCount (p : StationOp → Bool) : (s.dropLadder p).freeCount = s.freeCount := rfl
@[simp] theorem State.dropLadder_pending (p : StationOp → Bool) : (s.dropLadder p).pending = s.pending := rfl

/-- A table write leaves the operation in flight as it is, or with other spit counts and one more free value taken (R155). -/
theorem State.respit_eq : s.respit = s ∨ ∃ o b v, s.service.holder = .op o ∧ o.running = true ∧ s.respit =
    { s with freeCount := s.freeCount + 1, service := { s.service with holder := .op { o with spat := b, spit := v } } } := by
  unfold State.respit Service.inFlight
  cases h : s.service.holder with
  | op o =>
    simp only
    by_cases hc : (o.running && o.req.op.spits && !o.spat && decide (o.spit ≠ s.tables.spitCounts)) = true
    · rw [if_pos hc]
      simp only [Bool.and_eq_true] at hc
      exact .inr ⟨o, _, _, rfl, hc.1.1.1, rfl⟩
    · rw [if_neg hc]; exact .inl rfl
  | free => exact .inl rfl
  | pass => exact .inl rfl

theorem Feed.stallHeld_of_paused (f : Feed) {m : Motion} (h : m.paused = true) : f.stallHeld m = true := by simp [Feed.stallHeld, h]
theorem Feed.stallHeld_of_not_advance (f : Feed) {m : Motion} (h : m.work.kind ≠ .advance) : f.stallHeld m = m.paused := by
  simp [Feed.stallHeld, h]
@[simp] theorem Motion.hold_work (n : Nat) (b : Bool) (m : Motion) : (m.hold n b).work = m.work := by unfold Motion.hold; split <;> rfl
@[simp] theorem Motion.hold_owner (n : Nat) (b : Bool) (m : Motion) : (m.hold n b).owner = m.owner := by unfold Motion.hold; split <;> rfl
@[simp] theorem Motion.hold_paused (n : Nat) (b : Bool) (m : Motion) : (m.hold n b).paused = m.paused := by
  unfold Motion.hold; split <;> rfl
@[simp] theorem Motion.hold_count (n : Nat) (b : Bool) (m : Motion) : (m.hold n b).count = m.count := by unfold Motion.hold; split <;> rfl
@[simp] theorem Motion.hold_inBandSince (n : Nat) (b : Bool) (m : Motion) : (m.hold n b).inBandSince = m.inBandSince := by
  unfold Motion.hold; split <;> rfl
@[simp] theorem Motion.hold_heldAt (n : Nat) (b : Bool) (m : Motion) : (m.hold n b).heldAt.isSome = b := by
  cases b <;> rfl

theorem State.raise_lane (e : Event) : (s.raise e).lane = s.lane.raise s.now e := rfl
theorem State.raiseCondition_lane (r : CondRaise) : (s.raiseCondition r).lane = s.lane.raiseCondition s.now r := rfl
theorem State.place_service (op : StationOp) (a : Option Nat) (o : Origins) :
    (s.place op a o).service = { s.service with pending := addRequest ⟨op, a, o⟩ s.service.pending } := rfl

end Sys2Proof.Machine
end

