-- ==== Sys2Proof/Laws/Follows.lean ====
section
/-!
SUPPORT. What follows within a step leaves the rest as it is: State.finish gives a state that Follows.
-/

namespace Sys2Proof.Machine

/-! ## Requests -/

theorem Origins.union_self (o : Origins) : o.union o = o := by
  cases o; simp [Origins.union]

theorem Origins.union_absorb_left (a b : Origins) : (a.union b).union a = a.union b := by
  cases a; cases b; simp only [Origins.union, Origins.mk.injEq]; refine ⟨?_, ?_, ?_, ?_, ?_, ?_⟩ <;> simp [Bool.or_comm]

theorem Origins.union_absorb_right (a b : Origins) : (a.union b).union b = a.union b := by
  cases a; cases b; simp [Origins.union]

theorem Origins.absorb_trans {a b c : Origins} (h : a.union b = a) (k : b.union c = b) : a.union c = a := by
  rw [← h, ← k]; cases a; cases b; cases c; simp [Origins.union, Bool.or_assoc]

theorem channelUnion_self (a : ChannelSet) : channelUnion a a = a := by
  ext i hi; simp [channelUnion]

theorem channelUnion_absorb_left (a b : ChannelSet) : channelUnion (channelUnion a b) a = channelUnion a b := by
  ext i hi; simp [channelUnion]; cases a[i] <;> simp

theorem channelUnion_absorb_right (a b : ChannelSet) : channelUnion (channelUnion a b) b = channelUnion a b := by
  ext i hi; simp [channelUnion, Bool.or_assoc]

theorem channelUnion_trans {a b c : ChannelSet} (h : channelUnion a b = a) (k : channelUnion b c = b) : channelUnion a c = a := by
  rw [← h, ← k]; ext i hi; simp [channelUnion, Bool.or_assoc]

theorem StationOp.matches_self (a : StationOp) : a.matches a = true := by
  cases a <;> simp [StationOp.matches, StationOp.refillChannel]

theorem StationOp.matches_trans {a b c : StationOp} (h : a.matches b = true) (k : b.matches c = true) : a.matches c = true := by
  cases a <;> cases b <;> simp_all [StationOp.matches, StationOp.refillChannel] <;>
    (cases c <;> simp_all [StationOp.matches, StationOp.refillChannel])

theorem Request.covers_self (r : Request) : r.covers r :=
  ⟨StationOp.matches_self _, le_refl _, Origins.union_self _, fun a b h k => by
    rw [h] at k; cases k; exact channelUnion_self _⟩

theorem Request.covers_trans {p q r : Request} (h : p.covers q) (k : q.covers r) : p.covers r := by
  obtain ⟨h1, h2, h3, h4⟩ := h
  obtain ⟨k1, k2, k3, k4⟩ := k
  refine ⟨StationOp.matches_trans h1 k1, le_trans h2 k2, Origins.absorb_trans h3 k3, fun a b ha hb => ?_⟩
  cases hq : q.op with
  | check m => exact channelUnion_trans (h4 _ _ ha hq) (k4 _ _ hq hb)
  | _ => simp [ha, hq, StationOp.matches, StationOp.refillChannel] at h1

/-- The merge of two matching requests stands for the older one. -/
theorem Request.merge_covers_old {p r : Request} (h : p.op.matches r.op = true) : (p.merge r).covers p := by
  obtain ⟨op, am, o⟩ := p
  obtain ⟨op', am', o'⟩ := r
  refine ⟨?_, ?_, Origins.union_absorb_left _ _, ?_⟩
  · cases op <;> cases op' <;> simp_all [Request.merge, StationOp.merge, StationOp.matches, StationOp.refillChannel]
  · cases op <;> cases op' <;> simp_all [Request.merge, StationOp.merge, StationOp.matches, StationOp.refillChannel, StationOp.rank]
  · intro a b ha hb
    cases op <;> cases op' <;> simp_all [Request.merge, StationOp.merge, StationOp.matches, StationOp.refillChannel]
    subst ha hb
    exact channelUnion_absorb_left _ _

/-- The merge of two matching requests stands for the newer one. -/
theorem Request.merge_covers_new {p r : Request} (h : p.op.matches r.op = true) : (p.merge r).covers r := by
  obtain ⟨op, am, o⟩ := p
  obtain ⟨op', am', o'⟩ := r
  refine ⟨?_, ?_, Origins.union_absorb_right _ _, ?_⟩
  · cases op <;> cases op' <;> simp_all [Request.merge, StationOp.merge, StationOp.matches, StationOp.refillChannel]
  · cases op <;> cases op' <;> simp_all [Request.merge, StationOp.merge, StationOp.matches, StationOp.refillChannel, StationOp.rank]
  · intro a b ha hb
    cases op <;> cases op' <;> simp_all [Request.merge, StationOp.merge, StationOp.matches, StationOp.refillChannel]
    subst ha hb
    exact channelUnion_absorb_right _ _

/-- Every request pending before a request is placed is stood for afterwards. -/
theorem addRequest_covers_old (r : Request) (l : List Request) : ∀ p ∈ l, ∃ q ∈ addRequest r l, q.covers p := by
  induction l with
  | nil => simp
  | cons a l ih =>
    intro p hp
    simp only [addRequest]
    split
    · rename_i hm
      rcases List.mem_cons.1 hp with rfl | hp
      · exact ⟨_, List.mem_cons_self .., Request.merge_covers_old hm⟩
      · exact ⟨p, List.mem_cons_of_mem _ hp, Request.covers_self p⟩
    · rcases List.mem_cons.1 hp with rfl | hp
      · exact ⟨p, List.mem_cons_self .., Request.covers_self p⟩
      · obtain ⟨q, hq, hc⟩ := ih p hp
        exact ⟨q, List.mem_cons_of_mem _ hq, hc⟩

/-- A request placed is stood for afterwards. -/
theorem addRequest_covers_new (r : Request) (l : List Request) : ∃ q ∈ addRequest r l, q.covers r := by
  induction l with
  | nil => exact ⟨r, by simp [addRequest], Request.covers_self r⟩
  | cons a l ih =>
    simp only [addRequest]
    split
    · rename_i hm
      exact ⟨_, List.mem_cons_self .., Request.merge_covers_new hm⟩
    · obtain ⟨q, hq, hc⟩ := ih
      exact ⟨q, List.mem_cons_of_mem _ hq, hc⟩

/-! ## Follows is reflexive and transitive -/

theorem Follows.refl (s : State) : Follows s s where
  now := rfl
  slots := rfl
  store := rfl
  queue := rfl
  wetEdge := rfl
  pass := rfl
  driveEnable := rfl
  accounts := rfl
  maps := rfl
  feed := rfl
  scan := rfl
  inputs := rfl
  stop := rfl
  tables := rfl
  out := rfl
  freeCount := rfl
  pending := rfl
  carts _ := rfl
  links _ _ := rfl
  refills _ := ⟨rfl, rfl⟩
  stamps := rfl
  drops := rfl
  capped := rfl
  docked := rfl
  holder := rfl
  idleSince := rfl
  uncapInFlight := rfl
  requests r hr _ := ⟨r, hr, r.covers_self⟩
  ladders _ _ := rfl
  aligned := rfl
  rx := rfl
  hold := rfl
  answers := rfl
  events := List.prefix_refl _
  latched _ h := h

theorem StationOp.not_cap_of_matches {a b : StationOp} (h : a.matches b = true) (k : b ≠ .cap) : a ≠ .cap := by
  rintro rfl; cases b <;> simp_all [StationOp.matches, StationOp.refillChannel]

theorem Follows.trans {s t u : State} (h : Follows s t) (k : Follows t u) : Follows s u where
  now := k.now.trans h.now
  slots := k.slots.trans h.slots
  store := k.store.trans h.store
  queue := k.queue.trans h.queue
  wetEdge := k.wetEdge.trans h.wetEdge
  pass := k.pass.trans h.pass
  driveEnable := k.driveEnable.trans h.driveEnable
  accounts := k.accounts.trans h.accounts
  maps := k.maps.trans h.maps
  feed := k.feed.trans h.feed
  scan := k.scan.trans h.scan
  inputs := k.inputs.trans h.inputs
  stop := k.stop.trans h.stop
  tables := k.tables.trans h.tables
  out := k.out.trans h.out
  freeCount := k.freeCount.trans h.freeCount
  pending := k.pending.trans h.pending
  carts c := by rw [← h.carts c, ← k.carts c]
  links c hc := by rw [k.links c (by rw [h.links c hc]; exact hc), h.links c hc]
  refills c := ⟨(k.refills c).1.trans (h.refills c).1, (k.refills c).2.trans (h.refills c).2⟩
  stamps := k.stamps.trans h.stamps
  drops := k.drops.trans h.drops
  capped := k.capped.trans h.capped
  docked := k.docked.trans h.docked
  holder := k.holder.trans h.holder
  idleSince := k.idleSince.trans h.idleSince
  uncapInFlight := k.uncapInFlight.trans h.uncapInFlight
  requests r hr hc := by
    obtain ⟨q, hq, h1⟩ := h.requests r hr hc
    obtain ⟨p, hp, h2⟩ := k.requests q hq (StationOp.not_cap_of_matches h1.1 hc)
    exact ⟨p, hp, Request.covers_trans h2 h1⟩
  ladders c hc := by rw [k.ladders c (by rw [h.ladders c hc]; exact hc), h.ladders c hc]
  aligned := k.aligned.trans h.aligned
  rx := k.rx.trans h.rx
  hold := k.hold.trans h.hold
  answers := k.answers.trans h.answers
  events := h.events.trans k.events
  latched x hx := k.latched x (h.latched x hx)

/-- A step that changes only the lane, as a raising does, follows. -/
theorem Follows.of_lane {s : State} {l : Lane} (ha : l.aligned = s.lane.aligned) (hr : l.rx = s.lane.rx) (hh : l.hold = s.lane.hold)
    (hw : l.answers = s.lane.answers) (he : s.lane.reported <+: l.reported)
    (hl : ∀ k, s.lane.conditions.latched k = true → l.conditions.latched k = true) : Follows s { s with lane := l } :=
  { Follows.refl s with aligned := ha, rx := hr, hold := hh, answers := hw, events := he, latched := hl }

/-! ## The lane -/

theorem Conditions.latched_put (x : Conditions) (v : Bool) (k j : Condition) :
    (x.put v k).latched j = if j = k then v else x.latched j := by
  cases k <;> cases j <;> rfl

theorem Lane.raise_aligned (n : Nat) (e : Event) (l : Lane) : (l.raise n e).aligned = l.aligned := by
  unfold Lane.raise; split <;> [rfl; split <;> rfl]

theorem Lane.raise_rx (n : Nat) (e : Event) (l : Lane) : (l.raise n e).rx = l.rx := by
  unfold Lane.raise; split <;> [rfl; split <;> rfl]

theorem Lane.raise_hold (n : Nat) (e : Event) (l : Lane) : (l.raise n e).hold = l.hold := by
  unfold Lane.raise; split <;> [rfl; split <;> rfl]

theorem Lane.raise_replies (n : Nat) (e : Event) (l : Lane) : (l.raise n e).replies = l.replies := by
  unfold Lane.raise; split <;> [rfl; split <;> rfl]

theorem Lane.raise_sending (n : Nat) (e : Event) (l : Lane) : (l.raise n e).sending = l.sending := by
  unfold Lane.raise; split <;> [rfl; split <;> rfl]

theorem Lane.raise_answers (n : Nat) (e : Event) (l : Lane) : (l.raise n e).answers = l.answers := by
  simp [Lane.answers, Lane.raise_replies, Lane.raise_sending]

theorem Lane.raise_events (n : Nat) (e : Event) (l : Lane) :
    (l.raise n e).events = if l.events.length < 64 then l.events ++ [⟨n, e⟩] else l.events := by
  unfold Lane.raise; split <;> [rfl; split <;> rfl]

theorem Lane.raise_reported (n : Nat) (e : Event) (l : Lane) : l.reported <+: (l.raise n e).reported := by
  simp only [Lane.reported, Lane.raise_sending, Lane.raise_events]
  split_ifs
  · rw [← List.append_assoc]; exact List.prefix_append _ _
  · exact List.prefix_refl _

theorem Lane.raise_latched (n : Nat) (e : Event) (l : Lane) (k : Condition) (h : l.conditions.latched k = true) :
    (l.raise n e).conditions.latched k = true := by
  unfold Lane.raise
  split
  · exact h
  · split
    · exact h
    · simp only [Conditions.latched_put]; split <;> simp_all

theorem Follows.raise (s : State) (e : Event) : Follows s (s.raise e) :=
  Follows.of_lane (Lane.raise_aligned ..) (Lane.raise_rx ..) (Lane.raise_hold ..) (Lane.raise_answers ..) (Lane.raise_reported ..)
    (fun k => Lane.raise_latched _ _ _ k)

theorem Follows.raiseCondition (s : State) (r : CondRaise) : Follows s (s.raiseCondition r) := by
  unfold State.raiseCondition Lane.raiseCondition
  split
  · exact Follows.refl s
  · refine Follows.of_lane (Lane.raise_aligned ..) (Lane.raise_rx ..) (Lane.raise_hold ..) (Lane.raise_answers ..)
      (Lane.raise_reported s.now (.condition r) { s.lane with conditions := s.lane.conditions.put true r.condition })
      (fun k h => Lane.raise_latched _ _ _ k ?_)
    simp only [Conditions.latched_put]; split <;> simp_all

theorem Follows.chooseReturn (s : State) : Follows s s.chooseReturn := by
  unfold State.chooseReturn Lane.choose
  split
  · rename_i hs
    split
    · rename_i hr
      exact Follows.of_lane rfl rfl rfl (by simp [Lane.answers, hs.2, hr]) (by simp [Lane.reported, hs.2]) (fun _ h => h)
    · rename_i hr he
      refine Follows.of_lane rfl rfl rfl (by simp [Lane.answers, hs.2, hr]) ?_ (fun _ h => h)
      simp only [Lane.reported, hs.2, he]
      split <;> simp
    · exact Follows.refl s
  · exact Follows.refl s

/-! ## Requests, needs and ladders -/

theorem Follows.place (s : State) (op : StationOp) (a : Option Nat) (o : Origins) : Follows s (s.place op a o) :=
  { Follows.refl s with requests := fun r hr _ => addRequest_covers_old _ _ r hr }

theorem State.place_covers (s : State) (op : StationOp) (a : Option Nat) (o : Origins) :
    ∃ q ∈ (s.place op a o).service.pending, q.covers ⟨op, a, o⟩ := addRequest_covers_new _ _

theorem Follows.recordNeed (s : State) (c : Channel) (n : Need) : Follows s (s.recordNeed c n) :=
  { Follows.refl s with
    refills := fun d => by
      by_cases h : c = d
      · subst h; simp [State.recordNeed, modifyAt, setAt]
      · have : ¬ c.val = d.val := fun e => h (Fin.ext e)
        simp [State.recordNeed, modifyAt, setAt, Vector.getElem_set_ne, this] }

theorem Follows.requestRefill (s : State) (c : Channel) (k : RefillKind) (a : Option Nat) (o : Origins) :
    Follows s (s.requestRefill c k a o) := by
  simp only [State.requestRefill]
  split_ifs
  all_goals first
    | exact Follows.refl s
    | exact Follows.place ..
    | exact Follows.recordNeed ..

theorem Follows.placeStep (s : State) (c : Channel) (st : LadderState) (ph : LadderPhase) : Follows s (s.placeStep c st ph) := by
  unfold State.placeStep
  split
  · exact Follows.place ..
  · exact Follows.refl s
  · exact Follows.place ..

/-- Replacing the ladder of a SUSPENDED channel follows. -/
theorem Follows.setLadder (s : State) (c : Channel) (l : Ladder) (h : s.service.ladders[c].state = .suspended) :
    Follows s (s.setLadder c l) := by
  have hl : ∀ d : Channel, s.service.ladders[d].state ≠ .suspended →
      (setAt s.service.ladders c l)[d] = s.service.ladders[d] := by
    intro d hd
    have : ¬ c.val = d.val := fun e => hd (by rw [← Fin.ext e]; exact h)
    simp [setAt, Vector.getElem_set_ne, this]
  have h1 : Follows s { s with service := { s.service with ladders := setAt s.service.ladders c l } } :=
    { Follows.refl s with ladders := hl }
  have hd : ∀ t : State, Follows t (t.dropAsked c .suspended) := by
    intro t
    refine { Follows.refl t with requests := fun r hr _ => ⟨r, ?_, r.covers_self⟩ }
    exact List.mem_filterMap.2 ⟨r, hr, by simp [LadderState.asks, LadderState.inStep]⟩
  simp only [State.setLadder, h]
  split_ifs
  all_goals first
    | exact h1
    | exact h1.trans (hd _)
    | exact h1.trans (Follows.raise _ _)
    | exact (h1.trans (Follows.raise _ _)).trans (hd _)

theorem Follows.resumeLadder (s : State) (c : Channel) : Follows s (s.resumeLadder c) := by
  simp only [State.resumeLadder]
  split
  · rename_i h _ _ _
    exact (Follows.setLadder s c _ h).trans (Follows.placeStep ..)
  · exact Follows.refl s

theorem Follows.setSupplyState (s : State) (c : Channel) (st : SupplyState) :
    Follows s { s with supply := modifyAt s.supply c fun r => { r with state := st } } :=
  { Follows.refl s with
    refills := fun d => by
      by_cases h : c = d
      · subst h; simp [modifyAt, setAt]
      · have : ¬ c.val = d.val := fun e => h (Fin.ext e)
        simp [modifyAt, setAt, Vector.getElem_set_ne, this] }

theorem Follows.reformSupply (s : State) (c : Channel) : Follows s (s.reformSupply c) := by
  simp only [State.reformSupply]
  split
  · exact Follows.refl s
  · have h1 := (Follows.setSupplyState s c (s.formedSupply c)).trans (Follows.raise _
      (.supplyState c (s.formedSupply c) s.accounts[c].level s.accounts[c].known s.accounts[c].reserved))
    split_ifs
    all_goals first
      | exact h1
      | exact h1.trans (Follows.place ..)
      | exact h1.trans (Follows.resumeLadder ..)
      | exact (h1.trans (Follows.resumeLadder ..)).trans (Follows.place ..)

theorem Follows.foldl {α : Type} (f : State → α → State) (h : ∀ s a, Follows s (f s a)) (l : List α) (s : State) :
    Follows s (l.foldl f s) := by
  induction l generalizing s with
  | nil => exact Follows.refl s
  | cons a l ih => exact (h s a).trans (ih _)

theorem Follows.reformAll (s : State) : Follows s s.reformAll := Follows.foldl _ Follows.reformSupply _ _

/-! ## The gate -/

theorem Follows.gateRequest (s : State) (t : InkTest) (c : Channel) : Follows s (s.gateRequest t c) := by
  unfold State.gateRequest
  split
  · exact (Follows.requestRefill ..).trans (Follows.reformSupply ..)
  · exact (Follows.requestRefill ..).trans (Follows.reformSupply ..)
  · exact Follows.refl s

theorem Follows.holds (s : State) (h : Holds) : Follows s { s with holds := h } := { Follows.refl s with }

/-- A step that writes only the hold set and the pass asked flag follows. -/
theorem Follows.ask (s : State) (h : Holds) (b : Bool) :
    Follows s { s with holds := h, service := { s.service with passAsked := b } } := { Follows.refl s with }

theorem Follows.askPass (s : State) : Follows s s.askPass :=
  { Follows.refl s with
    requests := fun r hr hc => ⟨r, by simp [State.askPass, State.withdraw, hr, hc], r.covers_self⟩ }

theorem Follows.setQueue (s : State) (q : List Entry) (h : q.map Entry.bare = s.queue.map Entry.bare) :
    Follows s { s with queue := q } := { Follows.refl s with queue := h }

theorem Follows.evaluateSwath (s : State) (i : SlotIx) (rep : Bool) (rest : List Entry)
    (hq : s.queue = ⟨.swath i rep, .waiting⟩ :: rest) : Follows s (s.evaluateSwath i rep rest) := by
  have h0 : Follows s (s.reportCapacity s.slots[i] i rep rest) := by
    unfold State.reportCapacity
    split
    · exact (Follows.setQueue s _ (by simp [hq, Entry.bare])).trans (Follows.raiseCondition ..)
    · exact Follows.refl s
  have h1 := h0.trans (Follows.foldl (fun t c => t.gateRequest (s.inkTest s.slots[i] c) c)
    (fun t c => Follows.gateRequest t _ c) channels _)
  simp only [State.evaluateSwath]
  split
  · exact (h1.trans (Follows.holds _ _)).trans (Follows.askPass _)
  · exact h1.trans (Follows.ask ..)

theorem Follows.evaluate (s : State) : Follows s s.evaluate := by
  unfold State.evaluate
  split
  · rename_i h; exact Follows.evaluateSwath s _ _ _ h
  · rename_i h
    simp only [State.evaluateAdvance]
    split
    · refine Follows.trans (t := { s with holds := _, queue := _ }) ?_ (Follows.raise ..)
      exact { Follows.refl s with queue := by simp [h, Entry.bare] }
    · exact { Follows.refl s with }
  · exact { Follows.refl s with }
  · exact Follows.refl s

theorem Follows.idleGate (s : State) : Follows s s.idleGate := by
  unfold State.idleGate
  split
  · exact Follows.ask ..
  · split
    · exact Follows.ask ..
    · split
      · exact Follows.refl s
      · exact { Follows.refl s with }

theorem Follows.evaluateAgain (n : Nat) (s : State) : Follows s (State.evaluateAgain n s) := by
  induction n generalizing s with
  | zero => exact Follows.refl s
  | succ n ih =>
    simp only [State.evaluateAgain]
    split
    · exact Follows.evaluate s
    · exact (Follows.evaluate s).trans (ih _)

theorem Follows.runGate (s s0 : State) (force : Bool) : Follows s (s.runGate force s0) := by
  simp only [State.runGate]
  split
  · exact (Follows.idleGate s).trans (Follows.evaluateAgain ..)
  · exact Follows.idleGate s

/-! ## The end of every step -/

theorem Follows.sendDeductions (s : State) : Follows s s.sendDeductions :=
  { Follows.refl s with
    carts := fun c => by
      simp only [State.sendDeductions, Fin.getElem_fin, Vector.getElem_map, Cartridge.sendOwed]
      split <;> rfl
    links := fun c hc => by
      simp only [State.sendDeductions, Fin.getElem_fin, Vector.getElem_map, Cartridge.sendOwed]
      split
      · rename_i h; simp at h; exact absurd h.2 hc
      · rfl }

theorem Follows.reformLamps (s : State) : Follows s s.reformLamps := { Follows.refl s with }

/-- What follows every step leaves the step's own effect. -/
theorem Follows.finish (force : Bool) (s0 s1 : State) : Follows s1 (State.finish force s0 s1) :=
  ((((Follows.reformAll s1).trans (Follows.runGate ..)).trans (Follows.sendDeductions _)).trans (Follows.reformLamps _)).trans
    (Follows.chooseReturn _)

/-- A step that ends answers a next state that follows its own effect. -/
theorem ends_follows (force : Bool) (s s1 : State) : ∃ t, ends force s s1 = .next t ∧ Follows s1 t :=
  ⟨_, rfl, Follows.finish force s s1⟩

end Sys2Proof.Machine
end

