-- ==== Sys2Proof/Laws/Memory.lean ====
section
/-!
SUPPORT. The Swath Store: reading after writing and blanking, and the canonical form that every operation keeps.
-/

namespace Sys2Proof.Machine

/-- The addresses of the cells strictly rise. -/
abbrev rising (m : Memory) : Prop := m.Pairwise (fun a b => a.1 < b.1)

/-! ## Merging -/

/-- What a merge of one cell lists: that cell, cells of the old list, or what the continuation adds. -/
theorem Memory.mem_mergeInto {c d : Host.Cell} {k : Memory → Memory} {m : Memory}
    (hk : ∀ n : Memory, ∀ e ∈ k n, e ∈ n ∨ e ∈ k []) (h : d ∈ Memory.mergeInto c k m) : d = c ∨ d ∈ m ∨ d ∈ k [] := by
  induction m with
  | nil => simp only [Memory.mergeInto, List.mem_cons] at h; rcases h with h | h <;> simp [h]
  | cons e m ih =>
    simp only [Memory.mergeInto] at h
    split_ifs at h
    · rcases List.mem_cons.1 h with h | h
      · simp [h]
      · rcases ih h with h | h | h <;> simp [h]
    · rcases List.mem_cons.1 h with h | h
      · simp [h]
      · rcases hk _ _ h with h | h <;> simp [h]
    · rcases List.mem_cons.1 h with h | h
      · simp [h]
      · rcases hk _ _ h with h | h
        · simp only [List.mem_cons] at h ⊢; tauto
        · simp [h]

/-- What a merge lists: new cells and cells of the old list. -/
theorem Memory.mem_merge {cs : List Host.Cell} {m : Memory} {d : Host.Cell} (h : d ∈ Memory.merge cs m) : d ∈ cs ∨ d ∈ m := by
  induction cs generalizing m d with
  | nil => exact .inr h
  | cons c cs ih =>
    have hk : ∀ n : Memory, ∀ e ∈ Memory.merge cs n, e ∈ n ∨ e ∈ cs := fun n e he => (ih he).symm
    simp only [Memory.merge] at h
    clear ih
    induction m with
    | nil =>
      simp only [Memory.mergeInto, List.mem_cons] at h
      rcases h with h | h
      · simp [h]
      · rcases hk _ _ h with h | h <;> simp_all
    | cons e m im =>
      simp only [Memory.mergeInto] at h
      split_ifs at h <;> rcases List.mem_cons.1 h with h | h
      · simp [h]
      · rcases im h with h | h <;> simp [h]
      · simp [h]
      · rcases hk _ _ h with h | h <;> simp [h]
      · simp [h]
      · rcases hk _ _ h with h | h <;> simp_all

/-- Merging one cell that stands before all that the continuation adds keeps the addresses rising. -/
theorem Memory.rising_mergeInto {c : Host.Cell} {cs : List Host.Cell} {m : Memory} (hc : ∀ d ∈ cs, c.1 < d.1)
    (hk : ∀ n : Memory, rising n → rising (Memory.merge cs n)) (h : rising m) :
    rising (Memory.mergeInto c (Memory.merge cs) m) := by
  induction m with
  | nil =>
    refine List.pairwise_cons.2 ⟨fun d hd => ?_, hk [] List.Pairwise.nil⟩
    rcases Memory.mem_merge hd with hd | hd
    · exact hc _ hd
    · cases hd
  | cons e m ih =>
    obtain ⟨h1, h2⟩ := List.pairwise_cons.1 h
    simp only [Memory.mergeInto]
    split_ifs with hlt heq
    · refine List.pairwise_cons.2 ⟨fun d hd => ?_, ih h2⟩
      have : d ∈ Memory.merge (c :: cs) m := hd
      rcases Memory.mem_merge this with hd | hd
      · rcases List.mem_cons.1 hd with rfl | hd
        · exact hlt
        · exact lt_trans hlt (hc _ hd)
      · exact h1 _ hd
    · refine List.pairwise_cons.2 ⟨fun d hd => ?_, hk _ h2⟩
      rcases Memory.mem_merge hd with hd | hd
      · exact hc _ hd
      · exact heq ▸ h1 _ hd
    · have hce : c.1 < e.1 := by omega
      refine List.pairwise_cons.2 ⟨fun d hd => ?_, hk _ h⟩
      rcases Memory.mem_merge hd with hd | hd
      · exact hc _ hd
      · rcases List.mem_cons.1 hd with rfl | hd
        · exact hce
        · exact lt_trans hce (h1 _ hd)

theorem Memory.rising_merge {cs : List Host.Cell} {m : Memory} (hc : rising cs) (h : rising m) : rising (Memory.merge cs m) := by
  induction cs generalizing m with
  | nil => exact h
  | cons c cs ih =>
    obtain ⟨h1, h2⟩ := List.pairwise_cons.1 hc
    exact Memory.rising_mergeInto h1 (fun n hn => ih h2 hn) h

/-! ## The canonical form -/

theorem Memory.wf_filter {m : Memory} (p : Host.Cell → Bool) (h : Memory.wf m) : Memory.wf (m.filter p) :=
  ⟨h.1.filter p, fun c hc => h.2 c (List.mem_filter.1 hc).1⟩

/-- Blanking keeps the canonical form. -/
theorem Memory.wf_blank {m : Memory} (inside : Nat → Bool) (h : Memory.wf m) : Memory.wf (Memory.blank inside m) :=
  Memory.wf_filter _ h

/-- Writing rising cells keeps the canonical form. -/
theorem Memory.wf_write {cells : List Host.Cell} {m : Memory} (hc : rising cells) (h : Memory.wf m) :
    Memory.wf (Memory.write cells m) :=
  ⟨(Memory.rising_merge hc h.1).filter _, fun c hm => by simpa using (List.mem_filter.1 hm).2⟩

/-! ## Reading -/

theorem Memory.read_cons (k : Nat) (b : Byte) (m : Memory) (a : Nat) :
    Memory.read ((k, b) :: m) a = if k = a then b else Memory.read m a := rfl

/-- An address that no cell lists reads 0. -/
theorem Memory.read_unlisted {m : Memory} {a : Nat} (h : ∀ c ∈ m, c.1 ≠ a) : Memory.read m a = 0 := by
  induction m with
  | nil => rfl
  | cons c m ih =>
    obtain ⟨k, b⟩ := c
    simp only [List.mem_cons, forall_eq_or_imp] at h
    rw [Memory.read_cons, if_neg h.1, ih h.2]

/-- Dropping cells by their address makes those addresses read 0 and leaves the others. -/
theorem Memory.read_blank (inside : Nat → Bool) (m : Memory) (a : Nat) :
    Memory.read (Memory.blank inside m) a = if inside a then 0 else Memory.read m a := by
  induction m with
  | nil => simp [Memory.blank, Memory.read]
  | cons c m ih =>
    obtain ⟨k, b⟩ := c
    simp only [Memory.blank, List.filter_cons] at ih ⊢
    by_cases hk : inside k = true
    · simp only [hk, Bool.not_true, Bool.false_eq_true, if_false, ih, Memory.read_cons]
      by_cases hka : k = a
      · subst hka; simp [hk]
      · simp [hka]
    · simp only [hk, Bool.not_false, if_true, Memory.read_cons, ih]
      by_cases hka : k = a
      · subst hka; simp [hk]
      · simp [hka]

/-- Dropping the cells that hold 0 changes no reading of a rising list. -/
theorem Memory.read_filter_zero {m : Memory} (h : rising m) (a : Nat) :
    Memory.read (m.filter fun c => c.2 ≠ 0) a = Memory.read m a := by
  induction m with
  | nil => rfl
  | cons c m ih =>
    obtain ⟨k, b⟩ := c
    obtain ⟨h1, h2⟩ := List.pairwise_cons.1 h
    rw [List.filter_cons]
    by_cases hb : b = 0
    · subst hb
      simp only [ne_eq, not_true_eq_false, decide_false, Bool.false_eq_true, if_false, Memory.read_cons]
      rw [ih h2]
      by_cases hka : k = a
      · subst hka; simp [Memory.read_unlisted (m := m) fun c hc => (h1 c hc).ne']
      · simp [hka]
    · have hd : decide ((k, b).2 ≠ 0) = true := by simpa using hb
      rw [if_pos hd, Memory.read_cons, Memory.read_cons, ih h2]

/-- Reading a merge: the new cells stand where both list an address. -/
theorem Memory.read_merge {cs : List Host.Cell} {m : Memory} (hc : rising cs) (h : rising m) (a : Nat) :
    Memory.read (Memory.merge cs m) a = if cs.any (fun c => c.1 = a) then Memory.read cs a else Memory.read m a := by
  induction cs generalizing m with
  | nil => simp [Memory.merge]
  | cons c cs ih =>
    obtain ⟨h1, h2⟩ := List.pairwise_cons.1 hc
    obtain ⟨ck, cb⟩ := c
    induction m with
    | nil =>
      simp only [Memory.merge, Memory.mergeInto, Memory.read_cons, List.any_cons]
      rw [ih h2 h]
      by_cases hk : ck = a <;> simp [hk]
    | cons e m im =>
      obtain ⟨ek, eb⟩ := e
      obtain ⟨h3, h4⟩ := List.pairwise_cons.1 h
      simp only [Memory.merge, Memory.mergeInto] at im ⊢
      by_cases hlt : ek < ck
      · rw [if_pos hlt, Memory.read_cons, im h4]
        by_cases he : ek = a
        · subst he
          have hno : (((ck, cb) :: cs).any fun c => c.1 = ek) = false := by
            simp only [List.any_cons, Bool.or_eq_false_iff, decide_eq_false_iff_not, List.any_eq_false, decide_eq_true_eq]
            exact ⟨by omega, fun x hx => by have := h1 x hx; simp only at this; omega⟩
          simp [hno, Memory.read_cons]
        · simp [Memory.read_cons, he]
      · rw [if_neg hlt]
        by_cases heq : ek = ck
        · subst heq
          rw [if_pos rfl, Memory.read_cons, ih h2 h4]
          by_cases hk : ek = a <;> simp [hk, Memory.read_cons]
        · rw [if_neg heq, Memory.read_cons, ih h2 h]
          by_cases hk : ck = a <;> simp [hk, Memory.read_cons]

/-- Reading after a write of rising cells: what was written, elsewhere what was there. -/
theorem Memory.read_write {cells : List Host.Cell} {m : Memory} (hc : rising cells) (h : rising m) (a : Nat) :
    Memory.read (Memory.write cells m) a =
      if cells.any (fun c => c.1 = a) then Memory.read cells a else Memory.read m a := by
  rw [Memory.write, Memory.read_filter_zero (Memory.rising_merge hc h), Memory.read_merge hc h]

/-! ## The cells of a slice -/

theorem pieces_length {α : Type} (k w : Nat) (l : List α) : ∀ p ∈ pieces k w l, p.length ≤ w := by
  induction k generalizing l with
  | zero => simp [pieces]
  | succ k ih =>
    intro p hp
    simp only [pieces, List.mem_cons] at hp
    rcases hp with rfl | hp
    · simp
    · exact ih _ _ hp

theorem maskGroups_rising (m : Nat) : (maskGroups m).Pairwise (· < ·) := List.Pairwise.filter _ List.pairwise_lt_range

theorem maskGroups_lt (m : Nat) : ∀ g ∈ maskGroups m, g < 24 := fun g hg => by simpa using (List.mem_filter.1 hg).1

/-- The groups of a column rise, are below 24 and carry at most 8 bytes each. -/
structure ColumnOk (groups : List (Nat × List Byte)) : Prop where
  rises : groups.Pairwise (fun x y => x.1 < y.1)
  below : ∀ g ∈ groups, g.1 < 24
  short : ∀ g ∈ groups, g.2.length ≤ 8

theorem columnGroups_ok (a : SliceArgs) (column : List Byte) : ColumnOk (a.columnGroups column) := by
  have hz : ∀ (l : List Nat) (r : List (List Byte)), l.Pairwise (· < ·) → (l.zip r).Pairwise (fun x y => x.1 < y.1) := by
    intro l r h
    induction l generalizing r with
    | nil => simp
    | cons x l ih =>
      cases r with
      | nil => simp
      | cons y r =>
        obtain ⟨h1, h2⟩ := List.pairwise_cons.1 h
        exact List.pairwise_cons.2 ⟨fun p hp => h1 _ (List.of_mem_zip hp).1, ih _ h2⟩
  exact ⟨hz _ _ (maskGroups_rising _), fun g hg => maskGroups_lt _ _ (List.of_mem_zip hg).1,
    fun g hg => pieces_length _ _ _ _ (List.of_mem_zip hg).2⟩

/-- The cells of a column lie in its 192 bytes, ascending. -/
theorem columnCells_range {base : Nat} {groups : List (Nat × List Byte)} (h : ColumnOk groups) :
    ∀ c ∈ columnCells base groups, base ≤ c.1 ∧ c.1 < base + 192 := by
  intro c hc
  simp only [columnCells, List.mem_flatMap, List.mem_mapIdx] at hc
  obtain ⟨g, hg, j, hj, rfl⟩ := hc
  have := h.below g hg
  have := h.short g hg
  simp only
  omega

theorem columnCells_rising {base : Nat} {groups : List (Nat × List Byte)} (h : ColumnOk groups) :
    rising (columnCells base groups) := by
  obtain ⟨h1, h2, h3⟩ := h
  simp only [columnCells, rising, List.pairwise_flatMap]
  constructor
  · intro g _
    rw [List.pairwise_iff_getElem]
    intro i j hi hj hij
    simp [List.getElem_mapIdx]
    omega
  · refine h1.imp_of_mem ?_
    intro x y hx hy hxy c hc d hd
    simp only [List.mem_mapIdx] at hc hd
    obtain ⟨i, hi, rfl⟩ := hc
    obtain ⟨j, hj, rfl⟩ := hd
    have := h3 x hx
    simp only
    omega

/-- The cells that an accepted slice writes rise. -/
theorem SliceArgs.cells_rising (a : SliceArgs) (slot : SlotIx) (c : Channel) : rising (a.cells slot c) := by
  have hall : ∀ col ∈ (List.replicate a.repeats a.columns).flatten, ColumnOk col := by
    intro col hcol
    simp only [List.mem_flatten, List.mem_replicate, SliceArgs.columns] at hcol
    obtain ⟨l, ⟨_, rfl⟩, hl⟩ := hcol
    obtain ⟨p, _, rfl⟩ := List.mem_map.1 hl
    exact columnGroups_ok a p
  rw [SliceArgs.cells, rising, List.pairwise_flatten]
  constructor
  · intro l hl
    obtain ⟨k, hk, rfl⟩ := List.mem_mapIdx.1 hl
    exact columnCells_rising (hall _ (List.getElem_mem _))
  · rw [List.pairwise_iff_getElem]
    intro i j hi hj hij x hx y hy
    simp only [List.getElem_mapIdx] at hx hy
    have h1 := columnCells_range (hall _ (List.getElem_mem _)) x hx
    have h2 := columnCells_range (hall _ (List.getElem_mem _)) y hy
    simp only [storeAddress] at h1 h2
    omega

end Sys2Proof.Machine
end

