-- ==== Sys2Proof/Laws/Requests.lean ====
section
/-! SUPPORT. Taking a request from the receive buffer and answering it: what the shared operation
`serveWith` does once its request waits, and how a command's `Runs` follows from it. -/

namespace Sys2Proof.Machine

/-- A request that waits at the front of the receive buffer is the one its command takes. -/
theorem asks_request {s : State} {k tag : Byte} {body : List Byte} (h : s.asks k tag body)
    {p : Frame → Bool} (hp : p ⟨k, tag, body⟩ = true) :
    s.lane.request p = some ⟨k, tag, body⟩ := by
  obtain ⟨h1, h2⟩ := h
  cases hr : s.lane.rx with
  | nil => simp [hr] at h1
  | cons f l => simp [hr] at h1; subst h1; simp [Lane.request, hr, hp, h2]

/-- Answering a waiting request: the action runs with the request taken off, then the reply is queued. -/
theorem serveWith_of_asks {s : State} {k tag : Byte} {body : List Byte} (h : s.asks k tag body)
    (b : Bool) (p : Frame → Bool) (hp : p ⟨k, tag, body⟩ = true) (act) :
    serveWith b p act s =
      let a := act body { s with lane := s.lane.pop }
      ends (b && (a.outcome = .done || a.outcome = .clamped)) s
        { a.state with lane := a.state.lane.reply ⟨k, tag, a.outcome, a.data⟩ } := by
  simp [serveWith, asks_request h hp]

/-- A command that ends through `ends` runs to the state it hands over. -/
theorem runs_of_ends {c : Instr} {s u v : State} (b : Bool) (h : exec c s = ends b v u) :
    Runs c s u := by
  obtain ⟨t, h1, h2⟩ := ends_follows b v u
  exact ⟨t, h.trans h1, h2⟩

/-- A command that serves its waiting request runs to the action's state with the answer queued. -/
theorem runs_of_serveWith {s u : State} {k tag : Byte} {body : List Byte} (h : s.asks k tag body)
    (c : Instr) (b : Bool) (p : Frame → Bool) (act) (hp : p ⟨k, tag, body⟩ = true)
    (hc : exec c s = serveWith b p act s) (o d)
    (ha : act body { s with lane := s.lane.pop } = ⟨{ u with lane := u.lane.pop }, o, d⟩) :
    Runs c s (u.answered k tag o d) := by
  have := hc.trans (serveWith_of_asks h b p hp act)
  simp only [ha] at this
  exact runs_of_ends _ this

end Sys2Proof.Machine
end

