-- ==== Sys2Proof/Machine/ReturnFrames.lean ====
section
/-!
DEFINITION. The bytes of return frames: envelope, kinds, outcomes, and the order of the fields of events and replies (10.5, 10.7,
10.10). The widths of the fields are the free values Config.fieldWidth where no table states them; the codes of their values are those that
10.10 gives the fields of the tables (log 9).
-/

namespace Sys2Proof.Machine

/-- A number in w bytes, most significant first, two's complement when negative (10.10). -/
def numberBytes (w : Nat) (v : Int) : List Byte := (List.range w).reverse.map fun i => BitVec.ofInt 8 (v / 256 ^ i)

/-- A frame on the line after its start symbol: kind, tag, body length, body, frame check (Table 10.10.1). -/
def envelope (kind tag : Byte) (body : List Byte) : List Byte :=
  let covered := kind :: tag :: numberBytes 2 body.length ++ body
  covered ++ numberBytes 2 (frameCheck covered).toNat

/-- A field of an event or of result data, with its number within its kind: always there, there or absent, or of a width that a table
states. -/
inductive Field where
  | value (n : Nat) (v : Int)
  | maybe (n : Nat) (v : Option Int)
  | sized (width : Nat) (v : Int)
  deriving DecidableEq, Repr, Inhabited

/-- The bytes of a field in a frame of a kind: one presence byte before a field that may be absent, and an absent field's value bytes
are 0, as Table 10.10.6 says of the fields of events and the model also of those of result data (log 64). -/
def Field.bytes (kind : Byte) : Field → List Byte
  | .value n v => numberBytes (Config.fieldWidth kind n) v
  | .maybe n (some v) => 1#8 :: numberBytes (Config.fieldWidth kind n) v
  | .maybe n none => 0#8 :: numberBytes (Config.fieldWidth kind n) 0
  | .sized w v => numberBytes w v

/-! ## Codes -/

/-- No 0, yes 1 (log 9). -/
def yesNo (b : Bool) : Int := if b then 1 else 0

/-- A filtered level in the order of Table 8.4.1: active 0, inactive 1 (log 9). -/
def levelCode (active : Bool) : Int := if active then 0 else 1

/-- The state of the stop latch in the order of Table 8.5.1: SET 0, CLEAR 1 (log 9). -/
def latchCode (set : Bool) : Int := if set then 0 else 1

/-- The outcome codes of Table 10.10.5; 5 is reserved. -/
def ReplyOutcome.code : ReplyOutcome → Byte
  | .done => 0
  | .clamped => 1
  | .busy => 2
  | .full => 3
  | .range => 4
  | .state => 6
  | .inUse => 7
  | .mismatch => 8
  | .unknown => 9

/-- The condition mask of Table 10.10.7. -/
def Conditions.mask (s : Conditions) : Byte :=
  let flag := fun (b : Bool) (i : Nat) => if b then 2 ^ i else 0
  BitVec.ofNat 8 (flag s.laneError 0 + flag s.eventsLost 1 + flag s.sensorStale 2 + flag s.jam 3 + flag s.stationFault 4
    + flag s.tagFault 5 + flag s.capacity 6)

/-- The hold-reason set as a mask, in the order of Table 2.2.1. -/
def Holds.mask (s : Holds) : Nat :=
  let flag := fun (b : Bool) (i : Nat) => if b then 2 ^ i else 0
  flag s.stop 0 + flag s.busy 1 + flag s.media 2 + flag s.service 3 + flag s.pressure 4 + flag s.temperature 5 + flag s.ink 6
    + flag s.capacity 7 + flag s.dry 8

/-- The kind of a station operation, in the order of Table 6.4.1. -/
def StationOp.kindCode : StationOp → Int
  | .urgentRefill _ => 0
  | .fillToMark _ => 1
  | .prime _ => 2
  | .wipe _ => 3
  | .check _ => 4
  | .refill _ => 5
  | .cap => 6

/-- The target of a station operation: a channel, a head, the mask of a set of channels, or absent for CAP (Table 6.4.1). -/
def StationOp.target : StationOp → Option Int
  | .urgentRefill c | .fillToMark c | .prime c | .refill c => some c.val
  | .wipe h => some h.val
  | .check set => some (channelsMask set)
  | .cap => none

/-- The detail of the stop latch (Table 8.5.1). -/
def StopCause.detail : StopCause → Option Int
  | .input i => some i.val
  | .pressure c => some c.val
  | .strobeTimeout => none

/-- The condition raised, by its bit of the condition mask, with the detail of Table 10.6.1. -/
def CondRaise.fields : CondRaise → List Field
  | .laneError r => [.value 0 0, .value 1 r.ctorIdx]
  | .eventsLost => [.value 0 1]
  | .sensorStale i => [.value 0 2, .value 2 i.val]
  | .jam c => [.value 0 3, .value 3 c.ctorIdx]
  | .stationFault op => [.value 0 4, .value 4 op.kindCode, .maybe 5 op.target]
  | .tagFault i => [.value 0 5, .value 6 i.val]
  | .capacity i c => [.value 0 6, .value 7 i.val, .value 8 c.val]

/-! ## Events (Tables 10.10.4, 10.10.6 and 10.5.1) -/

/-- The kind of an event frame (Table 10.10.4). -/
def Event.kind : Event → Byte
  | .sliceRefused .. => 0x81
  | .swathDamaged .. => 0x82
  | .swathComplete .. => 0x83
  | .swathAborted .. => 0x84
  | .bandRisk .. => 0x85
  | .forcedStop .. => 0x86
  | .sensorStale .. => 0x87
  | .inputEdge .. => 0x88
  | .condition .. => 0x89
  | .supplyState .. => 0x8A
  | .cartridgeState .. => 0x8B
  | .refillDone .. => 0x8C
  | .refillFault .. => 0x8D
  | .markDrift .. => 0x8E
  | .stationFailed .. => 0x8F
  | .checkResult .. => 0x90
  | .mapCommitted .. => 0x91
  | .ladder .. => 0x92
  | .mediaState .. => 0x93
  | .loadFailed .. => 0x94
  | .mediaShort .. => 0x95
  | .rollLow .. => 0x96
  | .cutDone .. => 0x97

/-- A number that may be absent. -/
def absentOr (n : Nat) (v : Option Nat) : Field := .maybe n (v.map Int.ofNat)

/-- A field that Table 10.5.1 always gives; the state in which its value is absent, which no run reaches, is marked so. -/
def present (n : Nat) (v : Option Nat) : Field :=
  match v with
  | some x => .value n x
  | none => .maybe n none

/-- The one byte of a condition mask (Tables 10.10.3 and 10.10.7). -/
def maskField (s : Conditions) : Field := .sized 1 s.mask.toNat

/-- A number for each channel. -/
def perChannel (n : Nat) (v : Vector Nat 6) : List Field := v.toList.map fun (x : Nat) => .value n x

/-- The fields of an event, in the order of Table 10.5.1. -/
def Event.fields : Event → List Field
  | .sliceRefused slot channel first reason slices =>
    [absentOr 0 slot, absentOr 1 channel, absentOr 2 first, .value 3 reason.ctorIdx, absentOr 4 slices]
  | .swathDamaged slot reason slices stated => [.value 0 slot.val, .value 1 reason.ctorIdx, .value 2 slices, absentOr 3 stated]
  | .swathComplete slot debits withheld => .value 0 slot.val :: perChannel 1 debits ++ perChannel 2 withheld
  | .swathAborted slot last debits withheld =>
    .value 0 slot.val :: absentOr 1 last :: perChannel 2 debits ++ perChannel 3 withheld
  | .bandRisk slot gap limit => [.value 0 slot.val, .value 1 gap, .value 2 limit]
  | .forcedStop cause time slot =>
    [.value 0 cause.ctorIdx, .maybe 1 cause.detail, .value 2 time, .maybe 3 (slot.map fun i => i.val)]
  | .sensorStale input value age => [.value 0 input.val, .value 1 value, .value 2 age]
  | .inputEdge input level time => [.value 0 input.val, .value 1 (levelCode level), .value 2 time]
  | .condition raise => raise.fields
  | .supplyState c state level known reserved =>
    [.value 0 c.val, .value 1 state.ctorIdx, .value 2 level, .value 3 (yesNo known), .value 4 reserved]
  | .cartridgeState slot state reject serial kind capacity remaining =>
    [.value 0 slot.val, .value 1 state.ctorIdx, .maybe 2 (reject.map fun r => r.ctorIdx), absentOr 3 serial,
      .maybe 4 (kind.map fun k => k.val), absentOr 5 capacity, .value 6 remaining]
  | .refillDone c kind reason strokes drawn level known =>
    [.value 0 c.val, .value 1 kind.ctorIdx, .value 2 reason.ctorIdx, .value 3 strokes, .value 4 drawn, .value 5 level,
      .value 6 (yesNo known)]
  | .refillFault c kind reason strokes drawn level =>
    [.value 0 c.val, .value 1 kind.ctorIdx, .value 2 reason.ctorIdx, .value 3 strokes, .value 4 drawn, .value 5 level]
  | .markDrift c accounted mark difference before =>
    [.value 0 c.val, .value 1 accounted, .value 2 mark, .value 3 difference, .value 4 (yesNo before)]
  | .stationFailed op reason elapsed => [.value 0 op.kindCode, .maybe 1 op.target, .value 2 reason.ctorIdx, absentOr 3 elapsed]
  | .checkResult set figures commitSet =>
    .value 0 (channelsMask set) :: (figures.toList.flatMap fun f =>
      match f with
      | some x => [.value 1 x.found, .value 2 x.listed, .value 3 (yesNo x.overflow)]
      | none => []) ++ [.value 4 (yesNo commitSet)]
  | .mapCommitted gen retained emptied entries overflow =>
    .value 0 gen :: .value 1 retained :: .value 2 (yesNo emptied)
      :: (entries.toList.zip overflow.toList).flatMap fun p => [.value 3 p.1, .value 4 (yesNo p.2)]
  | .ladder c state phase baseline last step cause =>
    [.value 0 c.val, .value 1 state.ctorIdx, .maybe 2 (phase.map fun p => p.ctorIdx), .value 3 baseline, .value 4 last,
      .maybe 5 (step.map fun x => x.ctorIdx), .maybe 6 (cause.map fun x => x.ctorIdx)]
  | .mediaState path source profile pos remaining jam =>
    [.value 0 path.ctorIdx, .maybe 1 (source.map fun x => x.ctorIdx), .maybe 2 (profile.map fun x => x.val), absentOr 3 pos,
      absentOr 4 remaining, .maybe 5 (jam.map fun x => x.ctorIdx)]
  | .loadFailed source profile reason attempt skew =>
    [present 0 (source.map fun x => x.ctorIdx), present 1 (profile.map fun x => x.val), .value 2 reason.ctorIdx, .value 3 attempt,
      absentOr 4 skew]
  | .mediaShort form distance counts rest => [.value 0 form.ctorIdx, .value 1 distance, .value 2 counts, .value 3 rest]
  | .rollLow source remaining => [present 0 (source.map fun x => x.ctorIdx), .value 1 remaining]
  | .cutDone kind source remaining => [.value 0 kind.ctorIdx, present 1 (source.map fun x => x.ctorIdx), absentOr 2 remaining]

/-- The bytes of an event frame: tag 0, the time raised in 6 bytes, then the fields (Table 10.10.6). -/
def EventFrame.bytes (e : EventFrame) : List Byte :=
  envelope e.event.kind 0 (numberBytes 6 e.time ++ e.event.fields.flatMap (Field.bytes e.event.kind))

/-! ## Replies (Table 10.10.5) -/

/-- A queue entry of the STATUS READ reply (Table 10.7.1). -/
def StatusEntry.fields : StatusEntry → List Field
  | .swath phase slot => [.value 2 0, .value 3 phase.ctorIdx, .value 4 slot.val]
  | .advance phase distance counts remaining =>
    [.value 2 1, .value 3 phase.ctorIdx, .value 5 distance, absentOr 6 counts, absentOr 7 remaining]
  | .cut phase => [.value 2 2, .value 3 phase.ctorIdx]

/-- A channel of the STATUS READ reply (Table 10.7.1). -/
def StatusChannel.fields (c : StatusChannel) : List Field :=
  [.value 9 c.level, .value 10 (yesNo c.known), .value 11 c.reserved, .value 12 c.supply.ctorIdx, .value 13 c.cartridge.ctorIdx,
    .value 14 c.ladder.ctorIdx]

/-- The STATUS READ reply, in the order of Table 10.7.1. -/
def Status.fields (s : Status) : List Field :=
  [.value 0 s.time, .value 1 s.queue.length] ++ s.queue.flatMap StatusEntry.fields ++ [.value 8 s.holds.mask]
    ++ s.channels.toList.flatMap StatusChannel.fields
    ++ [.value 15 s.currentGen, absentOr 16 s.retainedGen, .value 17 (yesNo s.commitPending),
      .maybe 18 (s.station.map StationOp.kindCode), .maybe 19 (s.station.bind StationOp.target), .value 20 s.path.ctorIdx,
      absentOr 21 s.feedPos, absentOr 22 s.remaining, maskField s.conditions, .value 24 (latchCode s.stop.set),
      .maybe 25 (s.stop.cause.map fun x => x.ctorIdx), .maybe 26 (s.stop.cause.bind StopCause.detail)]

/-- A substitution entry of channel c: dead nozzle, resolved policy and substitute (R93, Table 5.1.2). -/
def SubEntry.fields (c : Channel) (e : SubEntry) : List Field :=
  match e.sub with
  | .partner partner n => [.value 3 e.dead, .value 4 Policy.partner.code, .maybe 5 (some partner.val), .maybe 6 (some n)]
  | .shift n => [.value 3 e.dead, .value 4 Policy.shift.code, .maybe 5 (some c.val), .maybe 6 (some n)]
  | .suppress => [.value 3 e.dead, .value 4 Policy.suppress.code, .maybe 5 none, .maybe 6 none]

/-- The fields of result data (R165); a record's fields and clamped values are coded as a TABLE WRITE codes them. CLAMPED names each clamped
field: its number and then the value stored, in the order in which the write names the fields (log 73). -/
def ReplyData.wire : ReplyData → List Field
  | .none => []
  | .clamped values => values.flatMap fun p => [.value 0 p.1, .value 1 p.2]
  | .fields values => values.map (.value 0)
  | .substitutions c gen overflow entries =>
    absentOr 0 gen :: .value 1 (yesNo overflow) :: .value 2 entries.length :: entries.flatMap (SubEntry.fields c)
  | .status s => s.fields
  | .conditions set => [maskField set]

/-- The bytes of a reply: kind 0x80, the tag of the request, its kind, the outcome and the result data (Table 10.10.5). -/
def Reply.bytes (r : Reply) : List Byte := envelope 0x80 r.tag (r.kind :: r.outcome.code :: r.data.wire.flatMap (Field.bytes r.kind))

/-- The bytes that the return direction sends after the start symbol (R165, R166). -/
def ReturnFrame.bytes : ReturnFrame → List Byte
  | .reply r => r.bytes
  | .event e => e.bytes

end Sys2Proof.Machine
end

