-- ==== Sys2Proof/Tests/Slice0.lean ====
section
/-!
SUPPORT. Tests: the well-formedness smoke test, small steps from the spec's worked examples, and a witness for each statement.
-/

open Sys2Proof Sys2Proof.Machine

namespace Sys2Proof.Tests

set_option Elab.async false

/-! ## Small states -/

/-- A frame waits alone in the receive buffer of an ALIGNED lane. -/
def asked (s : State) (kind : Byte) (body : List Byte) : State :=
  { s with lane := { s.lane with aligned := true, rx := [⟨kind, 9#8, body⟩] } }

/-- The state right after reset with a frame waiting. -/
abbrev asking (kind : Byte) (body : List Byte) : State := asked State.reset kind body

/-- The lane is ALIGNED. -/
def aligned : State := { State.reset with lane := { initLane with aligned := true } }

/-- A slot in a state with a bound generation, spanning every column. -/
def slotIn (st : SlotState) (g : Option Nat) : Slot := { blankSlot with state := st, last := 57599, gen := g }

/-- Slot 0 in a state. -/
def withSlot (s : State) (st : SlotState) (g : Option Nat) : State := { s with slots := setAt s.slots 0 (slotIn st g) }

/-- Roll 1 loaded with profile 2, READY at a position, driven by a motion. -/
def feeding (path : PathState) (pos tail : Option Nat) (m : Option Motion) : Feed :=
  { initFeed with path := path, source := some .roll1, profile := some 2, pos := pos, target := pos, tail := tail, cutter := .home
                  motion := m, attempt := 1 }

/-- The state right after reset with that media. -/
def fed (path : PathState) (pos tail : Option Nat) (m : Option Motion) : State :=
  { State.reset with feed := feeding path pos tail m }

/-- A motion, not paused, that has stood in its band since 0. -/
def moving (w : MotionWork) (o : Owner) : Motion := ⟨w, o, false, 0, some 0, 0, none⟩

/-- A request by the formatter. -/
def want (op : StationOp) : Request := ⟨op, none, byFormatter⟩

/-- An operation granted at 0 with a timeout at 50. -/
def flying (op : StationOp) (running : Bool) : OpInFlight := ⟨want op, 0, 50, running, none, defaultTables.spitCounts, false⟩

/-- That operation holds the carriage. -/
def holding (op : StationOp) (running docked : Bool) : State :=
  { State.reset with service := { initService with holder := .op (flying op running), docked := docked }
                     out := { initOutputs with carriage := .dock } }

/-- A FILL TO MARK of channel 0 in its stroke. -/
def filling : Refill := ⟨.fill, none, some 208, 0, 0, true, false, 10000000, 50000, 1500000, 9000000⟩

/-- A pass of slot 0 over columns 0 to 1. -/
def passing : PassContext :=
  ⟨0, .fwd, 0, 1, some 0, Vector.replicate 6 0, Vector.replicate 3 25, Vector.replicate 6 noGroups, Vector.replicate 6 0, 0, 1,
    false, none, Vector.replicate 6 (Vector.replicate 24 Counts.zero), Vector.replicate 6 noGroups, some 2000⟩

/-- Channel 0 and its ink: channel 0 bound to ink kind 0. -/
def bound : Tables := { defaultTables with channel := setAt defaultTables.channel 0 { defaultChannel 0 with kind := some 0 } }

/-- Cartridge slot 0 in a state, with its serial and the tag link. -/
def cart (st : CartState) (link : Option (TagTxn × Nat)) : Cartridge :=
  { initCartridge with state := st, serial := some 7, remaining := 200000, owed := 3, link := link }

/-- The state right after reset with that cartridge in slot 0. -/
def carted (st : CartState) (link : Option (TagTxn × Nat)) : State :=
  { State.reset with carts := setAt State.reset.carts 0 (cart st link) }

/-- Channel 0 is STARVED with an ink need of its ladder, which is SUSPENDED, and its tag is being read. -/
def starving : State :=
  let s : State := { carted .reading (some (.read, 20)) with
    tables := { bound with ink := setAt defaultTables.ink 0 { defaultInkKind with code := 31, accepted := Vector.replicate 6 true } }
    supply := setAt State.reset.supply 0 { initSupply with need := some ⟨.fill, none, byLadder⟩ }
    service := { initService with ladders := setAt initService.ladders 0 { initLadder with
      state := .suspended, suspStep := some .primeCheck, suspPhase := some .operation, cause := some .starved } } }
  { s with supply := Vector.ofFn fun c : Fin 6 => { s.supply[c] with state := s.formedSupply c } }

/-- That state with a CHECK of channel 0 in its sequence. -/
def checking : State :=
  { starving with service := { starving.service with holder := .op (flying (.check (channelSingle 0)) true), docked := true } }

/-- The command gives a next state of which p holds. -/
def after (c : Instr) (s : State) (p : State → Bool) : Bool :=
  match exec c s with
  | .next t => p t
  | _ => false

/-! ## Well-formedness: each check refuses an ill-formed command and takes the edge of its range -/

theorem test_wf_column : (Instr.columnStrobe 57600).wf = false ∧ (Instr.columnStrobe 57599).wf = true := by decide

theorem test_wf_dead_nozzle : (Instr.checkCompletion [(0, 767), (5, 768)]).wf = false ∧ (Instr.checkCompletion [(5, 767)]).wf = true := by
  decide

theorem test_wf_tag_answer :
    (Instr.tagBackwardFrame 0 (.readData 256 0 0 0)).wf = false ∧ (Instr.tagBackwardFrame 0 (.readData 0 1000001 0 0)).wf = false ∧
    (Instr.tagBackwardFrame 0 (.readData 0 0 1000001 0)).wf = false ∧ (Instr.tagBackwardFrame 0 (.readData 0 0 0 10000000000)).wf = false ∧
    (Instr.tagBackwardFrame 0 (.deductData 1000001)).wf = false ∧ (Instr.tagBackwardFrame 0 (.deductData 1000000)).wf = true := by
  decide

theorem test_wf_encoder : (Instr.feedEncoderCount 0).wf = false ∧ (Instr.feedEncoderCount (-1)).wf = true := by decide

theorem test_wf_raw : (Instr.conversionEnd 4096).wf = false ∧ (Instr.conversionEnd 4095).wf = true := by decide

/-! ## The table gives no row any bits: no word spells a command -/

theorem test_no_word_is_a_command : decodeTableWord 8 1 = none := rfl

/-! ## Ink arithmetic, the worked figures of 3.6 -/

theorem test_product_of_3_6_1 : dropProduct 40 75 120 25 38 ⟨1200000, 850000, 2400000⟩ 3840 = 4132176510000 := by decide +kernel

theorem test_estimate_of_3_6_1 : estimateOf 4132176510000 = 41322 := by decide +kernel

theorem test_debit_of_3_6_1 : debitOf 4132176510000 37000000 = (41322, 13510000) ∧ debitOf 4132176510000 0 = (41321, 76510000) := by
  decide +kernel

theorem test_debit_of_the_aborted_pass :
    debitOf (dropProduct 40 75 120 25 38 ⟨500000, 310000, 1003840⟩ 0) 92000000 = (16904, 6010000) := by decide +kernel

theorem test_spit_with_a_stale_temperature : debitOf (dropProduct 40 75 120 25 70 ⟨0, 0, 30720⟩ 0) 13510000 = (410, 24710000) := by
  decide +kernel

theorem test_temperature_clamped : tempFactor 60 74 = 12700 ∧ tempFactor 60 (-40) = 8800 := by decide +kernel

theorem test_debit_above_the_level : (({ initAccount with level := 300, known := true } : Account).charge 410) = initAccount := by
  decide +kernel

/-! ## Feed, the worked figures of 7.2.1, 7.3.1 and 7.6.1 -/

theorem test_skew_of_7_2_1 : skewOf 48210 49210 = 1640 ∧ skewOf 47905 48605 = 1148 := by decide

theorem test_three_advances :
    advanceCounts 16256 0 0 = (10837, 1000000) ∧ advanceCounts 16256 0 1000000 = (10837, 2000000) ∧
    advanceCounts 16256 0 2000000 = (10838, 0) := by decide +kernel

theorem test_advance_with_calibration : advanceCounts 4064 (-1250) 1400000 = (2706, 1240000) := by decide +kernel

theorem test_last_advance_of_11_1 : advanceCounts 100000 0 1000000 = (66667, 0) := by decide +kernel

theorem test_drying_delay_of_7_6_1 : dryingDelay { defaultProfile with dryPerUl := 150 } 212640 true = 50844 := by decide +kernel

theorem test_window_drops_the_oldest : appendWindow 9000 [48310, 61095, 52780, 50455] = [61095, 52780, 50455, 9000] := by decide

/-! ## Sensing: results, and the ring of 8.6 -/

theorem test_scaling_rounds_down : scaled ⟨4096, -40, 1000⟩ 100 = 60 ∧ scaled ⟨-1, 0, 1000⟩ 1 = -1 := by decide

theorem test_sweep_wraps :
    ({ initScan with startIn := 9, endIn := 2, mode := .triggered } : Scan).after 11 = some 0 ∧
    ({ initScan with startIn := 9, endIn := 2, mode := .triggered } : Scan).after 2 = none ∧
    ({ initScan with startIn := 9, endIn := 2 } : Scan).after 2 = some 9 := by decide

/-! ## The lane -/

theorem test_frame_is_placed :
    after (.forwardFrameReceived (Frame.bytes ⟨0x06#8, 1#8, []⟩)) aligned (fun t => t.lane.rx = [⟨0x06#8, 1#8, []⟩]) = true := by
  decide +kernel

theorem test_bad_check_raises_lane_error :
    after (.forwardFrameReceived [0x06#8, 1#8, 0#8, 0#8, 0#8, 0#8]) aligned
      (fun t => t.lane.rx = [] ∧ t.lane.sending = some (.event ⟨0, .condition (.laneError .check)⟩)) = true := by
  decide +kernel

theorem test_lane_reset_damages : after .laneReset (withSlot aligned .composing (some 0))
    (fun t => t.slots[(0 : SlotIx)].state = .damaged ∧ t.slots[(0 : SlotIx)].gen = none ∧ t.lane.conditions.laneError) = true := by
  decide +kernel

/-- Tables 10.10.1, 10.10.4 and 10.10.5: the reply DONE to a CAP of tag 7; the frame check by hand. -/
theorem test_reply_bytes : (ReturnFrame.reply ⟨0x10#8, 7#8, .done, .none⟩).bytes
    = [0x80#8, 7#8, 0#8, 2#8, 0x10#8, 0#8, 0xD0#8, 0xF7#8] := by decide +kernel

/-- Tables 10.10.4 and 10.10.6: a CUT DONE raised at 65,538 ms opens with its kind, tag 0 and, after the length, the time in 6 bytes. -/
theorem test_event_bytes : ∀ e : EventFrame, e = ⟨65538, .cutDone .cut (some .roll2) none⟩ →
    e.bytes.take 2 = [0x97#8, 0#8] ∧ (e.bytes.drop 4).take 6 = [0#8, 0#8, 0#8, 1#8, 0#8, 2#8] := by
  rintro _ rfl
  exact ⟨rfl, rfl⟩

/-- Tables 10.10.3 and 10.10.7: CLEAR CONDITIONS answers with the conditions cleared in one mask byte, JAM in bit 3. -/
theorem test_clear_conditions_mask_is_one_byte :
    (ReturnFrame.reply ⟨0x1B#8, 9#8, .done, .conditions { jam := true }⟩).bytes.take 7 = [0x80#8, 9#8, 0#8, 3#8, 0x1B#8, 0#8, 0x08#8] := by
  decide +kernel

theorem test_unknown_kind_is_answered :
    after .unknownFrame (asking 0x1C#8 []) (fun t => t.lane.sending = some (.reply ⟨0x1C#8, 9#8, .unknown, .none⟩)) = true := by
  decide +kernel

/-! ## Swath composition, 1.9 -/

/-- Slot 3's bank of 1.9 in its entries for channel 0, and the slot COMPOSING under it. -/
def composing : State :=
  { State.reset with
    lane := { initLane with aligned := true }
    maps := { initMaps with
      currentGen := 12
      current := { emptyBank with lists := setAt emptyBank.lists 0 [⟨100, .partner 1 100⟩, ⟨205, .shift 206⟩] } }
    slots := setAt State.reset.slots 3 { slotIn .composing (some 12) with first := 1000, last := 8199 } }

/-- One column of group 3 with a large drop on every nozzle, at columns 1,000 to 1,001, for channel 0 of slot 3. -/
def largeGroup : List Byte :=
  [3#8, 0#8, 0x03#8, 0xE8#8, 1#8, 0#8, 2#8, 0#8, 0#8, 8#8] ++ List.replicate 8 0xFF#8

theorem test_slice_counts_by_substitution : after .slice (asked composing 0x02#8 largeGroup)
    (fun t => t.slots[(3 : SlotIx)].arrival[(0 : Channel)] = ⟨0, 0, 62⟩ ∧ t.slots[(3 : SlotIx)].arrival[(1 : Channel)] = ⟨0, 0, 2⟩ ∧
      t.slots[(3 : SlotIx)].lastWritten[(0 : Channel)] = some 1001 ∧ t.slots[(3 : SlotIx)].slices = 1 ∧
      storedCode t.store 3 0 1001 127 = some .large ∧ storedCode t.store 3 0 1002 127 = none) = true := by
  decide +kernel

theorem test_slice_out_of_order : after .slice
    (asked { composing with slots := modifyAt composing.slots 3 fun sl => { sl with lastWritten := setAt sl.lastWritten 0 (some 1000) } }
      0x02#8 largeGroup)
    (fun t => t.slots[(3 : SlotIx)].slices = 1 ∧
      t.lane.sending = some (.event ⟨0, .sliceRefused (some 3) (some 0) (some 1000) .order (some 1)⟩)) = true := by
  decide +kernel

theorem test_close_with_a_wrong_count : after .swathClose (asked composing 0x03#8 [3#8, 0#8, 0#8, 0#8, 4#8])
    (fun t => t.slots[(3 : SlotIx)].state = .damaged ∧ t.queue = [] ∧
      t.lane.sending = some (.reply ⟨0x03#8, 9#8, .mismatch, .none⟩)) = true := by
  decide +kernel

theorem test_close_queues : after .swathClose (asked composing 0x03#8 [3#8, 0#8, 0#8, 0#8, 0#8])
    (fun t => t.slots[(3 : SlotIx)].state = .queued ∧ t.queue = [⟨.swath 3 false, .waiting⟩]) = true := by
  decide +kernel

/-! ## The pass, 2.7: the traverse, and two codes on one nozzle -/

theorem test_traverse_of_2_7 :
    traverse { slotIn .queued (some 12) with
        first := 1000, last := 8199
        groups := setAt (setAt (setAt blankSlot.groups 0 (GroupSet.insert 3 noGroups)) 1 (GroupSet.insert 3 noGroups)) 2
          (GroupSet.insert 9 noGroups) }
      #v[0, 120, -300, 0, 0, 0] = (700, 8319) := by
  decide +kernel

/-- A pass under the bank of `composing` over one column, in which channel 0's nozzles 205 and 206 hold a medium code each. -/
def merging : State :=
  { composing with
    driveEnable := true
    store := [(storeAddress 3 0 0 + 51, 0x28#8)]
    pass := some { passing with slot := 3, gen := some 12, colB := 0, last := 0, spitDone := true } }

theorem test_shifted_code_merges : after (.columnStrobe 0) merging
    (fun t => t.out.firing[(0 : Channel)] = [(206, .medium)] ∧
      t.pass.map (fun p => (p.output[(0 : Channel)][(6 : Fin 24)], p.deadline)) = some (⟨0, 1, 0⟩, none)) = true := by
  decide +kernel

/-- Group 23 of channel 0 is to spit 40 drops a nozzle: nozzles 736 to 767 are sent, 40 large drops each, 1,280 in the group (R33). -/
theorem test_spit_is_sent_to_the_head : after .spittoonStrobe
    { merging with pass := some { passing with
        spit := setAt passing.spit 0 (GroupSet.insert 23 noGroups), burst := setAt passing.burst 0 1280 } }
    (fun t => t.out.firing[(0 : Channel)] = (List.range 32).map (fun n => (736 + n, .large)) ∧ t.out.firing[(1 : Channel)] = [] ∧
      t.out.shots[(0 : Channel)] = 40 ∧ t.pass.map (fun p => p.output[(0 : Channel)][(23 : Fin 24)]) = some ⟨0, 0, 1280⟩) = true := by
  decide +kernel

theorem test_wrong_column_is_ignored : after (.columnStrobe 1) merging (fun t => t = merging) = true := by decide +kernel

/-! ## Media, 7.4.1 and 7.8 -/

theorem test_tail_event_sets_the_tail : after (.rawInputChange 2 false)
    { fed .ready (some 130000) none (some { moving (.advance 60000 40000 false) .entry with inBandSince := none }) with
      inputs := setAt State.reset.inputs 2 ⟨some true, none⟩
      tables := { defaultTables with input := setAt defaultTables.input 2 ⟨0, .none, .none⟩ } }
    (fun t => t.feed.path = .tailOut ∧ t.feed.tail = some 158000 ∧ t.feed.remaining = some 28000) = true := by
  decide +kernel

theorem test_short_advance : after .advanceSettled
    { fed .tailOut (some 158000) (some 158000) (some (moving (.advance 60000 40000 true) .entry)) with
      now := 20, queue := [⟨.advance 60000 (some 40000) (some 2000) false, .active⟩]
      feed := { feeding .tailOut (some 158000) (some 158000) (some (moving (.advance 60000 40000 true) .entry)) with
        target := some 160000 }
      lane := { initLane with aligned := true } }
    (fun t => t.queue = [] ∧ t.feed.target = some 158000 ∧ t.lane.sending = some (.event ⟨20, .mediaShort .short 60000 40000 2000⟩)) =
      true := by
  decide +kernel

theorem test_cut_starts_and_times_4000_ms : after .cutStart { fed .ready (some 857792) none none with queue := [⟨.cut, .waiting⟩] }
    (fun t => t.feed.path = .cutting ∧ t.feed.cutter = .cutting ∧ t.feed.motion.map (·.work) = some (.cut 4000 false)) = true := by
  decide +kernel

theorem test_cut_timeout_jams : after .cutTimeout { fed .cutting (some 0) none (some (moving (.cut 4000 true) .entry)) with
      now := 4000, queue := [⟨.cut, .active⟩] }
    (fun t => t.feed.path = .jammed ∧ t.feed.jam = some .cutter ∧ t.queue = [] ∧ t.lane.conditions.jam) = true := by
  decide +kernel

/-- R135: a cut stopped while DI8 still reads active returns home with 4,000 ms, DI8's loss on the way does not change that, and the
return fails when its time is up. -/
theorem test_stopped_cut_returns_home :
    let cutting := fed .cutting (some 0) none (some (moving (.cut 4000 false) .entry))
    let s := { cutting with now := 10, inputs := setAt State.reset.inputs 8 ⟨some true, none⟩
                            tables := { defaultTables with input := setAt defaultTables.input 8 ⟨0, .none, .none⟩ } }
    let stopped := s.setStop (.input 6)
    stopped.feed.cutter = .returning ∧ stopped.feed.motion.map (·.work) = some (.cut 4010 false) ∧
    after (.rawInputChange 8 false) stopped (fun t => t.feed.cutter = .returning ∧
      after .cutTimeout { t with now := 4010 } (fun u => u.feed.jam = some .cutter ∧ u.feed.motion = none)) = true := by
  decide +kernel

/-- R129, R130, R135: a cutter back at 4,000 ms completes the cut, one back at 4,001 ms has failed it; so has a late return of a paused cut. -/
theorem test_late_cutter_return_fails :
    let cut (now : Nat) (paused : Bool) : State := { fed .cutting (some 7) none (some { moving (.cut 4000 true) .entry with paused := paused }) with
      now := now, queue := [⟨.cut, .active⟩], inputs := setAt State.reset.inputs 8 ⟨some false, none⟩
      tables := { defaultTables with input := setAt defaultTables.input 8 ⟨0, .none, .none⟩ } }
    let back (s : State) : State := { s with feed := { s.feed with cutter := .returning } }
    after (.rawInputChange 8 true) (cut 4000 false) (fun t => t.feed.path = .ready ∧ t.feed.pos = some 0 ∧ t.queue = []) = true ∧
    after (.rawInputChange 8 true) (cut 4001 false) (fun t => t.feed.jam = some .cutter ∧ t.feed.pos = some 7 ∧ t.queue = []) = true ∧
    after (.rawInputChange 8 true) (back (cut 4000 true)) (fun t => t.feed.cutter = .home ∧ t.feed.motion.isSome) = true ∧
    after (.rawInputChange 8 true) (back (cut 4001 true)) (fun t => t.feed.jam = some .cutter ∧ t.feed.motion = none) = true := by
  decide +kernel

/-- R123: 300 ms without progress, a stop of 1,000 ms, and 199 ms more are no stall; one ms later is. -/
theorem test_stall_time_is_held_while_paused :
    let s := { fed .ejecting none none (some { moving (.eject none) .request with inBandSince := none }) with now := 300 }
    let resumed := ({ (s.setStop (.input 6)) with now := 1300 } : State).resumeMotion
    after .feedStall { resumed with now := 1499 } (fun t => t.feed.path = .ejecting) = true ∧
    after .feedStall { resumed with now := 1500 } (fun t => t.feed.jam = some .stall) = true := by
  decide +kernel

/-- R123: an eject that stands in its settle band without progress stalls; an advance in its band does not. -/
theorem test_only_an_advance_rests_in_its_band :
    after .feedStall { fed .ejecting none none (some { moving (.eject (some 0)) .request with count := 133334 }) with now := 500 }
      (fun t => t.feed.jam = some .stall) = true ∧
    after .feedStall { fed .ready (some 5) none (some { moving (.advance 1 1 false) .entry with count := 1 }) with now := 500 }
      (fun t => t.feed.path = .ready ∧ t.feed.motion.isSome) = true := by
  decide +kernel

/-! ## Station, ladder and supply -/

theorem test_check_enters_the_ladder : after (.checkCompletion [(5, 1), (5, 2), (5, 3), (5, 767)])
    (holding (.check (channelSingle 5)) true true)
    (fun t => t.service.ladders[(5 : Channel)].state = .wipeCheck ∧ t.service.holder = .free ∧
      t.maps.next.lists[(5 : Channel)].map (·.dead) = [1, 2, 3, 767]) = true := by
  decide +kernel

theorem test_mark_ends_a_fill : after .refillStrokeComplete
    { holding (.fillToMark 0) true true with
      supply := setAt State.reset.supply 0 { initSupply with refill := some { filling with
        strokes := 137, drawn := 6850000, markSeen := true } }
      accounts := setAt State.reset.accounts 0 { initAccount with level := 6850000 }
      carts := setAt State.reset.carts 0 { initCartridge with state := .accepted, remaining := 405450000 } }
    (fun t => t.accounts[(0 : Channel)] = { initAccount with level := 10000000, known := true } ∧ t.supply[(0 : Channel)].refill = none ∧
      t.carts[(0 : Channel)].remaining = 405400000 ∧ t.carts[(0 : Channel)].owed = 6900) = true := by
  decide +kernel

/-- R73, R79, R156: a cartridge EMPTY at the larger stroke volume of a grant stays so at a write of the floor (field 3), and is formed
again at one of the stroke volume (field 7). -/
theorem test_floor_write_keeps_the_cartridge :
    after .tableWrite (asked (carted .empty none) 0x18#8 [1#8, 0#8, 1#8, 3#8, 0#8, 0#8, 0#8, 0#8])
      (fun t => t.carts[(0 : Channel)].state = .empty) = true ∧
    after .tableWrite (asked (carted .empty none) 0x18#8 [1#8, 0#8, 1#8, 7#8, 0#8, 0#8, 0xC3#8, 0x50#8])
      (fun t => t.carts[(0 : Channel)].state = .low) = true := by
  decide +kernel

/-- R115, R116: a LADDER request without a ladder in a step leaves with RESET LADDER, and a CHECK that others asked for stays. -/
theorem test_reset_ladder_drops_its_requests : after .resetLadder
    { asking 0x12#8 [5#8] with service := { initService with pending :=
        [⟨.wipe 2, none, byLadder⟩, ⟨.check (channelSingle 5), none, byLadder.union byFormatter⟩] } }
    (fun t => t.service.pending = [⟨.check (channelSingle 5), none, byFormatter⟩]) = true := by
  decide +kernel

theorem test_tag_identifies : after (.tagBackwardFrame 0 (.readData 31 700000 412300 5120774019))
    { carted .reading (some (.read, 20)) with tables := { bound with
      ink := setAt defaultTables.ink 0 { defaultInkKind with code := 31, accepted := Vector.replicate 6 true } } }
    (fun t => t.carts[(0 : Channel)].state = .accepted ∧ t.carts[(0 : Channel)].remaining = 412300000) = true := by
  decide +kernel

/-! ## Stop and reset -/

theorem test_cover_opened_stops_the_pass : after (.inputFilterExpiry 6)
    { merging with now := 80004, inputs := setAt State.reset.inputs 6 ⟨some true, some ⟨false, 80000, 4⟩⟩ }
    (fun t => t.stop = ⟨true, some (.input 6)⟩ ∧ t.pass = none ∧ t.driveEnable = false ∧ t.slots[(3 : SlotIx)].state = .free) = true := by
  decide +kernel

theorem test_resume_with_the_cover_open : after .resume
    (asked { State.reset with stop := ⟨true, some (.input 6)⟩, inputs := setAt State.reset.inputs 6 ⟨some false, none⟩ } 0x08#8 [])
    (fun t => t.stop.set ∧ t.lane.sending = some (.reply ⟨0x08#8, 9#8, .state, .none⟩)) = true := by
  decide +kernel

theorem test_clamped_write_stores_the_limit :
    after .tableWrite (asking 0x18#8 [0#8, 0#8, 1#8, 8#8, 0#8, 0#8, 0#8, 201#8])
      (fun t => t.tables.ink[(0 : Fin 16)].spitCount = 200 ∧
        t.lane.sending = some (.reply ⟨0x18#8, 9#8, .clamped, .clamped [(8, 200)]⟩)) = true := by
  decide +kernel

theorem test_engine_reset_line_empties : after .engineResetLine { composing with queue := [⟨.cut, .waiting⟩] }
    (fun t => t.queue = [] ∧ t.slots[(3 : SlotIx)] = blankSlot ∧ t.maps.currentGen = 12 ∧ t.service.docked = false) = true := by
  decide +kernel

/-! ## Each statement's hypotheses are met: one theorem for each, named after it, with states at the edges of its clauses -/

theorem witness_StepRunsTheFrontCommand : State.reset.pending = [] := rfl

theorem witness_ForwardFrameIsPlacedOrDiscarded :
    State.reset.lane.aligned = false ∧ aligned.lane.aligned = true ∧
    checkFrame (Frame.bytes ⟨0x06#8, 1#8, []⟩) = .ok ⟨0x06#8, 1#8, []⟩ ∧ checkFrame [0x06#8] = .error .length ∧
    checkFrame [0x06#8, 1#8, 0#8, 0#8, 0#8, 0#8] = .error .check ∧
    (List.replicate 31 (⟨0x06#8, 1#8, []⟩ : Frame)).length < 32 ∧ 32 ≤ (List.replicate 32 (⟨0x06#8, 1#8, []⟩ : Frame)).length := by
  decide +kernel

theorem witness_FrameBytesPassTheChecks :
    (⟨0x02#8, 1#8, List.replicate 12320 0#8⟩ : Frame).body.length ≤ 12320 ∧
    (let f : Frame := ⟨0x06#8, 1#8, []⟩; f.bytes ≠ f.bytes.dropLast.dropLast ++ [0#8, 0#8] ∧ 5 < f.bytes.length) ∧
    12320 < (0x30#8 : Byte).toNat * 256 + (0x21#8 : Byte).toNat := by
  refine ⟨(List.length_replicate ..).le, by decide +kernel, by decide +kernel⟩

/-- A reply is being sent, no other waits, an event does, and so does the overflow notice. -/
def sendingReply : State :=
  { aligned with lane := { aligned.lane with
      sending := some (.reply ⟨0x06#8, 1#8, .done, .none⟩), events := [⟨0, .rollLow none 0⟩], notice := true } }

theorem witness_ReturnDirectionTakesRepliesFirst :
    (aligned.lane.sending = none ∧ State.reset.lane.aligned = false) ∧ sendingReply.lane.aligned = true ∧
    sendingReply.lane.sending = some (.reply ⟨0x06#8, 1#8, .done, .none⟩) ∧ sendingReply.lane.replies = [] ∧
    sendingReply.lane.events = [⟨0, .rollLow none 0⟩] ∧ sendingReply.lane.notice = true := by
  decide +kernel

theorem witness_LaneResetDamagesComposingSlots :
    (withSlot aligned .composing (some 0)).lane.aligned = true ∧ (withSlot aligned .composing (some 0)).slots[(0 : SlotIx)].state = .composing ∧
    aligned.lane.conditions.laneError = false ∧ State.reset.lane.aligned = false := by
  decide +kernel

theorem witness_UnknownAndMisshapenRequestsAreAnswered :
    isForwardKind 0x00#8 = false ∧ isForwardKind 0x1C#8 = false ∧ (asking 0x1C#8 []).asks 0x1C#8 9#8 [] ∧
    (Instr.cut, 0x06#8, 0) ∈ fixedRequests ∧ (asking 0x06#8 [0#8]).asks 0x06#8 9#8 [0#8] ∧ ([0#8] : List Byte).length ≠ 0 ∧
    8 ≤ (List.replicate 8 (⟨0x06#8, 1#8, .done, .none⟩ : Reply)).length := by
  decide +kernel

theorem witness_ReadsReportWhatIsStored :
    (asking 0x1A#8 []).asks 0x1A#8 9#8 [] ∧ (holding .cap true true).service.holder = .op (flying .cap true) ∧
    (fed .tailOut (some 130000) (some 158000) none).feed.path = .tailOut ∧
    readRecord 5 15 State.reset ≠ none ∧ readRecord 5 16 State.reset = none ∧ (asking 0x19#8 [5#8, 15#8]).asks 0x19#8 9#8 [5#8, 15#8] ∧
    byteBank 2#8 = some .next ∧ byteBank 3#8 = none ∧ (asking 0x19#8 [6#8, 2#8, 5#8]).asks 0x19#8 9#8 [6#8, 2#8, 5#8] ∧
    (asking 0x19#8 [5#8]).asks 0x19#8 9#8 [5#8] ∧ ([5#8] : List Byte).length ≠ 2 ∧ ([5#8] : List Byte).length ≠ 3 ∧
    (asking 0x19#8 [5#8, 0#8, 0#8]).asks 0x19#8 9#8 [5#8, 0#8, 0#8] := by
  decide +kernel

theorem witness_ClearConditionsClearsTheNamed :
    (asking 0x1B#8 [127#8]).asks 0x1B#8 9#8 [127#8] ∧ (127#8 : Byte).toNat < 128 ∧ 128 ≤ (128#8 : Byte).toNat ∧
    (16#8 : Byte).toNat.testBit 4 = true ∧
    ∃ s : State, s.lane.conditions.stationFault = true ∧ s.tables.service.wipeInterval ≤ s.service.drops[(0 : Head)] ∧
      s.service.wipeAsked 0 = false := by
  refine ⟨by decide +kernel, by decide, by decide, by decide, { State.reset with
    lane := { initLane with conditions := { stationFault := true } }
    service := { initService with drops := Vector.replicate 3 400000000 } }, by decide +kernel⟩

/-- SWATH OPEN of slot 0, FWD, columns 0 to 57,599, with slot 0 in a state and a commit pending or not. -/
def opening (st : SlotState) (g : Option Nat) (commit : Bool) : State :=
  { withSlot (asking 0x01#8 [0#8, 0#8, 0#8, 0#8, 0xE0#8, 0xFF#8]) st g with maps := { initMaps with commitPending := commit } }

theorem witness_SwathOpenClaimsAFreeSlot :
    (opening .free none false).asks 0x01#8 9#8 [0#8, 0#8, 0#8, 0#8, 0xE0#8, 0xFF#8] ∧ bigEndian [0xE0#8, 0xFF#8] ≤ 57599 ∧
    bigEndian [0xE1#8, 0x00#8] = 57600 ∧ (opening .free none false).slots[(0 : SlotIx)].state = .free ∧
    (opening .damaged none false).slots[(0 : SlotIx)].state ≠ .free ∧ (opening .free none false).maps.commitPending = false ∧
    byteDir 0#8 = some .fwd ∧ 8 ≤ (8#8 : Byte).toNat ∧ 2 ≤ (2#8 : Byte).toNat ∧ bigEndian [0#8, 0#8] < bigEndian [0#8, 1#8] := by
  decide +kernel

theorem witness_SwathOpenPerformsAPendingCommit :
    (opening .free none true).maps.commitPending = true ∧ (opening .free none true).maps.retainedGen = none ∧
    (∀ j : SlotIx, ¬ (opening .free none true).refersTo j 0) ∧
    ∃ s : State, s.slots[(0 : SlotIx)].state = .free ∧ s.maps.retainedGen = some 4 ∧ s.refersTo 1 4 ∧ s.refersTo 2 s.maps.currentGen := by
  refine ⟨by decide +kernel, by decide +kernel, by decide +kernel, { State.reset with
    slots := setAt (setAt State.reset.slots 1 (slotIn .queued (some 4))) 2 (slotIn .composing (some 5))
    maps := { initMaps with currentGen := 5, retainedGen := some 4 } }, by decide +kernel⟩

/-- A slice of one column of group 0 for slot 0, channel 0: its body, and what it reads as. -/
def sliceBody : List Byte := [0#8, 0#8, 0#8, 100#8, 1#8, 0#8, 1#8, 0#8, 0#8, 1#8, 0xFF#8, 0#8, 0#8, 0#8, 0#8, 0#8, 0#8, 0#8]

/-- That slice's parameters. -/
def sliceArgs : SliceArgs := ⟨0, 0, 100, 1, 1, 1, [0xFF#8, 0#8, 0#8, 0#8, 0#8, 0#8, 0#8, 0#8]⟩

theorem witness_RefusedSliceOnlyCounts :
    (asking 0x02#8 []).lane.rx.head? = some ⟨0x02#8, 9#8, []⟩ ∧ readSlice [] = none ∧ readSlice sliceBody = some sliceArgs ∧
    (readSlice (8#8 :: sliceBody.tail)).map (·.slot) = some 8 ∧ State.reset.slots[(0 : SlotIx)].state ≠ .composing ∧
    (withSlot State.reset .composing (some 0)).slots[(0 : SlotIx)].state = .composing ∧
    ¬ ({ sliceArgs with count := 65 } : SliceArgs).fits (slotIn .composing (some 0)) ∧ sliceArgs.fits (slotIn .composing (some 0)) ∧
    ({ slotIn .composing (some 0) with lastWritten := Vector.replicate 6 (some 100) } : Slot).lastWritten[(0 : Channel)] = some 100 := by
  decide +kernel

theorem witness_AcceptedSliceStoresAndCounts :
    let s := withSlot (asking 0x02#8 sliceBody) .composing (some 0)
    s.lane.rx.head? = some ⟨0x02#8, 9#8, sliceBody⟩ ∧ readSlice sliceBody = some sliceArgs ∧ s.slots[(0 : SlotIx)].state = .composing ∧
      sliceArgs.fits s.slots[(0 : SlotIx)] ∧ s.slots[(0 : SlotIx)].lastWritten[(0 : Channel)] = none ∧ Memory.wf s.store ∧
      ∀ d : Channel, s.slots[(0 : SlotIx)].arrival[d].small ≤ 44236800 ∧ s.slots[(0 : SlotIx)].withheld[d] ≤ 44236800 := by
  decide +kernel

/-- Slot 0 alone refers to the Retained generation 4. -/
def lastReference : State :=
  { withSlot State.reset .composing (some 4) with maps := { initMaps with retainedGen := some 4, nextGen := 7 } }

theorem witness_SwathCloseAndDiscardEndComposition :
    (asking 0x03#8 [7#8, 0#8, 0#8, 0#8, 0#8]).asks 0x03#8 9#8 [7#8, 0#8, 0#8, 0#8, 0#8] ∧ (asking 0x04#8 [8#8]).asks 0x04#8 9#8 [8#8] ∧
    (withSlot State.reset .composing (some 0)).slots[(0 : SlotIx)].slices = bigEndian [0#8, 0#8, 0#8, 0#8] ∧
    (withSlot State.reset .composing (some 0)).slots[(0 : SlotIx)].slices ≠ bigEndian [0#8, 0#8, 0#8, 1#8] ∧
    16 ≤ (List.replicate 16 (⟨.cut, .waiting⟩ : Entry)).length ∧ (List.replicate 15 (⟨.cut, .waiting⟩ : Entry)).length < 16 ∧
    (withSlot State.reset .printing (some 0)).slots[(0 : SlotIx)].state = .printing ∧
    (withSlot State.reset .damaged none).slots[(0 : SlotIx)].state = .damaged ∧
    lastReference.slots[(0 : SlotIx)].state = .composing ∧ lastReference.refersTo 0 4 ∧ ¬ lastReference.refersTo 1 4 := by
  decide +kernel

/-- R12, R83: a close with a wrong slice count ends the last reference to the Retained generation, which is emptied. -/
theorem test_mismatch_empties_retained : after .swathClose (asked lastReference 0x03#8 [0#8, 0#8, 0#8, 0#8, 9#8])
    (fun t => t.slots[(0 : SlotIx)].state = .damaged ∧ t.maps.retainedGen = none ∧ t.maps.nextGen = 7) = true := by
  decide +kernel

theorem witness_AdvanceAndCutAppendEntries :
    (asking 0x05#8 [0x16#8, 0xE3#8, 0x60#8]).asks 0x05#8 9#8 [0x16#8, 0xE3#8, 0x60#8] ∧ bigEndian [0x16#8, 0xE3#8, 0x60#8] = 1500000 ∧
    bigEndian [0#8, 0#8, 1#8] = 1 ∧ bigEndian [0#8, 0#8, 0#8] < 1 ∧ (asking 0x06#8 []).asks 0x06#8 9#8 [] := by
  decide +kernel

theorem witness_AbortAndResume :
    (asking 0x07#8 []).asks 0x07#8 9#8 [] ∧ (asking 0x08#8 []).asks 0x08#8 9#8 [] ∧ ¬ State.reset.stopping ∧
    (({ State.reset with pass := some passing } : State).pass.isSome = true) ∧
    ({ State.reset with inputs := setAt State.reset.inputs 6 ⟨some false, none⟩ } : State).stopping ∧
    (moving (.cut 4000 false) .entry).work.kind = .cut ∧
    (moving (.advance 1 0 false) .entry).work.kind = .advance ∧
    (feeding .ready (some 5) none none).inBand (moving (.advance 1 0 false) .entry) = true ∧
    ({ moving (.eject (some 0)) .request with count := 133334 } : Motion).work.kind ≠ .advance ∧
    (feeding .ejecting none none none).inBand { moving (.eject (some 0)) .request with count := 133334 } = true := by
  have cover : ({ State.reset with inputs := setAt State.reset.inputs 6 ⟨some false, none⟩ } : State).stopping :=
    .inl ⟨6, .inr (by decide +kernel)⟩
  and_intros <;> first | exact cover | decide +kernel

theorem witness_LoadMediaBeginsALoad :
    (asking 0x0A#8 [0#8, 15#8, 4#8, 0x93#8, 0xE0#8]).asks 0x0A#8 9#8 [0#8, 15#8, 4#8, 0x93#8, 0xE0#8] ∧
    bigEndian [4#8, 0x93#8, 0xE0#8] = 300000 ∧ byteSource 0#8 = some .roll1 ∧ byteSource 3#8 = none ∧
    (asking 0x0A#8 []).feed.path = .empty ∧ (asking 0x0A#8 []).stop.set = false ∧ ¬ sourceAbsent (asking 0x0A#8 []) .roll1 ∧
    sourceAbsent { State.reset with inputs := setAt State.reset.inputs 3 ⟨some true, none⟩ } .roll1 := by
  simp only [sourceAbsent]; decide +kernel

theorem witness_UnloadAndEjectBegin :
    (asked (fed .ready (some 0) none none) 0x0B#8 []).asks 0x0B#8 9#8 [] ∧ (fed .ready (some 0) none none).feed.source = some .roll1 ∧
    (fed .jammed (some 0) none none).feed.path = .jammed ∧ (fed .tailOut (some 0) (some 28000) none).feed.path = .tailOut ∧
    (fed .ready (some 0) none none).stop.set = false ∧ (fed .ready (some 0) none none).feed.motion = none := by
  decide +kernel

theorem witness_StationRequestsWaitPending :
    (asking 0x0D#8 [2#8]).asks 0x0D#8 9#8 [2#8] ∧ 3 ≤ (3#8 : Byte).toNat ∧ (asking 0x0E#8 [5#8]).asks 0x0E#8 9#8 [5#8] ∧
    State.reset.tables.channel[(5 : Channel)].kind = none ∧ bound.channel[(0 : Channel)].kind ≠ none ∧
    (asking 0x0F#8 [63#8]).asks 0x0F#8 9#8 [63#8] ∧ 64 ≤ (64#8 : Byte).toNat ∧ (asking 0x10#8 []).asks 0x10#8 9#8 [] ∧
    State.reset.queue = [] ∧ State.reset.service.capped = true ∧ State.reset.service.uncapInFlight = false ∧
    ({ initService with capped := false } : Service).capped = false := by
  decide +kernel

theorem witness_CartridgeRequestsStartFillAndReading :
    (asked (carted .low none) 0x11#8 [0#8]).asks 0x11#8 9#8 [0#8] ∧ (carted .low none).carts[(0 : Channel)].state = .low ∧
    (asked (carted .tagFault none) 0x14#8 [0#8]).asks 0x14#8 9#8 [0#8] ∧ (carted .tagFault none).carts[(0 : Channel)].state = .tagFault ∧
    State.reset.carts[(5 : Channel)].state = .absent ∧ (carted .reading none).carts[(0 : Channel)].state = .reading ∧
    6 ≤ (6#8 : Byte).toNat := by
  decide +kernel

theorem witness_ResetLadderReturnsToNormal :
    (asking 0x12#8 [5#8]).asks 0x12#8 9#8 [5#8] ∧ (5#8 : Byte).toNat = (5 : Channel).val ∧ 6 ≤ (6#8 : Byte).toNat ∧
    byLadder.ladder = true ∧ (asking 0x12#8 [5#8]).SupplyInv := by
  unfold State.SupplyInv; decide +kernel

theorem witness_MapEditsChangeOnlyTheNextBank :
    (asking 0x13#8 []).asks 0x13#8 9#8 [] ∧ bigEndian [2#8, 0xFF#8] = 767 ∧ bigEndian [3#8, 0#8] = 768 ∧
    (asking 0x18#8 [6#8, 5#8, 0#8, 2#8, 0xFF#8]).asks 0x18#8 9#8 [6#8, 5#8, 0#8, 2#8, 0xFF#8] ∧
    767 ∉ State.reset.maps.next.lists[(5 : Channel)].map (·.dead) ∧
    (State.reset.maps.next.lists[(5 : Channel)].map (·.dead)).length < 48 ∧
    48 ≤ (List.replicate 48 (⟨0, .suppress⟩ : SubEntry)).length := by
  decide +kernel

theorem witness_ScanRequestsStartStopAndTrigger :
    (asking 0x15#8 []).asks 0x15#8 9#8 [] ∧ (asking 0x16#8 []).asks 0x16#8 9#8 [] ∧ (asking 0x17#8 []).asks 0x17#8 9#8 [] ∧
    State.reset.scan.running = true ∧ State.reset.scan.mode = .continuous ∧ ({ initScan with running := false } : Scan).running = false ∧
    ({ initScan with mode := .triggered } : Scan).mode = .triggered := by
  decide +kernel

/-- A TABLE WRITE of one field. -/
def oneField (table index field : Byte) (v : List Byte) : List Byte := table :: index :: 1#8 :: field :: v

/-- A TABLE WRITE of that field waits alone in a state. -/
def writing (s : State) (table index field : Byte) (v : List Byte) : State := asked s 0x18#8 (oneField table index field v)

/-- An AIN0 result of 11 at 0 ms, valid, read at 3,000 ms. -/
def sensed : State :=
  { State.reset with now := 3000, scan := { initScan with results := setAt initScan.results 0 ⟨11, some 0, true⟩ } }

theorem test_write_makes_a_result_stale : after .tableWrite (writing sensed 4#8 0#8 2#8 [0#8, 0#8, 0x0B#8, 0xB7#8])
    (fun t => t.scan.results[(0 : AIn)] = ⟨11, some 0, false⟩ ∧ t.lane.conditions.sensorStale) = true ∧
    after .tableWrite (writing sensed 4#8 0#8 2#8 [0#8, 0#8, 0x0B#8, 0xB8#8]) (fun t => t.scan.results[(0 : AIn)].valid) = true := by
  decide +kernel

theorem witness_InUseAndStaleWrites :
    (bound.channel[(0 : Channel)].kind = some 0 ∧ (withSlot State.reset .queued (some 0)).slots[(0 : SlotIx)].state = .queued) ∧
    (0 < 1 ∧ codeOrNone bound.channel[(0 : Channel)].kind = 0 ∧ codeOrNone State.reset.tables.channel[(0 : Channel)].kind ≠ 0) ∧
    (fed .ready (some 0) none none).feed.profile = some 2 ∧
    (sensed.scan.results[(0 : AIn)].valid = true ∧ sensed.scan.results[(0 : AIn)].convertedAt = some 0 ∧ 2999 < sensed.now - 0 ∧
      ¬ 3000 < sensed.now - 0) ∧ State.reset.scan.results[(0 : AIn)].valid = false := by
  decide +kernel

/-- Head 2 has fired as many drops as the default wipe interval. -/
def worn : State :=
  { State.reset with service := { initService with drops := setAt initService.drops 2 defaultTables.service.wipeInterval } }

/-- R104, R157: a stored wipe interval is tested at once. -/
theorem test_wipe_interval_write_places_a_wipe :
    after .tableWrite (writing worn 3#8 0#8 0#8 [0#8, 0#8, 0#8, 0#8]) (fun t => t.tables.service.wipeInterval = 10000000 ∧
      t.service.pending = [⟨.wipe 2, none, byWear⟩]) = true ∧
    after .tableWrite (writing worn 3#8 0#8 1#8 [0#8, 0#8, 0xFF#8, 0xFF#8]) (fun t => t.service.pending = []) = true := by
  decide +kernel

theorem witness_TableWriteStoresTheRecord :
    (asking 0x18#8 (oneField 0#8 0#8 8#8 [0#8, 0#8, 0#8, 201#8])).asks 0x18#8 9#8 (oneField 0#8 0#8 8#8 [0#8, 0#8, 0#8, 201#8]) ∧
    readTableWrite (oneField 0#8 0#8 8#8 [0#8, 0#8, 0#8, 201#8]) = some (0, 0, [(8, 201)]) ∧
    ((putFields InkKind.put [(8, 201)] State.reset.tables.ink[(0 : Fin 16)]).isSome = true ∧
    (putFields InkKind.put [(10, 0)] State.reset.tables.ink[(0 : Fin 16)]).isNone = true) ∧
    readTableWrite (oneField 1#8 5#8 0#8 [0#8, 0#8, 0#8, 15#8]) = some (1, (5 : Channel).val, [(0, 15)]) ∧
    State.reset.accounts[(5 : Channel)].known = false ∧
    (readTableWrite (oneField 2#8 15#8 0#8 [0#8, 0#8, 0#8, 0#8]) = some (2, (15 : Fin 16).val, [(0, 0)]) ∧ State.reset.feed.profile = none ∧
    readTableWrite (oneField 3#8 0#8 0#8 [0#8, 0#8, 0#8, 0#8]) = some (3, 0, [(0, 0)]) ∧
    readTableWrite (oneField 4#8 11#8 0#8 [0#8, 0#8, 0#8, 0#8]) = some (4, (11 : AIn).val, [(0, 0)]) ∧
    readTableWrite (oneField 4#8 12#8 0#8 [0#8, 0#8, 0#8, 0#8]) = some (4, 12, [(0, 0)]) ∧
    readTableWrite (oneField 5#8 15#8 0#8 [0#8, 0#8, 0#8, 0#8]) = some (5, (15 : DIn).val, [(0, 0)]) ∧
    (defaultChannel 0).policy = .partner ∧ readTableWrite (oneField 1#8 0#8 1#8 [0#8, 0#8, 0#8, 1#8]) = some (1, (0 : Channel).val, [(1, 1)]) ∧
    (worn.service.wipeAsked 2 = false ∧ defaultTables.service.wipeInterval = worn.service.drops[(2 : Head)]) ∧
    isTableWrite ⟨0x18#8, 9#8, oneField 7#8 0#8 0#8 [0#8, 0#8, 0#8, 0#8]⟩ = true ∧ (readRecord 7 0 State.reset).isNone = true) := by
  and_intros <;> decide +kernel

theorem witness_StoredFieldsReadBack :
    ScanRec.put defaultScan 2 5000 = .stored { defaultScan with maxAge := 5000 } ∧
    ScanRec.put defaultScan 2 5001 = .clamped { defaultScan with maxAge := 5000 } 5000 := ⟨rfl, rfl⟩

/-- A PRIME of channel 0 whose purge of 2,000,000 nL has begun, with a level of 1,000,000. -/
def purging : State :=
  { holding (.prime 0) true true with
    service := { initService with holder := .op { flying (.prime 0) true with purge := some 2000000 }, docked := true }
    tables := bound, accounts := setAt State.reset.accounts 0 { initAccount with level := 1000000, known := true } }

theorem witness_EngineResetReturnsToTheInitialState :
    (asking 0x09#8 []).asks 0x09#8 9#8 [] ∧ State.reset.pass = none ∧ State.reset.service.inFlight = none ∧
    (({ State.reset with pass := some passing } : State).pass.isSome = true) ∧
    purging.service.holder = .op { flying (.prime 0) true with purge := some 2000000 } ∧ (flying (.prime 0) true).req.op.uncaps = true ∧
    purging.CarryInv ∧ purging.accounts[(0 : Channel)].level < 2000000 ∧ (flying .cap true).req.op.uncaps = false := by
  unfold State.CarryInv; decide +kernel

/-- The requests given wait with the carriage free and docked or not. -/
def waitingFor (rs : List Request) (docked asked : Bool) : State :=
  { State.reset with service := { initService with pending := rs, docked := docked, capped := false, passAsked := asked } }

theorem witness_ArbiterGrantsTheFirstRequest :
    mayGrantFirst (waitingFor [want (.wipe 1), want (.wipe 0), want .cap] true true) (want (.wipe 0)) ∧
    mayGrantFirst (waitingFor [want .cap] false false) (want .cap) := by
  decide +kernel

theorem witness_GrantedRefillWritesItsRecord :
    mayGrantFirst (waitingFor [want (.fillToMark 5)] false false) (want (.fillToMark 5)) ∧
    mayGrantFirst (waitingFor [want (.refill 5)] true false) (want (.refill 5)) ∧
    (want (.fillToMark 5)).op = RefillKind.fill.op 5 ∧ (want (.refill 5)).op = RefillKind.refill.op 5 ∧
    (want (.urgentRefill 5)).op = RefillKind.urgent.op 5 ∧
    State.reset.accounts[(5 : Channel)].known = false ∧
    (let t := State.reset.tables.channel[(5 : Channel)]
     ¬ min t.refillTarget t.markLevel ≤ State.reset.accounts[(5 : Channel)].level ∧ min t.refillTarget t.markLevel ≤ 12000000) := by
  decide +kernel

/-- R62: a REFILL whose level stands at its target ends with no stroke. -/
theorem test_refill_at_its_target_ends_at_once : after .arbiterGrant { waitingFor [want (.refill 0)] true false with
      tables := bound, accounts := setAt State.reset.accounts 0 { initAccount with level := 12000000, known := true }
      carts := setAt State.reset.carts 0 (cart .accepted none) }
    (fun t => t.supply[(0 : Channel)].refill = none ∧ t.service.holder = .free ∧ t.out.station = .closeValve 0) = true := by
  decide +kernel

/-- A pass is asked for the SWATH entry at the head. -/
def releasing : State :=
  { withSlot (waitingFor [] true true) .queued (some 0) with queue := [⟨.swath 0 false, .waiting⟩] }

/-- The same, with every hold reason of a swath away. -/
def fit : State :=
  { releasing with
    feed := feeding .ready (some 0) none none
    scan := { initScan with results := Vector.ofFn fun i : Fin 12 =>
      ⟨if 3 ≤ i.val ∧ i.val < 9 then -2000 else 25, some 0, true⟩ } }

/-- A PRIME of channel 0, bound to ink kind 0, waits alone with a level. -/
def priming (level : Nat) (known : Bool) (cartState : CartState) (docked : Bool) : State :=
  { waitingFor [want (.prime 0)] docked false with
    tables := bound, accounts := setAt State.reset.accounts 0 { initAccount with level := level, known := known }
    carts := setAt State.reset.carts 0 (cart cartState none) }

/-- The same waiting under the fault mark, bound to no kind, and with a volume that never fits below the mark. -/
def marked : State := { priming 0 true .low true with supply := setAt State.reset.supply 0 { initSupply with faultMark := true } }
/-- The PRIME of a channel bound to no ink kind. -/
def unbound : State := { priming 0 true .low true with tables := defaultTables }
/-- The PRIME of a channel whose floor and prime volume pass its mark level. -/
def neverFits : State :=
  { priming 0 true .low true with tables := { bound with
      ink := setAt bound.ink 0 { defaultInkKind with primeVolume := 2000000 }
      channel := setAt bound.channel 0 { bound.channel[(0 : Channel)] with floor := 4000000, markLevel := 5000000 } } }

/-- A ladder of channel 0 waits on its PRIME, and the supply states are formed. -/
def formed (s : State) : State :=
  { s with
    supply := Vector.ofFn fun c : Fin 6 => { s.supply[c] with state := s.formedSupply c }
    service := { s.service with
      pending := [{ want (.prime 0) with origins := byLadder }]
      ladders := setAt s.service.ladders 0 { initLadder with state := .primeCheck, phase := some .operation } } }

theorem witness_GrantedPrimeHasItsInk :
    (priming 2300000 true .absent true).tables.channel[(0 : Channel)].floor + defaultInkKind.primeVolume ≤ 2300000 ∧
    (priming 2300000 true .absent true).tables.kindOf 0 = some defaultInkKind ∧ (priming 2299999 true .low false).canSupply 0 = true ∧
    2299999 < (priming 2299999 true .low false).tables.channel[(0 : Channel)].floor + defaultInkKind.primeVolume ∧
    (priming 2299999 true .low false).supply[(0 : Channel)].refill = none ∧ (priming 2300000 true .absent true).service.docked = true ∧
    (priming 2300000 true .absent false).service.docked = false ∧
    (priming 2299999 true .absent true).canSupply 0 = false ∧ (priming 2299999 true .absent true).supply[(0 : Channel)].faultMark = false ∧
    marked.supply[(0 : Channel)].faultMark = true ∧ unbound.tables.kindOf 0 = none ∧
    neverFits.tables.channel[(0 : Channel)].markLevel < neverFits.tables.channel[(0 : Channel)].floor + 2000000 ∧
    neverFits.tables.kindOf 0 = some { defaultInkKind with primeVolume := 2000000 } ∧ neverFits.canSupply 0 = true ∧
    ∀ s ∈ [formed (priming 2299999 true .absent true), formed marked, formed unbound, formed neverFits],
      s.SupplyInv ∧ s.service.pending = [{ want (.prime 0) with origins := byLadder }] ∧
      s.service.ladders[(0 : Channel)].phase = some .operation ∧ s.service.ladders[(0 : Channel)].state = .primeCheck := by
  unfold State.SupplyInv; decide +kernel

/-- R101, R111, R115: a PRIME without ink and without a cartridge is withdrawn, and its ladder waits for ink. -/
theorem test_prime_without_ink_is_withdrawn : after .arbiterGrant (formed { (priming 2299999 true .absent true) with lane := aligned.lane })
    (fun t => t.service.pending = [] ∧ t.service.ladders[(0 : Channel)].state = .suspended ∧
      t.service.ladders[(0 : Channel)].cause = some .starved ∧ t.supply[(0 : Channel)].state = .starved ∧
      ⟨0, .stationFailed (.prime 0) .noInk none⟩ ∈ t.lane.events) = true := by
  decide +kernel

theorem witness_GrantedPassIsReleased :
    releasing.service.holder = .free ∧ releasing.service.pending = [] ∧ releasing.service.passAsked = true ∧
    releasing.swathHolds releasing.slots[(0 : SlotIx)] ≠ {} ∧ fit.swathHolds fit.slots[(0 : SlotIx)] = {} ∧
    fit.pass = none ∧ fit.stop.set = false := by
  decide +kernel

theorem witness_SpittoonStrobeFiresThePlan :
    State.reset.pass = none ∧ passing.spitDone = false ∧ ({ passing with spitDone := true } : PassContext).spitDone = true :=
  ⟨rfl, rfl, rfl⟩

theorem witness_ColumnStrobeFiresMergedCodes :
    dueColumn { passing with spitDone := true } 0 ∧ dueColumn { passing with spitDone := true, lastCol := some 0 } 1 ∧
    ¬ dueColumn { passing with spitDone := true, lastCol := some 1 } 2 ∧ Memory.wf State.reset.store := by
  refine ⟨⟨rfl, rfl⟩, ⟨rfl, rfl, by decide⟩, fun h => absurd h.2.2 (by decide), by decide⟩

theorem witness_PassEndsByCompletionOrTimeout :
    passing.crossed = false ∧ ({ passing with spitDone := true, lastCol := some 1 } : PassContext).crossed = true ∧ passing.deadline = some 2000 ∧
    State.reset.stop.set = false ∧ worn.lane.conditions.stationFault = false ∧ worn.service.wipeAsked 2 = false ∧
    worn.tables.service.wipeInterval ≤ min (worn.service.drops[(2 : Head)] + passing.headDrops 2) 4294967295 := by
  decide +kernel

/-- R104: a pass that brings a head to the wipe interval leaves an automatic WIPE pending. -/
theorem test_pass_end_places_a_wipe :
    after .passCompletion { worn with
        queue := [⟨.swath 0 false, .active⟩], slots := setAt worn.slots 0 (slotIn .printing (some 0))
        pass := some { passing with spitDone := true, lastCol := some 1 }, service := { worn.service with holder := .pass, docked := false } }
      (fun t => t.service.pending = [⟨.wipe 2, none, byWear⟩] ∧ t.queue = []) = true := by
  decide +kernel

theorem witness_DockRunsTheSequence :
    State.reset.service.docked = true ∧ (holding .cap false false).service.docked = false ∧ (holding .cap false false).out.carriage = .dock ∧
    (flying .cap false).running = false ∧ (flying .cap true).running = true ∧ (flying .cap false).req.op.refillChannel = none ∧
    (flying (.fillToMark 0) false).req.op.refillChannel = some 0 ∧
    ({ carted .low none with scan := { initScan with results := Vector.replicate 12 ⟨0, some 0, true⟩ } } : State).strokeFits 0 filling ∧
    State.reset.carts[(0 : Channel)].state.identified = false ∧ (cart .empty none).state.identified = true ∧
    (cart .low none).remaining < ({ filling with strokeVolume := 200001 } : Refill).strokeVolume ∧ filling.kind = .fill ∧
    12000000 < 11950001 + filling.strokeVolume ∧ State.reset.fresh 9 = false := by
  decide +kernel

theorem witness_FailedOperationFreesTheStation :
    State.reset.service.inFlight = none ∧ (holding .cap false false).service.holder = .op (flying .cap false) ∧
    (flying .cap false).running = false ∧ State.reset.now < (flying .cap true).timeoutAt ∧
    (flying .cap true).timeoutAt ≤ ({ holding .cap true true with now := 50 } : State).now ∧
    (flying (.fillToMark 0) true).req.op.refillChannel = some 0 ∧ (flying (.wipe 0) true).req.op.refillChannel = none ∧
    purging.service.holder = .op { flying (.prime 0) true with purge := some 2000000 } ∧
    (want (.wipe 1)).op ≠ .cap ∧ (want (.refill 1)).op.refillChannel ≠ (flying (.fillToMark 0) true).req.op.refillChannel ∧
    (want (.wipe 1)).origins.ladder = false ∧ (flying (.wipe 0) true).req.origins.ladder = false ∧
    starving.service.ladders[(1 : Channel)].state ≠ .suspended ∧ starving.service.ladders[(0 : Channel)].state = .suspended := by
  decide +kernel

theorem witness_CompletedOperationsTakeEffect :
    State.reset.service.holder = .free ∧ (holding .cap true true).service.holder = .op (flying .cap true) ∧ (flying .cap true).running = true ∧
    (flying (.wipe 2) true).req.op = .wipe 2 ∧ headOf 5 = 2 ∧
    (∀ c : Channel, State.reset.accounts[c].carry < 100000000 ∧ State.reset.carts[c].tagCarry < 1000) ∧
    (want (.check (channelSingle 1))).op ≠ .cap ∧ (want (.wipe 0)).op ≠ .wipe 1 ∧
    State.reset.service.ladders[(1 : Channel)].phase ≠ some .operation := by
  decide +kernel

theorem witness_CheckResultReachesMapAndLadder :
    (holding (.check (channelSingle 5)) true true).service.holder = .op (flying (.check (channelSingle 5)) true) ∧
    (flying (.check (channelSingle 5)) true).running = true ∧ (channelSingle 5)[(5 : Channel)] = true ∧
    State.reset.service.ladders[(5 : Channel)].state = .normal ∧ State.reset.tables.service.autoRecovery = true ∧
    ({ initLadder with state := .suspended, cause := some .fault } : Ladder).cause ≠ some .starved ∧
    checking.SupplyInv ∧ checking.service.ladders[(0 : Channel)].cause = some .starved ∧
    checking.service.holder = .op (flying (.check (channelSingle 0)) true) ∧ (channelSingle 0)[(5 : Channel)] = false ∧
    (want (.wipe 0)).origins.ladder = false ∧ (StationOp.prime 5).ofLadder 0 = false := by
  unfold State.SupplyInv; decide +kernel

theorem witness_CompletedStrokeCreditsTheLevel :
    (holding (.fillToMark 0) true true).service.holder = .op (flying (.fillToMark 0) true) ∧
    (flying (.fillToMark 0) true).req.op.refillChannel = some 0 ∧ filling.inStroke = true ∧ filling.markSeen = false ∧
    ({ filling with markSeen := true } : Refill).markSeen = true ∧
    ¬ (cart .low none).remaining - filling.strokeVolume < filling.strokeVolume ∧ (cart .low none).state.identified = true ∧
    99999 - filling.strokeVolume < filling.strokeVolume ∧ (cart .tagFault none).state.identified = false ∧
    filling.strokes + 1 < filling.limit.getD 0 ∧ filling.limit.getD 0 ≤ ({ filling with strokes := 207 } : Refill).strokes + 1 ∧
    12000000 < 11900001 + 2 * filling.strokeVolume ∧ State.reset.fresh 9 = false ∧ fit.fresh 9 = true ∧
    ({ filling with kind := .refill, target := some 50000 } : Refill).target = some 50000 := by
  decide +kernel

theorem witness_TagAnswersEndTheTransaction :
    State.reset.carts[(0 : Channel)].link = none ∧ (carted .reading (some (.read, 20))).carts[(0 : Channel)].link = some (.read, 20) ∧
    State.reset.now < 20 ∧ (TagAnswer.readData 0 1000000 1000000 9999999999).wf = true ∧ (TagAnswer.readData 256 0 0 0).wf = false ∧
    (carted .accepted (some (.deduct 3, 20))).carts[(0 : Channel)].link = some (.deduct 3, 20) ∧ (TagAnswer.deductData 1000000).wf = true ∧
    (carted .reading (some (.insertDeduct 65535 ⟨0, 0, 0, 7⟩, 20))).carts[(0 : Channel)].link = some (.insertDeduct 65535 ⟨0, 0, 0, 7⟩, 20) ∧
    65535 < (⟨7, 65536⟩ : Unsynced).amount ∧ (⟨7, 65535⟩ : Unsynced).amount ≤ 65535 ∧
    starving.SupplyInv ∧ starving.carts[(0 : Channel)].link = some (.read, 20) ∧ starving.canSupply 0 = false ∧
    starving.supply[(0 : Channel)].need = some ⟨.fill, none, byLadder⟩ ∧ starving.supply[(0 : Channel)].faultMark = false ∧
    starving.service.ladders[(0 : Channel)].cause = some .starved := by
  unfold State.SupplyInv; decide +kernel

/-- R61, R115: a cartridge identified in a STARVED channel turns its ink need into a request, and its ladder places its PRIME again. -/
theorem test_identified_cartridge_resumes_the_ladder : after (.tagBackwardFrame 0 (.readData 31 700000 412300 5120774019)) starving
    (fun t => t.supply[(0 : Channel)].need = none ∧ t.service.ladders[(0 : Channel)].state = .primeCheck ∧
      t.service.pending.map (·.op) = [.fillToMark 0, .prime 0]) = true := by
  decide +kernel

/-- A swath of channel 0 with a few large drops waits at the head, short of ink, as the dry timer runs out. -/
def thirsty (level : Nat) (known : Bool) (cartState : CartState) : State :=
  { fit with
    now := 40, tables := bound, carts := setAt State.reset.carts 0 (cart cartState none)
    accounts := setAt State.reset.accounts 0 { initAccount with level := level, known := known }
    slots := setAt fit.slots 0 { slotIn .queued (some 0) with arrival := setAt blankSlot.arrival 0 ⟨0, 0, 100000⟩ }
    feed := { fit.feed with dryExpiry := some 40 } }

/-- The same with a floor that leaves no room below the mark. -/
def tooBig : State :=
  { thirsty 0 true .low with tables := { bound with
      channel := setAt bound.channel 0 { bound.channel[(0 : Channel)] with floor := 5000001, markLevel := 5000000 } } }

theorem witness_TimersActAtTheirTime :
    (waitingFor [] true false).service.capped = false ∧ State.reset.lane.conditions.stationFault = false ∧
    max State.reset.service.idleSince 0 + State.reset.tables.service.capDelay ≤ 60000 ∧ State.reset.queue = [] ∧
    State.reset.lamps[(0 : Channel)].toggleAt = none ∧ LampPattern.slow.half ≠ none ∧ State.reset.scan.periodicAt = none ∧
    State.reset.feed.dryExpiry = none ∧ (thirsty 0 true .low).feed.dryExpiry = some 40 ∧
    (thirsty 0 true .low).queue = [⟨.swath 0 false, .waiting⟩] ∧
    (thirsty 0 true .low).canSupply 0 = true ∧ (thirsty 0 false .absent).canSupply 0 = false ∧
    (thirsty 0 true .low).supply[(0 : Channel)].faultMark = false := by
  decide +kernel

/-- The swath's estimate for channel 0, by the figures of R45 to R48. -/
theorem test_estimate_of_the_waiting_swath :
    swathEstimate (thirsty 0 true .low) (thirsty 0 true .low).slots[(0 : SlotIx)] 0 = some 1200 := by
  decide +kernel

theorem witness_ShortAndOverMark :
    inkShort (thirsty 0 true .low) (thirsty 0 true .low).slots[(0 : SlotIx)] 0 true 1200 ∧
    inkShort (thirsty 0 false .absent) (thirsty 0 false .absent).slots[(0 : SlotIx)] 0 false 1200 ∧
    overMark tooBig tooBig.slots[(0 : SlotIx)] 0 := by
  have short : inkShort (thirsty 0 true .low) (thirsty 0 true .low).slots[(0 : SlotIx)] 0 true 1200 := by
    unfold inkShort; decide +kernel
  have unknown : inkShort (thirsty 0 false .absent) (thirsty 0 false .absent).slots[(0 : SlotIx)] 0 false 1200 := by
    unfold inkShort; decide +kernel
  exact ⟨short, unknown, rfl, 1200, rfl, by decide, by decide +kernel⟩

/-- An advance too long for the tail waits at the head in TAIL OUT at 40 ms, BLOCKED raised for it already or not. -/
def blocked (told : Bool) : State :=
  { fed .tailOut (some 0) (some 28000) none with
    now := 40, queue := [⟨.advance 60000 none none told, .waiting⟩], lane := { initLane with aligned := true } }

/-- R30, R31, R124: at the dry timer's expiry an advance too long for the tail is held with MEDIA and BLOCKED is raised once; a cut at the
head whose cutter is away is held with BUSY. -/
theorem test_gate_holds_the_feed_heads :
    let dry (s : State) : State := { s with feed := { s.feed with dryExpiry := some 40 } }
    after .dryTimerExpiry (dry (blocked false)) (fun t => t.holds = { media := true } ∧ t.queue = [⟨.advance 60000 none none true, .waiting⟩] ∧
      t.lane.sending = some (.event ⟨40, .mediaShort .blocked 60000 40000 28000⟩)) = true ∧
    after .dryTimerExpiry (dry (blocked true)) (fun t => t.holds = { media := true } ∧ t.lane.sending = none) = true ∧
    after .dryTimerExpiry (dry { fed .ready (some 0) none none with
      now := 40, queue := [⟨.cut, .waiting⟩], feed := { feeding .ready (some 0) none none with cutter := .away } })
      (fun t => t.holds = { busy := true }) = true := by
  decide +kernel

/-- R27, R28: the head swath short of ink is held with INK and sends an urgent refill; over the mark it is held with CAPACITY. -/
theorem test_gate_sends_the_refill :
    after .dryTimerExpiry (thirsty 0 true .low) (fun t => t.holds.ink ∧ t.service.pending.map (·.op) = [.urgentRefill 0]) = true ∧
    after .dryTimerExpiry tooBig (fun t => t.holds.capacity ∧ t.lane.conditions.capacity) = true := by
  decide +kernel

theorem witness_InputsAreFilteredAndRouted :
    State.reset.inputs[(6 : DIn)].level ≠ some false ∧ State.reset.inputs[(6 : DIn)].candidate.map (·.level) ≠ some false ∧
    State.reset.tables.input[(6 : DIn)].filter ≠ 0 ∧ State.reset.tables.input[(7 : DIn)].filter = 0 ∧
    State.reset.tables.input[(7 : DIn)].routing = .rising ∧ State.reset.tables.input[(6 : DIn)].routing = .falling ∧
    State.reset.tables.input[(0 : DIn)].routing = .none ∧ State.reset.stop.set = false ∧
    (holding (.wipe 0) true true).pass = none ∧ (holding (.wipe 0) true true).service.holder = .op (flying (.wipe 0) true) ∧
    (9 : DIn).val < 10 ∧ (15 : DIn).val = 10 + (5 : Channel).val ∧
    (fed .loading none none (some (moving (.load .forward 0 none none none) .request))).feed.motion =
      some (moving (.load .forward 0 none none none) .request) ∧
    (fed .cutting (some 0) none (some (moving (.cut 4000 true) .entry))).feed.motion = some (moving (.cut 4000 true) .entry) ∧
    (4000 : Nat) < ({ fed .cutting (some 0) none none with now := 4001 } : State).now ∧
    (fed .held none none none).feed.path = .held ∧ (fed .ready none none none).feed.source = some .roll1 ∧
    (carted .low none).carts[(0 : Channel)].state ≠ .absent ∧ State.reset.carts[(5 : Channel)].state = .absent := by
  decide +kernel

theorem witness_ConversionsAndStaleness :
    State.reset.scan.sweep = some 0 ∧ ({ initScan with sweep := none } : Scan).sweep = none ∧ State.reset.pass = none ∧
    (-5001 : Int) < State.reset.tables.channel[(0 : Channel)].stopLow ∧ State.reset.scan.results[(0 : AIn)].valid = false ∧
    fit.scan.results[(11 : AIn)].valid = true ∧ fit.scan.results[(11 : AIn)].convertedAt = some 0 ∧
    fit.tables.scan[(11 : AIn)].maxAge ≤ ({ fit with now := 1000 } : State).now ∧
    (blocked false).scan.sweep = some 0 ∧ (blocked false).pass = none ∧
    (blocked false).queue = ⟨.advance 60000 none none false, .waiting⟩ :: [] ∧ (blocked false).feed.path = .tailOut := by
  decide +kernel

theorem witness_AdvanceStartTakesItsCounts :
    ({ fed .ready (some 0) none none with queue := [⟨.advance 16256 none none false, .waiting⟩] } : State).queue =
      ⟨.advance 16256 none none false, .waiting⟩ :: [] ∧ (fed .ready (some 0) none none).stop.set = false ∧
    (fed .ready (some 0) none none).feed.motion = none ∧
    (fed .tailOut (some 0) (some 28000) none).feed.tail = some 28000 ∧ (advanceCounts 42000 0 0).1 = 28000 ∧
    (advanceCounts 1 0 0).1 = 0 ∧ (advanceCounts 2 0 0).1 = 1 ∧
    min (4294967295 + (advanceCounts 2 0 0).1) 4294967295 = 4294967295 := by
  decide +kernel

theorem witness_CutStartBeginsACutOrAnEject :
    (fed .ready (some 0) none none).feed.cutter = .home ∧ (fed .ready (some 0) none none).feed.dryExpiry = none ∧
    (fed .ready (some 0) none none).feed.source = some .roll1 ∧ (fed .ready (some 0) none none).stop.set = false ∧
    ({ feeding .ready (some 0) none none with source := some .sheet } : Feed).source = some .sheet := by
  decide +kernel

theorem witness_FeedPositionFollowsTheEncoder :
    (fed .tailOut (some 157999) (some 158000) (some (moving (.advance 60000 40000 false) .entry))).feed.motion =
      some (moving (.advance 60000 40000 false) .entry) ∧
    (moving (.advance 60000 40000 false) .entry).work.kind = .advance ∧ State.reset.feed.motion = none ∧
    (moving (.eject (some 0)) .entry).work.kind ≠ .advance := by
  decide +kernel

theorem witness_SettledAdvanceCompletes :
    State.reset.feed.motion = none ∧ (moving (.advance 60000 40000 true) .entry).inBandSince = some 0 ∧
    0 + 20 ≤ ({ fed .ready (some 0) none none with now := 20 } : State).now ∧
    ({ fed .ready (some 0) none none with now := 19 } : State).now < 0 + 20 := by
  decide +kernel

theorem witness_FailedMotionJamsThePath :
    (fed .ejecting none none (some { moving (.eject none) .request with count := 2000000 })).feed.motion =
      some { moving (.eject none) .request with count := 2000000 } ∧
    (feeding .ejecting none none none).inBand (moving (.eject none) .request) = false ∧
    (moving (.cut 4000 false) .entry).paused = false ∧ ({ moving (.unload none) .request with count := -100000 } : Motion).count ≤ -100000 ∧
    (moving (.eject none) .request).progressAt + 500 ≤ ({ State.reset with now := 500 } : State).now ∧
    (feeding .ready (some 5) none none).inBand (moving (.advance 1 0 false) .entry) = true := by
  decide +kernel

theorem witness_LoadStepsAlignOrFail :
    (fed .loading none none (some (moving (.load .toRest 0 (some 48210) (some 49210) none) .request))).feed.profile = some 2 ∧
    State.reset.tables.profile[(2 : Fin 16)].skewLimit < ((48210 : Int) - 49210).natAbs * 1500000 / 914400 ∧
    ((47905 : Int) - 48605).natAbs * 1500000 / 914400 ≤ State.reset.tables.profile[(2 : Fin 16)].skewLimit ∧
    (fed .loading none none none).feed.attempt < 3 ∧ (-33334 : Int) ≤ 0 - 33334 ∧ (0 : Int) + 1000000 ≤ 1000000 ∧
    (-2000000 : Int) ≤ 0 - 2000000 := by
  decide +kernel

theorem witness_EjectAndUnloadClearThePath :
    (moving (.eject (some 0)) .entry).work.kind = .eject ∧ (moving (.unload (some 0)) .request).work.kind = .unload ∧
    (moving (.eject (some 0)) .entry).inBandSince = some 0 ∧ 0 + 20 ≤ ({ State.reset with now := 20 } : State).now := by
  decide +kernel

theorem witness_ProductStaysInItsRange :
    (400 ≤ 400 ∧ 60 ≤ 60) ∧ (⟨44236800, 44236800, 44236800⟩ : Counts).small ≤ 44236800 ∧ 153600 ≤ 153600 ∧ 99999999 < 100000000 := by
  decide +kernel

theorem witness_SeriesLoseNothing : 99999999 < 100000000 ∧ (-20000 : Int) ≤ -20000 ∧ (20000 : Int) ≤ 20000 ∧ 2999999 < 3000000 := by
  decide

/-- A CUT waits in the queue, and the lane comes up. -/
def lively : State := { aligned with queue := [⟨.cut, .waiting⟩], pending := [.laneReset], lane := { aligned.lane with rx := [] } }

theorem lively_steps : ∃ t, step lively = .next t := ⟨_, rfl⟩

theorem witness_StepsKeepQueueSlotsAndGenerations : lively.QueueInv ∧ lively.PassInv ∧ lively.GenInv := by
  refine ⟨by unfold State.QueueInv; decide +kernel, ⟨by decide +kernel, ?_, ?_, ?_, by simp [lively, aligned, State.reset],
    by simp [lively, aligned, State.reset, initFeed]⟩, by unfold State.GenInv; refine ⟨by decide +kernel, by decide +kernel⟩⟩
  · simp [lively, aligned, State.reset]; decide +kernel
  · simp [lively, aligned, State.reset]; decide +kernel
  · simp [lively]

theorem witness_StepsKeepLaneStoreAndCarries : lively.LaneInv ∧ lively.StoreInv ∧ lively.CarryInv := by
  unfold State.LaneInv State.StoreInv State.CarryInv; decide +kernel

theorem witness_StepsFormSupplyLampsAndHolds : lively.SupplyInv ∧ lively.LampInv ∧ lively.HoldsInv := by
  refine ⟨by unfold State.SupplyInv; decide +kernel, by unfold State.LampInv; decide +kernel, by simp [State.HoldsInv, lively]⟩

theorem witness_StepsKeepTheStoppedEngineStill : ({ lively with stop := ⟨true, some .strobeTimeout⟩ } : State).StopInv := by
  intro _; refine ⟨rfl, rfl, rfl, fun m h => by cases h⟩

theorem witness_StepsKeepTheMapsSound : lively.MapInv := by
  have sound : emptyBank.Sound := by intro c; simp [emptyBank]
  exact ⟨sound, sound, sound, by intro c e h; simp [lively, aligned, State.reset, initMaps, emptyBank] at h⟩

theorem witness_StepsKeepCarriageReservationsAndLadders :
    lively.ReserveInv ∧ lively.CarriageInv ∧ lively.LadderInv ∧ lively.RequestInv := by
  refine ⟨by unfold State.ReserveInv; decide +kernel, ⟨by decide +kernel, ?_, fun o h => by cases h⟩, ?_, by simp [State.RequestInv, lively, aligned, State.reset, initService]⟩
  · intro c; simp [lively, aligned, State.reset, initService, initSupply]
  · intro c; simp [lively, aligned, State.reset, initService, initLadder, LadderState.inStep]

theorem witness_OnlyItsCommandsChangeWhatTheyOwn :
    (∃ t, exec .feedStall State.reset = .next t) ∧ Instr.feedStall ≠ .tableWrite ∧ (∀ raw, Instr.feedStall ≠ .powerOn raw) ∧
    ({ State.reset with stop := ⟨true, some .strobeTimeout⟩ } : State).stop.set = true ∧
    ({ jam := true } : Conditions).latched .jam = true :=
  ⟨⟨_, rfl⟩, by decide, fun _ => Instr.noConfusion, rfl, rfl⟩

theorem witness_PathChangesAreReported :
    ∃ t, exec .feedStall { fed .ejecting none none (some (moving (.eject none) .request)) with now := 500 } = .next t ∧
      t.feed.path ≠ .ejecting :=
  ⟨_, rfl, by decide +kernel⟩

end Sys2Proof.Tests
end

section
/-!
PROOFS. Family 01, swath composition: SWATH CLOSE and SWATH DISCARD (R12, R16, R83). The rules about the lane, the Retained bank and the
slot bytes come first, then what each request answers in each case.
-/

namespace Sys2Proof.Machine

/-! ## An event and the reply of the same step -/

/-- An event is queued the same before a request leaves the buffer as after it. -/
theorem Lane.raise_pop (n : Nat) (e : Event) (l : Lane) : (l.raise n e).pop = l.pop.raise n e := by
  simp only [Lane.raise, apply_ite Lane.pop]; rfl

/-- An event is queued the same before a reply is placed as after it. -/
theorem Lane.raise_reply (n : Nat) (e : Event) (r : Reply) (l : Lane) : (l.raise n e).reply r = (l.reply r).raise n e := by
  simp only [Lane.raise, apply_ite (Lane.reply r)]; rfl

theorem State.raise_answered (s : State) (e : Event) (k tag : Byte) (o : ReplyOutcome) (d : ReplyData) :
    (s.raise e).answered k tag o d = (s.answered k tag o d).raise e := by
  simp only [State.answered, State.raise, Lane.raise_pop, Lane.raise_reply]

/-- With room in the return queue an event raised is queued (R166). -/
theorem Lane.mem_reported_raise {n : Nat} {e : Event} {l : Lane} (h : l.events.length < 64) :
    ⟨n, e⟩ ∈ (l.raise n e).reported := by
  simp [Lane.reported, Lane.raise_events, h]

/-- A step whose own effect raises an event tells it. -/
theorem tells_of_follows_raise {s u t : State} {e : Event} (hn : u.now = s.now) (he : u.lane.events = s.lane.events)
    (h : Follows (u.raise e) t) : s.tells t e := by
  intro room
  have raised : ⟨u.now, e⟩ ∈ (u.raise e).lane.reported := Lane.mem_reported_raise (by rw [he]; omega)
  exact hn ▸ h.events.subset raised

/-! ## The end of a reference (R83) -/

theorem State.referenced_iff (s : State) (g : Nat) : s.referenced g = true ↔ ∃ j, s.refersTo j g := by
  simp [State.referenced, Slot.refers, State.refersTo, Vector.any_eq_true, Fin.exists_iff, or_assoc]

theorem State.dropRetained_maps_of_referenced {s : State} (h : ∀ g, s.maps.retainedGen = some g → ∃ j, s.refersTo j g) :
    s.dropRetained.maps = s.maps := by
  unfold State.dropRetained
  cases hg : s.maps.retainedGen with
  | none => rfl
  | some g => simp [(s.referenced_iff g).2 (h g hg)]

theorem State.dropRetained_maps_of_unreferenced {s : State} {g : Nat} (hg : s.maps.retainedGen = some g) (h : ∀ j, ¬ s.refersTo j g) :
    s.dropRetained.maps = { s.maps with retained := emptyBank, retainedGen := none } := by
  have none_refers : s.referenced g = false := by
    rw [Bool.eq_false_iff, ne_eq, State.referenced_iff]; exact fun ⟨j, hj⟩ => h j hj
  simp [State.dropRetained, hg, none_refers]

/-- A step that drops Retained, where no slot refers to it, from a state with the maps of s leaves the maps as R83 says. -/
theorem mapsLeft_of_dropRetained {s u t : State} (hu : u.maps = s.maps) (hs : t.slots = u.slots) (hm : t.maps = u.dropRetained.maps) :
    mapsLeft s t := by
  unfold mapsLeft State.refersTo
  rw [hm, hs, ← hu]
  exact ⟨fun _ hg h => State.dropRetained_maps_of_unreferenced hg h, State.dropRetained_maps_of_referenced⟩

/-! ## The slot byte of a request -/

theorem byteSlot_eq_none {b : Byte} (h : 8 ≤ b.toNat) : byteSlot b = none := dif_neg (by omega)

theorem byteSlot_eq_some {b : Byte} {slot : SlotIx} (h : b.toNat = slot.val) : byteSlot b = some slot := by
  simp [byteSlot, h]

/-! ## SWATH CLOSE (R12) -/

section Close

variable {s : State} {tag i n3 n2 n1 n0 : Byte} {slot : SlotIx}

/-- SWATH CLOSE runs to the state its answer gives, in which the reply stands. -/
theorem swathClose_runs {u : State} {o : ReplyOutcome} (h : s.asks 0x03#8 tag [i, n3, n2, n1, n0])
    (ha : closeSwath [i, n3, n2, n1, n0] { s with lane := s.lane.pop } = ⟨{ u with lane := u.lane.pop }, o, .none⟩) :
    Runs .swathClose s (u.answered 0x03#8 tag o) :=
  runs_of_serveWith h .swathClose false (ofKind 0x03#8) closeSwath (by simp [ofKind]) rfl o .none ha

theorem swathClose_range (h : s.asks 0x03#8 tag [i, n3, n2, n1, n0]) (hi : 8 ≤ i.toNat) :
    Runs .swathClose s (s.answered 0x03#8 tag .range) :=
  swathClose_runs h (by simp [closeSwath, byteSlot_eq_none hi, Answer.refuse])

theorem swathClose_state (h : s.asks 0x03#8 tag [i, n3, n2, n1, n0]) (hi : i.toNat = slot.val)
    (hc : s.slots[slot].state ≠ .composing) : Runs .swathClose s (s.answered 0x03#8 tag .state) :=
  swathClose_runs h (by simp [-Fin.getElem_fin, closeSwath, byteSlot_eq_some hi, hc, Answer.refuse])

theorem swathClose_full (h : s.asks 0x03#8 tag [i, n3, n2, n1, n0]) (hi : i.toNat = slot.val)
    (hc : s.slots[slot].state = .composing) (hn : s.slots[slot].slices = bigEndian [n3, n2, n1, n0]) (hq : 16 ≤ s.queue.length) :
    Runs .swathClose s (s.answered 0x03#8 tag .full) :=
  swathClose_runs h (by simp [-Fin.getElem_fin, closeSwath, byteSlot_eq_some hi, hc, hn, hq, Answer.refuse])

theorem swathClose_done (h : s.asks 0x03#8 tag [i, n3, n2, n1, n0]) (hi : i.toNat = slot.val)
    (hc : s.slots[slot].state = .composing) (hn : s.slots[slot].slices = bigEndian [n3, n2, n1, n0]) (hq : s.queue.length < 16) :
    Runs .swathClose s (({ s with
      slots := setAt s.slots slot { s.slots[slot] with state := .queued }
      queue := s.queue ++ [⟨.swath slot false, .waiting⟩] } : State).answered 0x03#8 tag .done) :=
  swathClose_runs h (by simp [-Fin.getElem_fin, closeSwath, byteSlot_eq_some hi, hc, hn, Nat.not_le.2 hq, Answer.done, State.append])

/-- The slot made DAMAGED by a close with a wrong slice count, before its event is queued. -/
def State.damaged (s : State) (slot : SlotIx) : State :=
  { s with slots := setAt s.slots slot { s.slots[slot] with state := .damaged, gen := none } }

/-- A close with a wrong slice count: the slot becomes DAMAGED, its reference ends, and the event is queued (R12). -/
theorem State.damageByCount_eq (s : State) (slot : SlotIx) (n : Nat) : s.damageByCount slot n =
    (s.damaged slot).dropRetained.raise (.swathDamaged slot .sliceCount s.slots[slot].slices (some n)) := rfl

theorem swathClose_mismatch (h : s.asks 0x03#8 tag [i, n3, n2, n1, n0]) (hi : i.toNat = slot.val)
    (hc : s.slots[slot].state = .composing) (hn : s.slots[slot].slices ≠ bigEndian [n3, n2, n1, n0]) :
    Runs .swathClose s (((s.damaged slot).dropRetained.answered 0x03#8 tag .mismatch).raise
      (.swathDamaged slot .sliceCount s.slots[slot].slices (some (bigEndian [n3, n2, n1, n0])))) := by
  have ha : closeSwath [i, n3, n2, n1, n0] { s with lane := s.lane.pop } =
      ⟨({ s with lane := s.lane.pop } : State).damageByCount slot (bigEndian [n3, n2, n1, n0]), .mismatch, .none⟩ := by
    simp [-Fin.getElem_fin, closeSwath, byteSlot_eq_some hi, hc, hn]
  rw [← State.raise_answered, ← State.damageByCount_eq]
  refine swathClose_runs h (ha.trans ?_)
  simp only [State.damageByCount_eq, State.raise, Lane.raise_pop]
  rfl

end Close

/-! ## SWATH DISCARD (R16) -/

section Discard

variable {s : State} {tag i : Byte} {slot : SlotIx}

/-- SWATH DISCARD runs to the state its answer gives, in which the reply stands. -/
theorem swathDiscard_runs {u : State} {o : ReplyOutcome} (h : s.asks 0x04#8 tag [i])
    (ha : oneByte byteSlot discardSwath [i] { s with lane := s.lane.pop } = ⟨{ u with lane := u.lane.pop }, o, .none⟩) :
    Runs .swathDiscard s (u.answered 0x04#8 tag o) :=
  runs_of_serveWith h .swathDiscard false (ofKind 0x04#8) (oneByte byteSlot discardSwath) (by simp [ofKind]) rfl o .none ha

theorem swathDiscard_range (h : s.asks 0x04#8 tag [i]) (hi : 8 ≤ i.toNat) :
    Runs .swathDiscard s (s.answered 0x04#8 tag .range) :=
  swathDiscard_runs h (by simp [oneByte, byteSlot_eq_none hi, Answer.refuse])

theorem swathDiscard_state (h : s.asks 0x04#8 tag [i]) (hi : i.toNat = slot.val)
    (hq : s.slots[slot].state = .queued ∨ s.slots[slot].state = .printing) :
    Runs .swathDiscard s (s.answered 0x04#8 tag .state) :=
  swathDiscard_runs h (by rcases hq with hq | hq <;> simp [-Fin.getElem_fin, oneByte, byteSlot_eq_some hi, discardSwath, hq, Answer.refuse])

theorem swathDiscard_free (h : s.asks 0x04#8 tag [i]) (hi : i.toNat = slot.val) (hf : s.slots[slot].state = .free) :
    Runs .swathDiscard s (s.answered 0x04#8 tag .done) :=
  swathDiscard_runs h (by simp [-Fin.getElem_fin, oneByte, byteSlot_eq_some hi, discardSwath, hf, Answer.done])

theorem swathDiscard_frees (h : s.asks 0x04#8 tag [i]) (hi : i.toNat = slot.val)
    (hc : s.slots[slot].state = .composing ∨ s.slots[slot].state = .damaged) :
    Runs .swathDiscard s ((s.freeSlot slot).answered 0x04#8 tag .done) := by
  have ha : oneByte byteSlot discardSwath [i] { s with lane := s.lane.pop } =
      .done (({ s with lane := s.lane.pop } : State).freeSlot slot) := by
    rcases hc with hc | hc <;> simp [-Fin.getElem_fin, oneByte, byteSlot_eq_some hi, discardSwath, hc]
  exact swathDiscard_runs h (ha.trans rfl)

end Discard

/-! ## The statement -/

/-- Settles O13: one lemma for each answer of the two requests; where a reference ends, the maps of the next state are those that
dropRetained leaves. -/
theorem swathCloseAndDiscardEndComposition : Obligations.SwathCloseAndDiscardEndComposition := by
  refine ⟨fun s tag i n3 n2 n1 n0 h => ⟨swathClose_range h, fun slot hi => ⟨swathClose_state h hi, fun hc =>
    ⟨fun hn => ?mismatch, swathClose_full h hi hc, swathClose_done h hi hc⟩⟩⟩,
    fun s tag i h => ⟨swathDiscard_range h, fun slot hi => ⟨swathDiscard_state h hi, swathDiscard_free h hi, fun hc => ?frees⟩⟩⟩
  case mismatch =>
    obtain ⟨t, hexec, ht⟩ := swathClose_mismatch h hi hc hn
    have hmaps : t.maps = (s.damaged slot).dropRetained.maps := ht.maps
    refine ⟨t, hexec, ?_, mapsLeft_of_dropRetained (u := s.damaged slot) rfl ht.slots hmaps,
      tells_of_follows_raise (u := (s.damaged slot).dropRetained.answered 0x03#8 tag .mismatch) rfl rfl ht⟩
    rw [hmaps]
    exact (Follows.raise _ _).trans ht
  case frees =>
    obtain ⟨t, hexec, ht⟩ := swathDiscard_frees h hi hc
    have hmaps : t.maps = (s.freeSlot slot).maps := ht.maps
    refine ⟨t, hexec, ?_, mapsLeft_of_dropRetained (u := { s with slots := setAt s.slots slot blankSlot }) rfl ht.slots hmaps⟩
    rw [hmaps]
    exact ht

end Sys2Proof.Machine
end

section
/-!
PROOFS. Family 02, the print queue: ADVANCE and CUT (R22). What appending an entry answers comes first, then a request that appends one,
whatever its command; the two requests are instances of it.
-/

namespace Sys2Proof.Machine

/-! ## Appending an entry (R22) -/

theorem appendJob_of_full {s : State} (j : Job) (full : 16 ≤ s.queue.length) : appendJob j s = .refuse s .full := if_pos full

theorem appendJob_of_room {s : State} (j : Job) (room : s.queue.length < 16) : appendJob j s = .done (s.append j) :=
  if_neg (Nat.not_le.mpr room)

section Request

variable {c : Instr} {k tag : Byte} {act : List Byte → State → Answer} {body : List Byte} {j : Job} {s : State}

/-- A request that would append an entry is refused FULL at 16 entries. -/
theorem runs_full_of_appendJob (h : s.asks k tag body) (hc : exec c s = serve (ofKind k) act s)
    (ha : ∀ u, act body u = appendJob j u) (full : 16 ≤ s.queue.length) : Runs c s (s.answered k tag .full) := by
  have answer : act body { s with lane := s.lane.pop } = .refuse { s with lane := s.lane.pop } .full :=
    (ha _).trans (appendJob_of_full j full)
  exact runs_of_serveWith h c false (ofKind k) act (by simp [ofKind]) hc .full .none answer

/-- Below 16 entries such a request puts its entry at the tail, WAITING, and is answered DONE. -/
theorem runs_done_of_appendJob (h : s.asks k tag body) (hc : exec c s = serve (ofKind k) act s)
    (ha : ∀ u, act body u = appendJob j u) (room : s.queue.length < 16) : Runs c s ((s.append j).answered k tag .done) := by
  have answer : act body { s with lane := s.lane.pop } = .done (({ s with lane := s.lane.pop } : State).append j) :=
    (ha _).trans (appendJob_of_room j room)
  exact runs_of_serveWith h c false (ofKind k) act (by simp [ofKind]) hc .done .none answer

end Request

/-! ## The distance of an ADVANCE (R22) -/

section Distance

variable {a b c : Byte}

theorem askAdvance_of_outside (s : State) (outside : bigEndian [a, b, c] < 1 ∨ 1500000 < bigEndian [a, b, c]) :
    askAdvance [a, b, c] s = .refuse s .range := if_pos outside

theorem askAdvance_of_inside (s : State) (low : 1 ≤ bigEndian [a, b, c]) (high : bigEndian [a, b, c] ≤ 1500000) :
    askAdvance [a, b, c] s = appendJob (.advance (bigEndian [a, b, c]) none none false) s := if_neg (by omega)

theorem advance_range {s : State} {tag : Byte} (h : s.asks 0x05#8 tag [a, b, c])
    (outside : bigEndian [a, b, c] < 1 ∨ 1500000 < bigEndian [a, b, c]) : Runs .advance s (s.answered 0x05#8 tag .range) :=
  runs_of_serveWith h .advance false (ofKind 0x05#8) askAdvance (by simp [ofKind]) rfl .range .none (askAdvance_of_outside _ outside)

end Distance

/-- The answer to a CUT without a body is that of appending its entry. -/
theorem cut_appends (s : State) : noBody (appendJob .cut) [] s = appendJob .cut s := rfl

/-! ## The statement -/

/-- Settles O14: a distance outside its range is refused, and inside it ADVANCE, like CUT always, is a request that appends an entry. -/
theorem advanceAndCutAppendEntries : Obligations.AdvanceAndCutAppendEntries := by
  refine ⟨fun s tag a b c h => ⟨advance_range h, fun low high => ?full, fun low high => ?room⟩,
    fun s tag h => ⟨runs_full_of_appendJob h rfl cut_appends, runs_done_of_appendJob h rfl cut_appends⟩⟩
  case full => exact runs_full_of_appendJob h rfl fun u => askAdvance_of_inside u low high
  case room => exact runs_done_of_appendJob h rfl fun u => askAdvance_of_inside u low high

end Sys2Proof.Machine
end

section
/-!
PROOFS. Family 03, ink arithmetic: the range of the drop product (R45 to R47). Each stage has its own bound: the clamped temperature and
its factor, the volume sum, and the product; then what the stages give when no drop is counted.
-/

namespace Sys2Proof.Machine

/-! ## The temperature factor (R46) -/

theorem five_le_clampTemp (t : Int) : 5 ≤ clampTemp t := le_max_left _ _

theorem clampTemp_le_seventy (t : Int) : clampTemp t ≤ 70 := max_le (by decide) (min_le_left _ _)

/-- F lies in 8,800..12,700: the factor moves by k for each degree between 20 below and 45 above 25 °C. -/
theorem tempFactor_range {k : Nat} (hk : k ≤ 60) (t : Int) : 8800 ≤ tempFactor k t ∧ tempFactor k t ≤ 12700 := by
  have coldest : (k : Int) * -20 ≤ k * (clampTemp t - 25) :=
    mul_le_mul_of_nonneg_left (by linarith [five_le_clampTemp t]) k.cast_nonneg
  have hottest : (k : Int) * (clampTemp t - 25) ≤ k * 45 :=
    mul_le_mul_of_nonneg_left (by linarith [clampTemp_le_seventy t]) k.cast_nonneg
  unfold tempFactor
  omega

/-! ## The volume sum and the product (R45, R47) -/

section Greatest

variable {vS vM vL : Nat} {n : Counts} {spit : Nat}

/-- The greatest V of one channel: three full arrival counts and the spit of a full plan, at 400 tenths of a picolitre a drop. -/
theorem volumeSum_le (hvS : vS ≤ 400) (hvM : vM ≤ 400) (hvL : vL ≤ 400) (hS : n.small ≤ 44236800) (hM : n.medium ≤ 44236800)
    (hL : n.large ≤ 44236800) (hspit : spit ≤ 153600) : volumeSum vS vM vL n spit ≤ 53145600000 :=
  calc volumeSum vS vM vL n spit
    _ ≤ 44236800 * 400 + 44236800 * 400 + 44236800 * 400 + 153600 * 400 := by unfold volumeSum; gcongr
    _ = 53145600000 := rfl

theorem dropProduct_le {k : Nat} (t : Int) (hk : k ≤ 60) (hV : volumeSum vS vM vL n spit ≤ 53145600000) :
    dropProduct vS vM vL k t n spit ≤ 674949120000000 :=
  calc volumeSum vS vM vL n spit * tempFactor k t
    _ ≤ 53145600000 * 12700 := Nat.mul_le_mul hV (tempFactor_range hk t).2
    _ = 674949120000000 := rfl

end Greatest

/-! ## No drop counted (R47 to R49) -/

@[simp] theorem volumeSum_no_drops (vS vM vL : Nat) : volumeSum vS vM vL ⟨0, 0, 0⟩ 0 = 0 := by simp [volumeSum]

@[simp] theorem dropProduct_no_drops (vS vM vL k : Nat) (t : Int) : dropProduct vS vM vL k t ⟨0, 0, 0⟩ 0 = 0 := by
  simp [dropProduct]

@[simp] theorem estimateOf_zero : estimateOf 0 = 0 := rfl

/-- A debit of no product is 0 and keeps its carry, which is less than one nanolitre. -/
theorem debitOf_zero {carry : Nat} (h : carry < 100000000) : debitOf 0 carry = (0, carry) := by
  simp [debitOf, Nat.div_eq_of_lt h, Nat.mod_eq_of_lt h]

/-! ## The statement -/

/-- Settles O50: the product is bounded stage by stage, and its greatest value is reached at the greatest volumes, coefficient,
temperature and counts. -/
theorem productStaysInItsRange : Obligations.ProductStaysInItsRange := by
  refine ⟨by decide +kernel, fun vS vM vL k temp n spit hvS hvM hvL hk => ?_⟩
  obtain ⟨low, high⟩ := tempFactor_range hk temp
  refine ⟨rfl, low, high, fun hS hM hL hspit => ?greatest, ?none⟩
  case greatest => exact dropProduct_le temp hk (volumeSum_le hvS hvM hvL hS hM hL hspit)
  case none =>
    rintro rfl rfl
    rw [dropProduct_no_drops]
    exact ⟨rfl, estimateOf_zero, fun _ => debitOf_zero⟩

end Sys2Proof.Machine
end

section
/-!
PROOFS. Family 05, nozzle maps: COMMIT MAP and the SUBSTITUTION edits (R84 to R87). Resolution reads a bank's dead nozzles alone, so a
list edited and resolved again where its dead nozzles reach leaves the whole bank resolved; a resolved bank whose dead nozzles keep their
order and bounds is sound. Each edit is then one list put in the place of a channel's.
-/

namespace Sys2Proof.Machine

/-! ## Indexed registers and the channel byte -/

theorem getElem_setAt {α : Type} {n : Nat} (v : Vector α n) (i j : Fin n) (x : α) : (setAt v i x)[j] = if j = i then x else v[j] := by
  simp only [setAt, Fin.getElem_fin, Vector.getElem_set, Fin.ext_iff, eq_comm]

theorem getElem_channelSingle (c d : Channel) : (channelSingle c)[d] = decide (d = c) := by
  change (setAt (Vector.replicate 6 false) c true)[d] = decide (d = c)
  rw [getElem_setAt]
  split <;> simp_all

theorem byteChannel_eq_none {b : Byte} (h : 6 ≤ b.toNat) : byteChannel b = none := dif_neg (by omega)

theorem byteChannel_eq_some {b : Byte} {c : Channel} (h : b.toNat = c.val) : byteChannel b = some c := by
  simp [byteChannel, h]

/-! ## The dead nozzles of a bank -/

/-- The nozzles listed dead in a channel's list of a bank, in the order of the list. -/
def Bank.deadList (b : Bank) (c : Channel) : List Nat := b.lists[c].map (·.dead)

theorem Bank.listed_iff (b : Bank) (c : Channel) (n : Nat) : b.listed c n = true ↔ n ∈ b.deadList c := by
  simp [Bank.listed, Bank.deadList]

theorem Bank.listed_eq_decide (b : Bank) (c : Channel) (n : Nat) : b.listed c n = decide (n ∈ b.deadList c) :=
  Bool.eq_iff_iff.2 ((b.listed_iff c n).trans decide_eq_true_iff.symm)

@[simp] theorem Bank.length_deadList (b : Bank) (c : Channel) : (b.deadList c).length = b.lists[c].length := List.length_map _

/-- What R81 asks of the dead nozzles of one list: at most 48, ascending with none twice, within 0..767. -/
def Listable (l : List Nat) : Prop := l.length ≤ 48 ∧ l.Pairwise (· < ·) ∧ ∀ n ∈ l, n ≤ 767

theorem Listable.nil : Listable [] := by simp [Listable]

theorem Listable.filter {l : List Nat} (p : Nat → Bool) (h : Listable l) : Listable (l.filter p) := by
  obtain ⟨short, ascending, bounded⟩ := h
  exact ⟨(List.length_filter_le p l).trans short, ascending.filter p, fun n hn => bounded n (List.mem_of_mem_filter hn)⟩

theorem Listable.orderedInsert {l : List Nat} {n : Nat} (h : Listable l) (new : n ∉ l) (room : l.length < 48) (inRange : n ≤ 767) :
    Listable (l.orderedInsert (· ≤ ·) n) := by
  obtain ⟨-, ascending, bounded⟩ := h
  have sorted : (l.orderedInsert (· ≤ ·) n).SortedLE := ((ascending.imp Nat.le_of_lt).orderedInsert n l).sortedLE
  have nodup : (l.orderedInsert (· ≤ ·) n).Nodup :=
    (List.perm_orderedInsert _ n l).nodup_iff.2 (List.nodup_cons.2 ⟨new, ascending.imp Nat.ne_of_lt⟩)
  refine ⟨by rw [List.orderedInsert_length]; omega, (sorted.sortedLT_of_nodup nodup).pairwise, fun m hm => ?_⟩
  rcases (List.mem_orderedInsert _).1 hm with rfl | hm
  · exact inRange
  · exact bounded m hm

/-- The place of R81 for an entry not yet listed: its dead nozzle is inserted in ascending order. -/
theorem map_dead_insertEntry (e : SubEntry) (l : List SubEntry) (new : e.dead ∉ l.map (·.dead)) :
    (insertEntry e l).map (·.dead) = (l.map (·.dead)).orderedInsert (· ≤ ·) e.dead := by
  induction l with
  | nil => rfl
  | cons d l ih =>
    simp only [List.map_cons, List.mem_cons, not_or] at new
    obtain ⟨differs, new⟩ := new
    by_cases before : e.dead < d.dead
    · simp [insertEntry, before, before.le]
    · have after : ¬ e.dead ≤ d.dead := by omega
      simp [insertEntry, before, after, ih new]

/-! ## Resolution (R84) -/

theorem shiftOrSuppress_congr {b b' : Bank} {c : Channel} (h : b.deadList c = b'.deadList c) (n : Nat) :
    shiftOrSuppress b c n = shiftOrSuppress b' c n := by
  simp only [shiftOrSuppress, Bank.listed_eq_decide, h]

/-- Resolution of a channel's nozzle reads no dead nozzles but those of the channel and of its partner. -/
theorem resolve_congr {t : Tables} {b b' : Bank} {c : Channel} (own : b.deadList c = b'.deadList c)
    (partner : ∀ p, t.channel[c].partner = some p → b.deadList p = b'.deadList p) (n : Nat) :
    resolve t b c n = resolve t b' c n := by
  unfold resolve
  rw [shiftOrSuppress_congr own]
  split
  · rfl
  · rfl
  · rename_i p _ hp
    rw [Bank.listed_eq_decide, Bank.listed_eq_decide, partner p hp]
  · rfl

theorem shiftOrSuppress_subAlive (b : Bank) (c : Channel) {n : Nat} (h : n ≤ 767) : b.subAlive c ⟨n, shiftOrSuppress b c n⟩ := by
  simp only [shiftOrSuppress]
  split
  case isTrue next => exact next
  case isFalse =>
    split
    case isTrue before => exact ⟨by omega, before.2⟩
    case isFalse => trivial

/-- The substitute that R84 gives is no nozzle listed dead. -/
theorem resolve_subAlive (t : Tables) (b : Bank) (c : Channel) {n : Nat} (h : n ≤ 767) : b.subAlive c ⟨n, resolve t b c n⟩ := by
  have shift := shiftOrSuppress_subAlive b c h
  unfold resolve
  split
  · trivial
  · exact shift
  · split
    case isTrue alive => exact ⟨h, alive.2⟩
    case isFalse => exact shift
  · exact shift

/-- Every entry of the bank is resolved as R84 says against the tables and the bank's own dead nozzles. -/
def Bank.Resolved (t : Tables) (b : Bank) : Prop := ∀ c : Channel, ∀ e ∈ b.lists[c], e.sub = resolve t b c e.dead

theorem State.mapInv_iff (s : State) : s.MapInv ↔
    s.maps.current.Sound ∧ s.maps.retained.Sound ∧ s.maps.next.Sound ∧ s.maps.next.Resolved s.tables := Iff.rfl

theorem Bank.Sound.listable {b : Bank} (h : b.Sound) (c : Channel) : Listable (b.deadList c) := by
  obtain ⟨short, ascending, entries⟩ := h c
  refine ⟨by simpa using short, List.pairwise_map.2 ascending, fun n hn => ?_⟩
  obtain ⟨e, he, rfl⟩ := List.mem_map.1 hn
  exact (entries e he).1

theorem State.MapInv.next_listable {s : State} (h : s.MapInv) (c : Channel) : Listable (s.maps.next.deadList c) := by
  obtain ⟨-, -, next, -⟩ := s.mapInv_iff.1 h
  exact next.listable c

/-- A resolved bank is sound where its dead nozzles may be listed. -/
theorem Bank.Resolved.sound {t : Tables} {b : Bank} (h : b.Resolved t) (dead : ∀ c, Listable (b.deadList c)) : b.Sound := by
  intro c
  obtain ⟨short, ascending, bounded⟩ := dead c
  refine ⟨by simpa using short, List.pairwise_map.1 ascending, fun e he => ?_⟩
  have inRange : e.dead ≤ 767 := bounded e.dead (List.mem_map_of_mem he)
  have alive := resolve_subAlive t b c inRange
  rw [← h c e he] at alive
  exact ⟨inRange, alive⟩

/-! ## Resolving again (R85) -/

theorem Bank.getElem_reResolve (t : Tables) (set : ChannelSet) (b : Bank) (c : Channel) : (b.reResolve t set).lists[c] =
    if set[c] then b.lists[c].map fun e => { e with sub := resolve t b c e.dead } else b.lists[c] := by
  simp [Bank.reResolve]

theorem Bank.deadList_reResolve (t : Tables) (set : ChannelSet) (b : Bank) (c : Channel) :
    (b.reResolve t set).deadList c = b.deadList c := by
  unfold Bank.deadList
  rw [Bank.getElem_reResolve]
  split <;> simp [Function.comp_def]

theorem Bank.resolve_reResolve (t : Tables) (set : ChannelSet) (b : Bank) (c : Channel) (n : Nat) :
    resolve t (b.reResolve t set) c n = resolve t b c n :=
  resolve_congr (b.deadList_reResolve t set c) (fun p _ => b.deadList_reResolve t set p) n

theorem Tables.not_reached {t : Tables} {changed : ChannelSet} {d : Channel} (h : (t.reached changed)[d] = false) :
    changed[d] = false ∧ ∀ p, t.channel[d].partner = some p → changed[p] = false := by
  simp only [Tables.reached, Fin.getElem_fin, Vector.getElem_ofFn, Bool.or_eq_false_iff] at h
  obtain ⟨own, partner⟩ := h
  refine ⟨own, fun p hp => ?_⟩
  rw [Fin.getElem_fin] at hp
  simpa [hp] using partner

/-- Where the lists of a resolved bank are changed, resolving again what the change reaches leaves the whole bank resolved. -/
theorem Bank.resolved_reResolve {t : Tables} {b b' : Bank} {changed : ChannelSet} (h : b.Resolved t)
    (same : ∀ d : Channel, changed[d] = false → b'.lists[d] = b.lists[d]) : (b'.reResolve t (t.reached changed)).Resolved t := by
  intro d e he
  rw [Bank.getElem_reResolve] at he
  rw [Bank.resolve_reResolve]
  split at he
  case isTrue =>
    obtain ⟨e, -, rfl⟩ := List.mem_map.1 he
    rfl
  case isFalse unreached =>
    obtain ⟨own, partner⟩ := Tables.not_reached (Bool.eq_false_iff.2 unreached)
    have deadSame : ∀ c : Channel, changed[c] = false → b'.deadList c = b.deadList c := fun c hc => by
      rw [Bank.deadList, same c hc, Bank.deadList]
    rw [same d own] at he
    rw [resolve_congr (deadSame d own) fun p hp => deadSame p (partner p hp)]
    exact h d e he

/-! ## A list put in the place of a channel's -/

theorem Bank.deadList_editList (t : Tables) (b : Bank) (c d : Channel) (l : List SubEntry) :
    (b.editList t c l).deadList d = if d = c then l.map (·.dead) else b.deadList d := by
  rw [Bank.editList, Bank.deadList_reResolve, Bank.deadList, getElem_setAt]
  split <;> rfl

theorem Bank.resolved_editList {t : Tables} {b b' : Bank} (h : b.Resolved t) (hb : b'.lists = b.lists) (c : Channel)
    (l : List SubEntry) : (b'.editList t c l).Resolved t := by
  refine Bank.resolved_reResolve h fun d hd => ?_
  rw [getElem_channelSingle, decide_eq_false_iff_not] at hd
  rw [getElem_setAt, if_neg hd, hb]

theorem Bank.sound_editList {t : Tables} {b b' : Bank} (sound : b.Sound) (resolved : b.Resolved t) (hb : b'.lists = b.lists)
    (c : Channel) {l : List SubEntry} (good : Listable (l.map (·.dead))) : (b'.editList t c l).Sound := by
  refine (Bank.resolved_editList resolved hb c l).sound fun d => ?_
  rw [Bank.deadList_editList]
  split
  · exact good
  · rw [Bank.deadList, hb]
    exact sound.listable d

/-- A bank in which a channel's list is replaced keeps the maps sound, where the new dead nozzles may be listed. -/
theorem State.mapInv_setNext_editList {s : State} (h : s.MapInv) {b : Bank} (hb : b.lists = s.maps.next.lists) (c : Channel)
    {l : List SubEntry} (good : Listable (l.map (·.dead))) : (s.setNext (b.editList s.tables c l)).MapInv := by
  obtain ⟨current, retained, next, resolved⟩ := s.mapInv_iff.1 h
  exact (State.mapInv_iff _).2
    ⟨current, retained, Bank.sound_editList next resolved hb c good, Bank.resolved_editList resolved hb c l⟩

/-! ## The edits of a bank (R86, R87) -/

section Edits

variable {t : Tables} {b : Bank} {c : Channel} {n : Nat}

theorem Bank.add_of_listed (h : n ∈ b.deadList c) : b.add t c n = (b, .done) := if_pos ((b.listed_iff c n).2 h)

theorem Bank.add_of_full (new : n ∉ b.deadList c) (full : 48 ≤ (b.deadList c).length) : b.add t c n = (b, .full) := by
  rw [Bank.length_deadList] at full
  rw [Bank.add, if_neg (mt (b.listed_iff c n).1 new), if_pos full]

theorem Bank.add_of_room (new : n ∉ b.deadList c) (room : (b.deadList c).length < 48) :
    b.add t c n = (b.editList t c (insertEntry ⟨n, .suppress⟩ b.lists[c]), .done) := by
  rw [Bank.length_deadList] at room
  rw [Bank.add, if_neg (mt (b.listed_iff c n).1 new), if_neg (Nat.not_le.2 room)]

theorem Bank.remove_of_listed (h : n ∈ b.deadList c) :
    b.remove t c n = b.editList t c (b.lists[c].filter fun e => e.dead ≠ n) := if_pos ((b.listed_iff c n).2 h)

theorem Bank.remove_of_not_listed (h : n ∉ b.deadList c) : b.remove t c n = b := if_neg (mt (b.listed_iff c n).1 h)

theorem Bank.map_dead_filter (b : Bank) (c : Channel) (n : Nat) :
    (b.lists[c].filter fun e => e.dead ≠ n).map (·.dead) = (b.deadList c).filter (· ≠ n) := by
  rw [Bank.deadList, List.filter_map]
  rfl

end Edits

/-! ## The answers to the SUBSTITUTION writes -/

section Answers

variable {tb b op n1 n0 : Byte} {c : Channel} (s : State)

theorem substitutionTarget_eq_none (h : 6 ≤ b.toNat) : substitutionTarget [tb, b, op, n1, n0] = (none, bigEndian [n1, n0]) := by
  rw [substitutionTarget, byteChannel_eq_none h]

theorem substitutionTarget_eq_some (h : b.toNat = c.val) :
    substitutionTarget [tb, b, op, n1, n0] = (some c, bigEndian [n1, n0]) := by
  rw [substitutionTarget, byteChannel_eq_some h]

/-- A SUBSTITUTION write names no channel, or one of the six. -/
theorem substitutionTarget_cases (tb b op n1 n0 : Byte) :
    6 ≤ b.toNat ∧ substitutionTarget [tb, b, op, n1, n0] = (none, bigEndian [n1, n0]) ∨
      b.toNat < 6 ∧ ∃ c, substitutionTarget [tb, b, op, n1, n0] = (some c, bigEndian [n1, n0]) := by
  rcases Nat.lt_or_ge b.toNat 6 with inside | outside
  · exact .inr ⟨inside, ⟨b.toNat, inside⟩, substitutionTarget_eq_some rfl⟩
  · exact .inl ⟨outside, substitutionTarget_eq_none outside⟩

theorem substitutionAdd_of_outside (h : 6 ≤ b.toNat ∨ 767 < bigEndian [n1, n0]) :
    substitutionAdd [tb, b, op, n1, n0] s = .refuse s .range := by
  rcases substitutionTarget_cases tb b op n1 n0 with ⟨-, target⟩ | ⟨inside, c, target⟩
  · simp only [substitutionAdd, target]
  · simp only [substitutionAdd, target, if_pos (h.resolve_left (Nat.not_le.2 inside))]

theorem substitutionRemove_of_outside (h : 6 ≤ b.toNat ∨ 767 < bigEndian [n1, n0]) :
    substitutionRemove [tb, b, op, n1, n0] s = .refuse s .range := by
  rcases substitutionTarget_cases tb b op n1 n0 with ⟨-, target⟩ | ⟨inside, c, target⟩
  · simp only [substitutionRemove, target]
  · simp only [substitutionRemove, target, if_pos (h.resolve_left (Nat.not_le.2 inside))]

theorem substitutionClear_of_outside (h : 6 ≤ b.toNat) : substitutionClear [tb, b, op, n1, n0] s = .refuse s .range := by
  simp only [substitutionClear, substitutionTarget_eq_none h]

theorem substitutionAdd_of_inside (hc : b.toNat = c.val) (hn : bigEndian [n1, n0] ≤ 767) :
    substitutionAdd [tb, b, op, n1, n0] s = ⟨s.setNext (s.maps.next.add s.tables c (bigEndian [n1, n0])).1,
      (s.maps.next.add s.tables c (bigEndian [n1, n0])).2, .none⟩ := by
  simp only [substitutionAdd, substitutionTarget_eq_some hc, if_neg (Nat.not_lt.2 hn)]

theorem substitutionRemove_of_inside (hc : b.toNat = c.val) (hn : bigEndian [n1, n0] ≤ 767) :
    substitutionRemove [tb, b, op, n1, n0] s = .done (s.setNext (s.maps.next.remove s.tables c (bigEndian [n1, n0]))) := by
  simp only [substitutionRemove, substitutionTarget_eq_some hc, if_neg (Nat.not_lt.2 hn)]

theorem substitutionClear_of_inside (hc : b.toNat = c.val) :
    substitutionClear [tb, b, op, n1, n0] s = .done (s.setNext (s.maps.next.clear s.tables c)) := by
  simp only [substitutionClear, substitutionTarget_eq_some hc]

end Answers

/-! ## The requests -/

section Requests

variable {s : State} {tag b n1 n0 : Byte} {c : Channel} {o : ReplyOutcome}

theorem commitMap_runs (h : s.asks 0x13#8 tag []) :
    Runs .commitMap s (({ s with maps := { s.maps with commitPending := true } } : State).answered 0x13#8 tag .done) :=
  runs_of_serveWith h .commitMap false (ofKind 0x13#8)
    (noBody fun t => .done { t with maps := { t.maps with commitPending := true } }) (by simp [ofKind]) rfl .done .none rfl

/-- A SUBSTITUTION write runs to the state its answer gives, in which the reply stands. -/
theorem substitution_runs {i : Instr} {op : Byte} {act : List Byte → State → Answer} {u : State}
    (h : s.asks 0x18#8 tag [6#8, b, op, n1, n0]) (hi : exec i s = serve (isSubstitution op.toNat) act s)
    (ha : act [6#8, b, op, n1, n0] { s with lane := s.lane.pop } = ⟨{ u with lane := u.lane.pop }, o, .none⟩) :
    Runs i s (u.answered 0x18#8 tag o) :=
  runs_of_serveWith h i false (isSubstitution op.toNat) act (by simp [isSubstitution]) hi o .none ha

theorem substitutionAdd_runs_inside (h : s.asks 0x18#8 tag [6#8, b, 0#8, n1, n0]) (hc : b.toNat = c.val)
    (hn : bigEndian [n1, n0] ≤ 767) {b' : Bank} (ha : s.maps.next.add s.tables c (bigEndian [n1, n0]) = (b', o)) :
    Runs .substitutionAdd s ((s.setNext b').answered 0x18#8 tag o) := by
  refine substitution_runs h rfl ((substitutionAdd_of_inside _ hc hn).trans ?_)
  simp only [ha]
  rfl

theorem substitutionRemove_runs_inside (h : s.asks 0x18#8 tag [6#8, b, 1#8, n1, n0]) (hc : b.toNat = c.val)
    (hn : bigEndian [n1, n0] ≤ 767) {b' : Bank} (ha : s.maps.next.remove s.tables c (bigEndian [n1, n0]) = b') :
    Runs .substitutionRemove s ((s.setNext b').answered 0x18#8 tag .done) := by
  subst ha
  exact substitution_runs h rfl ((substitutionRemove_of_inside _ hc hn).trans rfl)

theorem substitutionClear_runs_inside (h : s.asks 0x18#8 tag [6#8, b, 2#8, n1, n0]) (hc : b.toNat = c.val) :
    Runs .substitutionClear s ((s.setNext (s.maps.next.clear s.tables c)).answered 0x18#8 tag .done) :=
  substitution_runs h rfl ((substitutionClear_of_inside _ hc).trans rfl)

end Requests

/-- A request that replaces a channel's list in the Next bank changes the lists of that bank alone, and of the dead nozzles only those of
that channel; it keeps the maps sound where the new dead nozzles may be listed. -/
theorem runs_editList {i : Instr} {s : State} {k tag : Byte} {o : ReplyOutcome} {b : Bank} {c : Channel} {l : List SubEntry}
    (h : Runs i s ((s.setNext (b.editList s.tables c l)).answered k tag o)) (hb : b.lists = s.maps.next.lists)
    (good : s.MapInv → Listable (l.map (·.dead))) :
    ∃ t, exec i s = .next t ∧
      Follows (({ s with maps := { s.maps with next := { lists := t.maps.next.lists, overflow := b.overflow } } } : State).answered
        k tag o) t ∧
      t.maps.next.deadList c = l.map (·.dead) ∧ (∀ d, d ≠ c → t.maps.next.deadList d = s.maps.next.deadList d) ∧
      (s.MapInv → t.MapInv) := by
  obtain ⟨t, hexec, ht⟩ := h
  have hmaps : t.maps = (s.setNext (b.editList s.tables c l)).maps := ht.maps
  have htables : t.tables = s.tables := ht.tables
  have hnext : t.maps.next = b.editList s.tables c l := congrArg Maps.next hmaps
  refine ⟨t, hexec, ?_, ?_, fun d hd => ?_, fun inv => ?_⟩
  · rw [hnext]
    exact ht
  · rw [hnext, Bank.deadList_editList, if_pos rfl]
  · rw [hnext, Bank.deadList_editList, if_neg hd, Bank.deadList, hb, Bank.deadList]
  · have kept := State.mapInv_setNext_editList inv hb c (good inv)
    rw [State.mapInv_iff] at kept ⊢
    rw [hmaps, htables]
    exact kept

/-! ## The statement -/

/-- Settles O21: the refusals and the edits that change nothing leave the state to the reply; each edit that changes a list replaces that
of its channel, and the dead nozzles of the new list are those of the old one with the nozzle inserted, filtered out, or none. -/
theorem mapEditsChangeOnlyTheNextBank : Obligations.MapEditsChangeOnlyTheNextBank := by
  refine fun s tag b n1 n0 => ⟨commitMap_runs,
    fun outside => ⟨fun h => substitution_runs h rfl (substitutionAdd_of_outside _ outside),
      fun h => substitution_runs h rfl (substitutionRemove_of_outside _ outside)⟩,
    fun outside h => substitution_runs h rfl (substitutionClear_of_outside _ outside),
    fun c hc => ⟨fun hn h => ⟨?listed, ?full, ?add⟩, fun hn h => ⟨?unlisted, ?remove⟩, fun h => ?clear⟩⟩
  case listed => exact fun listed => substitutionAdd_runs_inside h hc hn (Bank.add_of_listed listed)
  case full => exact fun new full => substitutionAdd_runs_inside h hc hn (Bank.add_of_full new full)
  case add =>
    intro new room
    have inserted := map_dead_insertEntry ⟨bigEndian [n1, n0], .suppress⟩ s.maps.next.lists[c] new
    obtain ⟨t, hexec, hfollows, hdead, hothers, hinv⟩ :=
      runs_editList (substitutionAdd_runs_inside h hc hn (Bank.add_of_room new room)) rfl fun inv => by
        rw [inserted]
        exact (inv.next_listable c).orderedInsert new room hn
    exact ⟨t, hexec, hfollows, (List.Perm.of_eq (hdead.trans inserted)).trans (List.perm_orderedInsert _ _ _), hothers, hinv⟩
  case unlisted => exact fun unlisted => substitutionRemove_runs_inside h hc hn (Bank.remove_of_not_listed unlisted)
  case remove =>
    intro listed
    have filtered := s.maps.next.map_dead_filter c (bigEndian [n1, n0])
    obtain ⟨t, hexec, hfollows, hdead, hothers, hinv⟩ :=
      runs_editList (substitutionRemove_runs_inside h hc hn (Bank.remove_of_listed listed)) rfl fun inv => by
        rw [filtered]
        exact (inv.next_listable c).filter _
    exact ⟨t, hexec, hfollows, hdead.trans filtered, hothers, hinv⟩
  case clear => exact runs_editList (substitutionClear_runs_inside h hc) rfl fun _ => Listable.nil

end Sys2Proof.Machine
end

section
/-!
PROOFS. Family 08, the scan: SCAN START, SCAN STOP and SCAN NOW, what a table write leaves of the fields in use, and a release while the
scan is stopped (R143, R144, R158). Beyond the triggers the scan is a frame: each operation that a table write or a grant is made of has
one lemma that says it leaves the scan as it is.
-/

namespace Sys2Proof.Machine

/-! ## Triggers (R143, R144) -/

theorem Scan.trigger_of_stopped {v : Scan} (h : v.running = false) : v.trigger = v := by simp [Scan.trigger, h]

/-- A trigger in TRIGGERED SWEEP mode begins a sweep at the start input where none is in flight, and leaves one that is. -/
theorem Scan.trigger_of_triggered {v : Scan} (running : v.running = true) (triggered : v.mode = .triggered) :
    v.trigger = { v with sweep := some (v.sweep.getD v.startIn) } := by
  cases flight : v.sweep with
  | none => simp [Scan.trigger, running, triggered, flight]
  | some i =>
    simp only [Scan.trigger, flight, Option.isNone_some, Bool.and_false, Bool.false_eq_true, if_false, Option.getD_some]
    rw [← flight]

/-! ## The requests (R144) -/

section Requests

variable {s : State} {tag : Byte}

theorem scanStart_runs (h : s.asks 0x15#8 tag []) :
    Runs .scanStart s (({ s with scan := s.scan.start s.now s.tables.mode } : State).answered 0x15#8 tag .done) :=
  runs_of_serveWith h .scanStart false (ofKind 0x15#8) (noBody fun t => .done { t with scan := t.scan.start t.now t.tables.mode })
    (by simp [ofKind]) rfl .done .none rfl

theorem scanStop_runs (h : s.asks 0x16#8 tag []) :
    Runs .scanStop s (({ s with scan := s.scan.stop } : State).answered 0x16#8 tag .done) :=
  runs_of_serveWith h .scanStop false (ofKind 0x16#8) (noBody fun t => .done { t with scan := t.scan.stop })
    (by simp [ofKind]) rfl .done .none rfl

theorem scanNow_of_untriggered (h : s.scan.running = false ∨ s.scan.mode = .continuous) : scanNow s = .refuse s .state := by
  rcases h with stopped | continuous
  · simp [scanNow, stopped]
  · simp [scanNow, continuous]

theorem scanNow_of_triggered (running : s.scan.running = true) (triggered : s.scan.mode = .triggered) :
    scanNow s = .done { s with scan := { s.scan with sweep := some (s.scan.sweep.getD s.scan.startIn) } } := by
  rw [← Scan.trigger_of_triggered running triggered]
  simp [scanNow, running, triggered]

/-- SCAN NOW runs to the state its answer gives, in which the reply stands. -/
theorem scanNow_runs {u : State} {o : ReplyOutcome} (h : s.asks 0x17#8 tag [])
    (ha : scanNow { s with lane := s.lane.pop } = ⟨{ u with lane := u.lane.pop }, o, .none⟩) :
    Runs .scanNow s (u.answered 0x17#8 tag o) :=
  runs_of_serveWith h .scanNow false (ofKind 0x17#8) (noBody scanNow) (by simp [ofKind]) rfl o .none ha

end Requests

/-! ## What leaves the scan as it is -/

section Frame

variable (s : State)

theorem foldl_scan {α : Type} {f : State → α → State} (h : ∀ t a, (f t a).scan = t.scan) (l : List α) :
    (l.foldl f s).scan = s.scan :=
  List.foldlRecOn (motive := fun t : State => t.scan = s.scan) l f rfl fun t ht a _ => (h t a).trans ht

@[simp] theorem State.requestRefill_scan (c : Channel) (k : RefillKind) (a : Option Nat) (o : Origins) :
    (s.requestRefill c k a o).scan = s.scan := (Follows.requestRefill s c k a o).scan

@[simp] theorem State.reformSupply_scan (c : Channel) : (s.reformSupply c).scan = s.scan := (Follows.reformSupply s c).scan

@[simp] theorem State.respit_scan : s.respit.scan = s.scan := by
  rcases s.respit_eq with kept | ⟨o, b, v, -, -, changed⟩
  · rw [kept]
  · rw [changed]

/-! ### Cartridges and refills -/

@[simp] theorem State.handBack_scan (c : Channel) : (s.handBack c).scan = s.scan := by
  simp only [State.handBack]
  rw [foldl_scan _ fun t r => State.requestRefill_scan .., State.withdraw_scan]

@[simp] theorem State.cartridgeAble_scan (c : Channel) : (s.cartridgeAble c).scan = s.scan := by
  cases need : s.supply[c].need <;> simp [-Fin.getElem_fin, State.cartridgeAble, need, apply_ite State.scan]

@[simp] theorem State.setCart_scan (c : Channel) (r : Cartridge) (report : Bool) : (s.setCart c r report).scan = s.scan := by
  simp only [State.setCart]
  split_ifs <;> simp

@[simp] theorem State.reformCart_scan (c : Channel) : (s.reformCart c).scan = s.scan := by
  simp only [State.reformCart]
  split_ifs <;> simp

@[simp] theorem State.closeRefill_scan (c : Channel) (k : Refill) : (s.closeRefill c k).scan = s.scan := rfl

@[simp] theorem State.endRefill_scan (c : Channel) (k : Refill) (e : RefillEnd) : (s.endRefill c k e).scan = s.scan := by
  simp [State.endRefill, State.refillDone]

@[simp] theorem State.faultRefill_scan (c : Channel) (k : Refill) (e : RefillFaultReason) : (s.faultRefill c k e).scan = s.scan := by
  simp [State.faultRefill]

@[simp] theorem State.beginStroke_scan (c : Channel) : (s.beginStroke c).scan = s.scan := by
  cases refill : s.supply[c].refill with
  | none => simp only [State.beginStroke, refill]
  | some k =>
    simp only [State.beginStroke, refill]
    split_ifs <;> simp

@[simp] theorem State.startRefill_scan (c : Channel) (k : RefillKind) (a : Option Nat) : (s.startRefill c k a).scan = s.scan := by
  simp [State.startRefill, apply_ite State.scan]

/-! ### The station and the ladders -/

@[simp] theorem State.wearTests_scan : s.wearTests.scan = s.scan :=
  foldl_scan s (fun t h => by unfold State.wearTest; split <;> simp) _

@[simp] theorem State.setLadder_scan (c : Channel) (l : Ladder) : (s.setLadder c l).scan = s.scan := by
  simp only [State.setLadder, State.dropAsked]
  split_ifs <;> simp

@[simp] theorem State.suspendLadder_scan (c : Channel) (cause : SuspendCause) : (s.suspendLadder c cause).scan = s.scan := by
  simp only [State.suspendLadder]
  split <;> simp

@[simp] theorem State.beginSequence_scan (o : OpInFlight) : (s.beginSequence o).scan = s.scan := by
  simp only [State.beginSequence]
  split
  · rw [State.beginStroke_scan]; split <;> rfl
  · split <;> rfl

/-- A station request granted leaves the scan: a refill's record is written, or a sequence runs, or the dock is commanded. -/
@[simp] theorem State.grantOp_scan (r : Request) : (s.grantOp r).scan = s.scan := by
  simp only [State.grantOp]
  split <;> split_ifs <;> simp

@[simp] theorem State.primeFails_scan (c : Channel) (o : Origins) : (s.primeFails c o).scan = s.scan := by
  simp only [State.primeFails]
  cases s.tables.kindOf c <;> simp only <;> split <;> simp [apply_ite State.scan]

@[simp] theorem State.arbitratePrimes_scan (cs : List Channel) : (State.arbitratePrimes cs s).scan = s.scan := by
  induction cs generalizing s with
  | nil => rfl
  | cons c cs ih =>
    simp only [State.arbitratePrimes]
    split
    · rfl
    · split
      · exact ih s
      · split
        · rfl
        · rw [ih, State.primeFails_scan]

@[simp] theorem State.bandRisk_scan (i : SlotIx) : (s.bandRisk i).scan = s.scan := by
  unfold State.bandRisk
  split
  · split <;> simp
  · rfl

end Frame

/-! ## A grant and the scan (R143) -/

/-- A release is a trigger of the scan, and changes nothing else of it. -/
theorem State.release_scan (s : State) (i : SlotIx) (rep : Bool) (rest : List Entry) : (s.release i rep rest).scan = s.scan.trigger := by
  simp only [State.release]
  split <;> simp

/-- A grant to the print pass leaves the scan, unless it releases a swath. -/
theorem State.grantPass_scan (s : State) : s.grantPass.scan = s.scan ∨ s.grantPass.scan = s.scan.trigger := by
  generalize granted : s.grantPass = u
  simp only [State.grantPass] at granted
  split at granted
  case h_1 i rep rest front =>
    split at granted
    case isTrue => rw [← granted, State.release_scan]; exact .inr rfl
    case isFalse =>
      have evaluated := Follows.evaluateSwath { s with service := { s.service with passAsked := false } } i rep rest front
      rw [← granted, evaluated.scan]
      exact .inl rfl
  case h_2 => rw [← granted]; exact .inl rfl

/-- An arbitration leaves the scan, unless it releases a swath. -/
theorem State.arbitrate_scan (s : State) : s.arbitrate.scan = s.scan ∨ s.arbitrate.scan = s.scan.trigger := by
  have pass := (State.arbitratePrimes channels s).grantPass_scan
  rw [State.arbitratePrimes_scan] at pass
  generalize arbitrated : s.arbitrate = u
  simp only [State.arbitrate] at arbitrated
  split at arbitrated <;> split at arbitrated <;> subst arbitrated
  case h_1.isTrue | h_2.isTrue => exact pass
  case h_1.isFalse | h_2.isFalse => simp

theorem arbiterGrant_scan_of_stopped {s t : State} (stopped : s.scan.running = false) (h : exec .arbiterGrant s = .next t) :
    t.scan = s.scan := by
  have kept : s.arbitrate.scan = s.scan := by
    rcases s.arbitrate_scan with kept | released
    · exact kept
    · exact released.trans (Scan.trigger_of_stopped stopped)
  change execArbiterGrant s = .next t at h
  unfold execArbiterGrant at h
  split at h
  · obtain ⟨u, ended, follows⟩ := ends_follows false s s.arbitrate
    rw [← Host.Outcome.next.inj (ended.symm.trans h), follows.scan, kept]
  · rw [Host.Outcome.next.inj h]

/-! ## A table write and the fields in use (R153, R158) -/

/-- From v to w nothing of the scan has changed but its results: every field in use, the sweep and the periodic timer stand. -/
def Scan.SameUse (v w : Scan) : Prop := w = { v with results := w.results }

theorem Scan.SameUse.of_eq {v w : Scan} (h : w = v) : v.SameUse w := by subst h; rfl

/-- A result that becomes stale is all that changes of the scan (R141). -/
theorem State.makeStale_sameUse (s : State) (i : AIn) : s.scan.SameUse (s.makeStale i).scan := by
  simp [Scan.SameUse, State.makeStale]

@[simp] theorem State.storeChannel_scan (s : State) (c : Channel) (fields : List (Nat × Int)) (r : ChannelRec × Int) :
    (s.storeChannel c fields r).scan = s.scan := by
  simp only [State.storeChannel]
  split_ifs <;> simp

/-- A write that is stored gives the state that its table makes of some record. -/
theorem writeRecord_stored {α : Type} {put : α → Nat → Int → FieldWrite α} {old : α} {fields : List (Nat × Int)} {valid : α → Bool}
    {inUse : Bool} {store : α → State} {u : State} {clamped : List (Nat × Int)}
    (h : writeRecord put old fields valid inUse store = .stored u clamped) : ∃ r, u = store r := by
  unfold writeRecord at h
  split at h
  · cases h
  · split_ifs at h
    cases h
    exact ⟨_, rfl⟩

section Writes

variable {s u : State} {fields clamped : List (Nat × Int)}

theorem writeInk_scan {k : Fin 16} (h : writeInk k fields s = .stored u clamped) : u.scan = s.scan := by
  obtain ⟨r, rfl⟩ := writeRecord_stored h
  simp

theorem writeChannel_scan {c : Channel} (h : writeChannel c fields s = .stored u clamped) : u.scan = s.scan := by
  obtain ⟨r, rfl⟩ := writeRecord_stored h
  simp

theorem writeProfile_scan {k : Fin 16} (h : writeProfile k fields s = .stored u clamped) : u.scan = s.scan := by
  obtain ⟨r, rfl⟩ := writeRecord_stored h
  rfl

theorem writeService_scan (h : writeService fields s = .stored u clamped) : u.scan = s.scan := by
  obtain ⟨r, rfl⟩ := writeRecord_stored h
  split <;> simp

/-- The write of an input's scan record may make its result stale at once, and changes nothing else of the scan. -/
theorem writeScan_sameUse {i : AIn} (h : writeScan i fields s = .stored u clamped) : s.scan.SameUse u.scan := by
  obtain ⟨r, rfl⟩ := writeRecord_stored h
  simp only
  split
  · exact State.makeStale_sameUse _ i
  · exact .of_eq rfl

theorem writeMode_scan (h : writeMode fields s = .stored u clamped) : u.scan = s.scan := by
  obtain ⟨r, rfl⟩ := writeRecord_stored h
  rfl

theorem writeInput_scan {i : DIn} (h : writeInput i fields s = .stored u clamped) : u.scan = s.scan := by
  obtain ⟨r, rfl⟩ := writeRecord_stored h
  rfl

/-- A write of any loaded table, the mode record's included, leaves the fields in use. -/
theorem writeTable_sameUse {table index : Nat} (h : writeTable table index fields s = some (.stored u clamped)) :
    s.scan.SameUse u.scan := by
  unfold writeTable at h
  split at h
  case h_1 => obtain ⟨k, -, hk⟩ := Option.map_eq_some_iff.1 h; exact .of_eq (writeInk_scan hk)
  case h_2 => obtain ⟨c, -, hc⟩ := Option.map_eq_some_iff.1 h; exact .of_eq (writeChannel_scan hc)
  case h_3 => obtain ⟨k, -, hk⟩ := Option.map_eq_some_iff.1 h; exact .of_eq (writeProfile_scan hk)
  case h_4 =>
    split at h
    · exact .of_eq (writeService_scan (Option.some.inj h))
    · cases h
  case h_5 =>
    split at h
    · exact .of_eq (writeMode_scan (Option.some.inj h))
    · obtain ⟨i, -, hi⟩ := Option.map_eq_some_iff.1 h
      exact writeScan_sameUse hi
  case h_6 => obtain ⟨i, -, hi⟩ := Option.map_eq_some_iff.1 h; exact .of_eq (writeInput_scan hi)
  case h_7 => cases h

end Writes

theorem tableWrite_sameUse (body : List Byte) (s : State) : s.scan.SameUse (tableWrite body s).state.scan := by
  unfold tableWrite
  split
  case h_1 => exact .of_eq rfl
  case h_2 =>
    split
    case h_1 => exact .of_eq rfl
    case h_2 => exact .of_eq rfl
    case h_3 stored => exact writeTable_sameUse stored
    case h_4 stored => exact writeTable_sameUse stored

/-- A command that serves a request leaves the state, where none waits for it, or its scan is the one its answer gives. -/
theorem serveWith_scan {b : Bool} {p : Frame → Bool} {act : List Byte → State → Answer} {s t : State}
    (h : serveWith b p act s = .next t) :
    t = s ∨ ∃ f, s.lane.request p = some f ∧ t.scan = (act f.body { s with lane := s.lane.pop }).state.scan := by
  unfold serveWith at h
  split at h
  case h_1 => cases h; exact .inl rfl
  case h_2 f waits => cases h; exact .inr ⟨f, waits, (Follows.finish ..).scan⟩

theorem tableWrite_exec_sameUse {s t : State} (h : exec .tableWrite s = .next t) : s.scan.SameUse t.scan := by
  rcases serveWith_scan (show serveWith true isTableWrite tableWrite s = .next t from h) with rfl | ⟨f, -, answered⟩
  · exact .of_eq rfl
  · rw [answered]
    exact tableWrite_sameUse f.body { s with lane := s.lane.pop }

/-! ## The statement -/

/-- Settles O22: the three requests by what each answers; a table write changes no part of the scan but its results; an arbitration
changes the scan by a release's trigger alone, which does nothing while the scan is stopped. -/
theorem scanRequestsStartStopAndTrigger : Obligations.ScanRequestsStartStopAndTrigger := by
  refine fun s tag => ⟨scanStart_runs, scanStop_runs, fun h => ⟨fun untriggered => ?refused, fun running triggered => ?sweeps⟩,
    fun t h => ?write, fun stopped t h => arbiterGrant_scan_of_stopped stopped h⟩
  case refused => exact scanNow_runs h (scanNow_of_untriggered (s := { s with lane := s.lane.pop }) untriggered)
  case sweeps => exact scanNow_runs h (scanNow_of_triggered (s := { s with lane := s.lane.pop }) running triggered)
  case write =>
    rw [tableWrite_exec_sameUse h]
    exact ⟨rfl, rfl, rfl, rfl, rfl, rfl⟩

end Sys2Proof.Machine
end

section
/-!
PROOFS. What a step can do, said once: each command either leaves the state, or its block's own effect is followed by what follows every
step. The effects stand in one inductive relation with the conditions under which they occur, so that a rule of the whole machine is a case
split over it.
-/

-- One declaration at a time: side by side, the threads' stacks come near the memory limit of the check.
set_option Elab.async false

namespace Sys2Proof.Machine

/-- What the block of a command makes of the state: of the state with the request taken from the receive buffer where the command takes
one. Each case carries the conditions that the block tests. -/
inductive Effect : Instr → State → State → Prop
  | none (c : Instr) (s : State) : Effect c s s
  | powerOn (s : State) (raw : Vector Bool 16) : Effect (.powerOn raw) s (s.powerOn raw)
  | engineReset (s : State) : Effect .engineReset s s.engineReset
  | engineResetLine (s : State) : Effect .engineResetLine s s.engineReset
  | laneAligned (s : State) (h : s.lane.aligned = false) :
      Effect .laneAligned s { s with lane := { s.lane with aligned := true } }
  | laneReset (s : State) : Effect .laneReset s
      ((((List.finRange 8).foldl State.damageByReset { s with lane := { s.lane with
        aligned := false, rx := [], hold := false, sending := .none, replies := [], events := [], notice := false } }).dropRetained
          ).raiseCondition (.laneError .alignment))
  | frameDiscarded (s : State) (bytes : List Byte) (r : LaneErrorReason) :
      Effect (.forwardFrameReceived bytes) s (s.raiseCondition (.laneError r))
  | framePlaced (s : State) (bytes : List Byte) (f : Frame) (ha : s.lane.aligned = true) (hr : s.lane.rx.length < 32) :
      Effect (.forwardFrameReceived bytes) s { s with lane := s.lane.place f }
  | returnFrameSent (s : State) : Effect .returnFrameSent s { s with lane := { s.lane with sending := .none } }
  | swathOpen (s : State) (i : SlotIx) (d : PassDir) (first last : Nat) (h : s.slots[i].state = .free) :
      Effect .swathOpen s (s.openSlot i d first last)
  | slice (s : State) (body : List Byte) : Effect .slice s (State.sliceEffect { s with lane := s.lane.pop } body)
  | swathMismatch (s : State) (i : SlotIx) (n : Nat) (h : s.slots[i].state = .composing) :
      Effect .swathClose s (s.damageByCount i n)
  | swathClose (s : State) (i : SlotIx) (h : s.slots[i].state = .composing) (hq : s.queue.length < 16) :
      Effect .swathClose s
        (({ s with slots := setAt s.slots i { s.slots[i] with state := .queued } } : State).append (.swath i false))
  | swathDiscard (s : State) (i : SlotIx) (h : s.slots[i].state = .composing ∨ s.slots[i].state = .damaged) :
      Effect .swathDiscard s (s.freeSlot i)
  | advance (s : State) (d : Nat) (hq : s.queue.length < 16) : Effect .advance s (s.append (.advance d .none .none false))
  | cut (s : State) (hq : s.queue.length < 16) : Effect .cut s (s.append .cut)
  | abort (s : State) : Effect .abort s s.abort
  | resume (s : State) : Effect .resume s (({ s with stop := ⟨false, .none⟩ } : State).resumeMotion)
  | loadMedia (s : State) (src : Source) (p : Fin 16) (mm : Nat) (hp : s.feed.path = .empty ∨ s.feed.path = .held)
      (hs : s.stop.set = false) : Effect .loadMedia s (s.startLoad src p mm)
  | clearJam (s : State) (c : Instr) (hc : c = .unloadMedia ∨ c = .eject) (hp : s.feed.path = .jammed) (h2 : s.inactive 2 = true) :
      Effect c s s.mediaOut
  | unloadMedia (s : State) (hp : s.feed.path = .ready) (hs : s.stop.set = false) (hm : s.moving = false) :
      Effect .unloadMedia s s.startUnload
  | eject (s : State) (he : s.feed.ejectable = true) (hs : s.stop.set = false) (hm : s.moving = false) :
      Effect .eject s (s.startEject .request)
  | wipe (s : State) (h : Head) : Effect .wipe s (s.place (.wipe h) .none byFormatter)
  | prime (s : State) (c : Channel) : Effect .prime s (s.place (.prime c) .none byFormatter)
  | checkNozzles (s : State) (set : ChannelSet) : Effect .checkNozzles s (s.place (.check set) .none byFormatter)
  | cap (s : State) : Effect .cap s (s.place .cap .none byFormatter)
  | fillToMark (s : State) (c : Channel) : Effect .fillToMark s (s.requestRefill c .fill .none byFormatter)
  | resetLadder (s : State) (c : Channel) : Effect .resetLadder s (s.formatterResetsLadder c)
  | commitMap (s : State) : Effect .commitMap s { s with maps := { s.maps with commitPending := true } }
  | tagRead (s : State) (c : Channel) (h : s.carts[c].state = .rejected ∨ s.carts[c].state = .tagFault) :
      Effect .tagRead s (s.beginInsertion c)
  | scan (s : State) (c : Instr) (v : Scan) (hc : c = .scanStart ∨ c = .scanStop ∨ c = .scanNow ∨ c = .periodicTimerExpiry) :
      Effect c s { s with scan := v }
  | tableWrite (s u : State) (t i : Nat) (fields clamped : List (Nat × Int))
      (h : writeTable t i fields s = some (.stored u clamped)) : Effect .tableWrite s u
  | substitutionAdd (s : State) (c : Channel) (n : Nat) (hn : n ≤ 767) :
      Effect .substitutionAdd s (s.setNext (s.maps.next.add s.tables c n).1)
  | substitutionRemove (s : State) (c : Channel) (n : Nat) : Effect .substitutionRemove s (s.setNext (s.maps.next.remove s.tables c n))
  | substitutionClear (s : State) (c : Channel) : Effect .substitutionClear s (s.setNext (s.maps.next.clear s.tables c))
  | clearConditions (s : State) (named : List Condition) : Effect .clearConditions s (s.clearNamed named)
  | arbiterGrant (s : State) (h : s.mayGrant = true) : Effect .arbiterGrant s s.arbitrate
  | advanceStart (s : State) (d : Nat) (n r : Option Nat) (short : Bool) (rest : List Entry)
      (hq : s.queue = ⟨.advance d n r short, .waiting⟩ :: rest) (h : (s.advanceHolds d).isEmpty = true) :
      Effect .advanceStart s (s.startAdvance d short rest)
  | cutStart (s : State) (rest : List Entry) (hq : s.queue = ⟨.cut, .waiting⟩ :: rest) (h : s.cutHolds.isEmpty = true) :
      Effect .cutStart s (s.startCut rest)
  | cutEjects (s : State) (rest : List Entry) (hq : s.queue = ⟨.cut, .waiting⟩ :: rest) (h : s.cutHolds.isEmpty = true) :
      Effect .cutStart s (({ s with queue := ⟨.cut, .active⟩ :: rest } : State).startEject .entry)
  | spittoonStrobe (s : State) (p : PassContext) (hp : s.pass = some p) (h : p.spitDone = false) :
      Effect .spittoonStrobe s { s with
        pass := some (p.spat s.now s.driveEnable)
        out := { s.out with firing := p.spitDrops s.driveEnable, shots := p.spitShots } }
  | columnStrobe (s : State) (p : PassContext) (x : Nat) (hp : s.pass = some p) (h : p.nextColumn = some x) :
      Effect (.columnStrobe x) s { s with
        pass := some (p.strobed s.now x (s.fires p x))
        out := { s.out with firing := s.fires p x, shots := Vector.replicate 6 1 } }
  | passCompletion (s : State) (p : PassContext) (hp : s.pass = some p) (h : p.crossed = true) :
      Effect .passCompletion s (s.endPass p true)
  | strobeTimeout (s : State) (p : PassContext) (hp : s.pass = some p) : Effect .strobeTimeout s (s.setStop .strobeTimeout)
  | dockReported (s : State) : Effect .dockReported s s.docks
  | operationFails (s : State) (c : Instr) (o : OpInFlight) (timeout : Bool) (ho : s.service.holder = .op o)
      (hc : c = .dockFailed ∨ c = .stationDriveFault ∨ c = .stationOpTimeout) : Effect c s (s.failOp o timeout)
  | wipeCompletion (s : State) (o : OpInFlight) (h : Head) (ho : s.service.holder = .op o) (hr : o.running = true)
      (hw : o.req.op = .wipe h) : Effect .wipeCompletion s (s.wipeDone o h)
  | primeCompletion (s : State) (o : OpInFlight) (c : Channel) (ho : s.service.holder = .op o) (hr : o.running = true)
      (hw : o.req.op = .prime c) : Effect .primeCompletion s (s.primeDone o c)
  | checkCompletion (s : State) (dead : List (Channel × Nat)) (o : OpInFlight) (set : ChannelSet) (ho : s.service.holder = .op o)
      (hr : o.running = true) (hw : o.req.op = .check set) : Effect (.checkCompletion dead) s (s.checkDone o set dead)
  | capCompletion (s : State) (o : OpInFlight) (ho : s.service.holder = .op o) (hr : o.running = true) (hw : o.req.op = .cap) :
      Effect .capCompletion s (({ s with service := { s.service with capped := true } } : State).opDone)
  | capDelayExpiry (s : State) : Effect .capDelayExpiry s s.capTest
  | strokeComplete (s : State) (o : OpInFlight) (c : Channel) (k : Refill) (ho : s.service.holder = .op o) (hr : o.running = true)
      (hc : o.req.op.refillChannel = some c) (hk : s.supply[c].refill = some k) (hi : k.inStroke = true) :
      Effect .refillStrokeComplete s (s.strokeDone c k)
  | tagAnswered (s : State) (c : Channel) (a : TagAnswer) (txn : TagTxn) (t : Nat) (hl : s.carts[c].link = some (txn, t)) :
      Effect (.tagBackwardFrame c a) s (s.tagAnswered c txn a)
  | tagFaults (s : State) (c : Channel) (i : Instr) (hi : (∃ a, i = .tagBackwardFrame c a) ∨ i = .tagTimeout c)
      (x : TagTxn × Nat) (hl : s.carts[c].link = some x) : Effect i s (s.tagFaults c)
  | lampBlinkToggle (s : State) (c : Channel) : Effect (.lampBlinkToggle c) s { s with lamps := modifyAt s.lamps c Lamp.toggle }
  | rawInputChange (s : State) (i : DIn) (b : Bool) : Effect (.rawInputChange i b) s (s.rawInput i b)
  | inputFilterExpiry (s : State) (i : DIn) (b : Bool) : Effect (.inputFilterExpiry i) s (s.acceptInput i b)
  | feedEncoderCount (s : State) (d : Int) : Effect (.feedEncoderCount d) s (s.encoder d)
  | advanceSettled (s : State) (m : Motion) (hm : s.feed.motion = some m) (hk : m.work.kind = .advance) :
      Effect .advanceSettled s s.advanceDone
  | feedStall (s : State) (m : Motion) (hm : s.feed.motion = some m) : Effect .feedStall s (s.jam .stall)
  | cutTimeout (s : State) (m : Motion) (hm : s.feed.motion = some m) : Effect .cutTimeout s s.cutFails
  | loadEdgeSettled (s : State) : Effect .loadEdgeSettled s s.loadRests
  | loadBackfeedDone (s : State) : Effect .loadBackfeedDone s s.retryDone
  | loadNoEdge (s : State) : Effect .loadNoEdge s (s.loadFails .noEdge)
  | ejectComplete (s : State) (m : Motion) (hm : s.feed.motion = some m) : Effect .ejectComplete s (s.ejectDone m)
  | limit (s : State) (c : Instr) (hc : c = .ejectLimit ∨ c = .unloadLimit) (m : Motion) (hm : s.feed.motion = some m) :
      Effect c s (s.jam .limit)
  | unloadComplete (s : State) (m : Motion) (hm : s.feed.motion = some m) (hk : m.work.kind = .unload) :
      Effect .unloadComplete s s.mediaOut
  | conversionEnd (s : State) (raw : Nat) (i : AIn) : Effect (.conversionEnd raw) s (s.converted i raw)
  | resultStaleExpiry (s : State) (i : AIn) : Effect (.resultStaleExpiry i) s (s.makeStale i)

/-- All commands but those of the lane itself, SLICE and POWER_ON: the requests are among them. -/
def offLane : Instr → Bool
  | .powerOn _ | .laneAligned | .laneReset | .forwardFrameReceived _ | .returnFrameSent | .slice => false
  | _ => true

/-- A command's own effect from s is u, a request being taken and answered first where r gives its reply. -/
def Step (c : Instr) (s u : State) : Prop :=
  Effect c s u ∨
    offLane c = true ∧ ∃ v r, s.lane.rx ≠ [] ∧ s.lane.replies.length < 8 ∧ Effect c { s with lane := s.lane.pop } v ∧
      u = { v with lane := v.lane.reply r }

/-- The step from s to t by a command: nothing, or the effect u with what follows every step. -/
inductive Took (c : Instr) (s : State) : State → Prop
  | idle : Took c s s
  | ran (force : Bool) (s0 u : State) (h : Step c s u) : Took c s (State.finish force s0 u)

/-! ## Requests -/

@[simp] theorem Answer.done_state (s : State) : (Answer.done s).state = s := rfl
@[simp] theorem Answer.refuse_state (s : State) (o : ReplyOutcome) : (Answer.refuse s o).state = s := rfl

theorem Lane.request_eq_some {l : Lane} {p : Frame → Bool} {f : Frame} (h : l.request p = some f) :
    l.rx ≠ [] ∧ l.replies.length < 8 := by
  unfold Lane.request at h
  cases hr : l.rx with
  | nil => simp [hr] at h
  | cons g rx =>
    simp only [hr, Option.ite_none_right_eq_some, Bool.and_eq_true, decide_eq_true_eq] at h
    exact ⟨by simp, h.1.2⟩

/-- A request taken and answered, whose block's answer is an effect of the command, is a step of that command. -/
theorem Took.of_serveWith {c : Instr} {store : Bool} {p : Frame → Bool} {act : List Byte → State → Answer} {s t : State}
    (h : serveWith store p act s = .next t) (ha : ∀ body u, Effect c u (act body u).state) (hc : offLane c = true := by rfl) :
    Took c s t := by
  unfold serveWith at h
  cases hr : s.lane.request p with
  | none => simp only [hr, Host.Outcome.next.injEq] at h; exact h ▸ .idle
  | some f =>
    simp only [hr, ends, Host.Outcome.next.injEq] at h
    obtain ⟨hx, hl⟩ := Lane.request_eq_some hr
    exact h ▸ .ran _ _ _ (.inr ⟨hc, _, _, hx, hl, ha _ _, rfl⟩)

/-- A command that ends with an effect of its own is a step of that command. -/
theorem Took.of_ends {c : Instr} {force : Bool} {s s0 u t : State} (h : ends force s0 u = .next t) (hu : Effect c s u) :
    Took c s t := by
  simp only [ends, Host.Outcome.next.injEq] at h
  exact h ▸ .ran _ _ _ (.inl hu)

theorem Took.of_next {c : Instr} {s t : State} (h : (.next s : Host.Outcome State Fault Refusal) = .next t) : Took c s t := by
  simp only [Host.Outcome.next.injEq] at h
  exact h ▸ .idle

/-- A command that runs under a condition and is ignored otherwise. -/
theorem Took.of_ite {c : Instr} {p : Prop} [Decidable p] {force : Bool} {s s0 u t : State}
    (h : (if p then ends force s0 u else .next s) = .next t) (hu : p → Effect c s u) : Took c s t := by
  split at h
  next hp => exact .of_ends h (hu hp)
  next => exact .of_next h

theorem Effect.noBody {c : Instr} {act : State → Answer} (h : ∀ u, Effect c u (act u).state) (body : List Byte) (u : State) :
    Effect c u (noBody act body u).state := by
  cases body with
  | nil => exact h u
  | cons => exact .none ..

theorem Effect.oneByte {c : Instr} {α : Type} {read : Byte → Option α} {act : α → State → Answer}
    (h : ∀ x u, Effect c u (act x u).state) (body : List Byte) (u : State) : Effect c u (oneByte read act body u).state := by
  unfold Machine.oneByte
  split
  · split
    · exact h _ u
    · exact .none ..
  · exact .none ..

/-! ## The answers of the blocks -/

theorem openSwath_effect (body : List Byte) (s : State) : Effect .swathOpen s (openSwath body s).state := by
  unfold openSwath
  split
  · split
    · dsimp only
      split_ifs with h1 h2
      · exact .none ..
      · exact .none ..
      · exact .swathOpen _ _ _ _ _ (by simpa using h2)
    · exact .none ..
  · exact .none ..

theorem closeSwath_effect (body : List Byte) (s : State) : Effect .swathClose s (closeSwath body s).state := by
  unfold closeSwath
  split
  · split
    · dsimp only
      split_ifs with h1 h2 h3
      · exact .none ..
      · exact .swathMismatch _ _ _ (by simpa using h1)
      · exact .none ..
      · exact .swathClose _ _ (by simpa using h1) (by simpa using h3)
    · exact .none ..
  · exact .none ..

theorem discardSwath_effect (i : SlotIx) (s : State) : Effect .swathDiscard s (discardSwath i s).state := by
  unfold discardSwath
  split
  next h => exact .swathDiscard _ _ (.inl h)
  next h => exact .swathDiscard _ _ (.inr h)
  all_goals exact .none ..

theorem askAdvance_effect (body : List Byte) (s : State) : Effect .advance s (askAdvance body s).state := by
  unfold askAdvance appendJob
  split
  · dsimp only
    split_ifs with h1 h2
    · exact .none ..
    · exact .none ..
    · exact .advance _ _ (by simpa using h2)
  · exact .none ..

theorem appendCut_effect (s : State) : Effect .cut s (appendJob .cut s).state := by
  unfold appendJob
  split_ifs with h
  · exact .none ..
  · exact .cut _ (by simpa using h)

theorem resumeEngine_effect (s : State) : Effect .resume s (resumeEngine s).state := by
  unfold resumeEngine
  split_ifs
  · exact .none ..
  · exact .resume _
  · exact .none ..

theorem loadMedia_effect (body : List Byte) (s : State) : Effect .loadMedia s (Machine.loadMedia body s).state := by
  unfold Machine.loadMedia
  split
  · split
    · dsimp only
      split_ifs with h1 h2
      · exact .none ..
      · exact .none ..
      · simp only [Bool.or_eq_true, Bool.not_eq_true', decide_eq_true_eq, not_or, Bool.not_eq_false, Bool.not_eq_true] at h2
        exact .loadMedia _ _ _ _ h2.1.1 h2.1.2
    · exact .none ..
  · exact .none ..

theorem clearJam_effect {c : Instr} (hc : c = .unloadMedia ∨ c = .eject) {s : State} (hp : s.feed.path = .jammed) :
    Effect c s (Machine.clearJam s).state := by
  unfold Machine.clearJam
  split_ifs with h
  · exact .clearJam _ _ hc hp h
  · exact .none ..

theorem unloadMedia_effect (s : State) : Effect .unloadMedia s (Machine.unloadMedia s).state := by
  unfold Machine.unloadMedia
  split_ifs with h1 h2 h3 h4
  · exact clearJam_effect (.inl rfl) h1
  · exact .none ..
  · exact .none ..
  · simp only [Bool.and_eq_true, decide_eq_true_eq] at h4
    exact .unloadMedia _ h4.1 (by simpa using h2) (by simpa using h3)
  · exact .none ..

theorem ejectMedia_effect (s : State) : Effect .eject s (ejectMedia s).state := by
  unfold ejectMedia
  split_ifs with h1 h2 h3 h4
  · exact clearJam_effect (.inr rfl) h1
  · exact .none ..
  · exact .none ..
  · exact .eject _ h4 (by simpa using h2) (by simpa using h3)
  · exact .none ..

theorem askPrime_effect (c : Channel) (s : State) : Effect .prime s (askPrime c s).state := by
  unfold askPrime
  split
  · exact .prime _ _
  · exact .none ..

theorem askCap_effect (s : State) : Effect .cap s (askCap s).state := by
  unfold askCap
  split_ifs
  · exact .cap _
  · exact .none ..

theorem askFill_effect (c : Channel) (s : State) : Effect .fillToMark s (askFill c s).state := by
  unfold askFill
  split_ifs
  · exact .fillToMark _ _
  · exact .none ..

theorem askTagRead_effect (c : Channel) (s : State) : Effect .tagRead s (askTagRead c s).state := by
  unfold askTagRead
  split
  case h_6 h => exact .tagRead _ _ (.inl h)
  case h_7 h => exact .tagRead _ _ (.inr h)
  all_goals exact .none ..

theorem scanNow_effect (s : State) : Effect .scanNow s (scanNow s).state := by
  unfold scanNow
  split_ifs
  · exact .scan _ _ _ (by simp)
  · exact .none ..

theorem tableWrite_effect (body : List Byte) (s : State) : Effect .tableWrite s (Machine.tableWrite body s).state := by
  unfold Machine.tableWrite
  split
  · exact .none ..
  · split
    · exact .none ..
    · exact .none ..
    next h => exact .tableWrite _ _ _ _ _ _ h
    next h => exact .tableWrite _ _ _ _ _ _ h

theorem substitutionAdd_effect (body : List Byte) (s : State) : Effect .substitutionAdd s (Machine.substitutionAdd body s).state := by
  unfold Machine.substitutionAdd
  split
  · split_ifs with h
    · exact .none ..
    · exact .substitutionAdd _ _ _ (by omega)
  · exact .none ..

theorem substitutionRemove_effect (body : List Byte) (s : State) :
    Effect .substitutionRemove s (Machine.substitutionRemove body s).state := by
  unfold Machine.substitutionRemove
  split
  · split_ifs
    · exact .none ..
    · exact .substitutionRemove ..
  · exact .none ..

theorem substitutionClear_effect (body : List Byte) (s : State) :
    Effect .substitutionClear s (Machine.substitutionClear body s).state := by
  unfold Machine.substitutionClear
  split
  · exact .substitutionClear ..
  · exact .none ..

theorem tableRead_effect (body : List Byte) (s : State) : Effect .tableRead s (Machine.tableRead body s).state := by
  unfold Machine.tableRead
  split
  · split <;> exact .none ..
  · split <;> exact .none ..
  · exact .none ..

/-! ## The reports -/

theorem Service.inFlight_eq_some {v : Service} {o : OpInFlight} : v.inFlight = some o ↔ v.holder = .op o := by
  unfold Service.inFlight
  cases v.holder <;> simp

theorem Service.running_eq_some {v : Service} {o : OpInFlight} : v.running = some o ↔ v.holder = .op o ∧ o.running = true := by
  unfold Service.running
  cases h : v.inFlight with
  | none =>
    have : v.holder ≠ .op o := fun hh => by simp [Service.inFlight_eq_some.2 hh] at h
    simp [this]
  | some q =>
    have hq := Service.inFlight_eq_some.1 h
    by_cases hr : q.running = true
    · simp only [hr, if_true, Option.some.injEq, hq, Holder.op.injEq]
      exact ⟨fun e => ⟨e, e ▸ hr⟩, fun e => e.1⟩
    · simp only [hr, Bool.false_eq_true, if_false, reduceCtorEq, hq, Holder.op.injEq, false_iff, not_and]
      exact fun e => e ▸ hr

theorem arbiterGrant_took {s t : State} (h : execArbiterGrant s = .next t) : Took .arbiterGrant s t :=
  .of_ite h fun hg => .arbiterGrant _ hg

theorem advanceStart_took {s t : State} (h : execAdvanceStart s = .next t) : Took .advanceStart s t := by
  unfold execAdvanceStart at h
  split at h
  next hq => exact .of_ite h fun hh => .advanceStart _ _ _ _ _ _ hq hh
  next => exact .of_next h

theorem cutStart_took {s t : State} (h : execCutStart s = .next t) : Took .cutStart s t := by
  unfold execCutStart at h
  split at h
  next hq =>
    split_ifs at h with h1 h2
    · exact .of_ends h (.cutStart _ _ hq h1)
    · exact .of_ends h (.cutEjects _ _ hq h1)
    · exact .of_next h
  next => exact .of_next h

theorem spittoonStrobe_took {s t : State} (h : execSpittoonStrobe s = .next t) : Took .spittoonStrobe s t := by
  unfold execSpittoonStrobe at h
  split at h
  next p hp =>
    split_ifs at h with h1
    · exact .of_next h
    · exact .of_ends h (.spittoonStrobe _ _ hp (by simpa using h1))
  next => exact .of_next h

theorem columnStrobe_took {x : Nat} {s t : State} (h : execColumnStrobe x s = .next t) : Took (.columnStrobe x) s t := by
  unfold execColumnStrobe at h
  split at h
  next p hp => exact .of_ite h fun hc => .columnStrobe _ _ _ hp hc
  next => exact .of_next h

theorem passCompletion_took {s t : State} (h : execPassCompletion s = .next t) : Took .passCompletion s t := by
  unfold execPassCompletion at h
  split at h
  next p hp => exact .of_ite h fun hc => .passCompletion _ _ hp hc
  next => exact .of_next h

theorem strobeTimeout_took {s t : State} (h : execStrobeTimeout s = .next t) : Took .strobeTimeout s t := by
  unfold execStrobeTimeout at h
  split at h
  next hd =>
    obtain ⟨p, hp, -⟩ := Option.bind_eq_some_iff.1 hd
    exact .of_ite h fun _ => .strobeTimeout _ p hp
  next => exact .of_next h

theorem dockFailed_took {s t : State} (h : execDockFailed s = .next t) : Took .dockFailed s t := by
  unfold execDockFailed at h
  split at h
  next o ho =>
    split_ifs at h with h1
    · exact .of_next h
    · exact .of_ends h (.operationFails _ _ o _ (Service.inFlight_eq_some.1 ho) (by simp))
  next => exact .of_next h

theorem stationDriveFault_took {s t : State} (h : execStationDriveFault s = .next t) : Took .stationDriveFault s t := by
  unfold execStationDriveFault at h
  split at h
  next o ho => exact .of_ends h (.operationFails _ _ o _ (Service.inFlight_eq_some.1 ho) (by simp))
  next => exact .of_next h

theorem stationOpTimeout_took {s t : State} (h : execStationOpTimeout s = .next t) : Took .stationOpTimeout s t := by
  unfold execStationOpTimeout at h
  split at h
  next o ho => exact .of_ite h fun _ => .operationFails _ _ o _ (Service.inFlight_eq_some.1 ho) (by simp)
  next => exact .of_next h

theorem wipeCompletion_took {s t : State} (h : execWipeCompletion s = .next t) : Took .wipeCompletion s t := by
  unfold execWipeCompletion at h
  split at h
  next o ho =>
    obtain ⟨h1, h2⟩ := Service.running_eq_some.1 ho
    split at h
    next hw => exact .of_ends h (.wipeCompletion _ o _ h1 h2 hw)
    next => exact .of_next h
  next => exact .of_next h

theorem primeCompletion_took {s t : State} (h : execPrimeCompletion s = .next t) : Took .primeCompletion s t := by
  unfold execPrimeCompletion at h
  split at h
  next o ho =>
    obtain ⟨h1, h2⟩ := Service.running_eq_some.1 ho
    split at h
    next hw => exact .of_ends h (.primeCompletion _ o _ h1 h2 hw)
    next => exact .of_next h
  next => exact .of_next h

theorem checkCompletion_took {dead : List (Channel × Nat)} {s t : State} (h : execCheckCompletion dead s = .next t) :
    Took (.checkCompletion dead) s t := by
  unfold execCheckCompletion at h
  split at h
  next o ho =>
    obtain ⟨h1, h2⟩ := Service.running_eq_some.1 ho
    split at h
    next hw => exact .of_ends h (.checkCompletion _ _ o _ h1 h2 hw)
    next => exact .of_next h
  next => exact .of_next h

theorem capCompletion_took {s t : State} (h : execCapCompletion s = .next t) : Took .capCompletion s t := by
  unfold execCapCompletion at h
  split at h
  next o ho =>
    obtain ⟨h1, h2⟩ := Service.running_eq_some.1 ho
    exact .of_ite h fun hw => .capCompletion _ o h1 h2 hw
  next => exact .of_next h

theorem refillStrokeComplete_took {s t : State} (h : execRefillStrokeComplete s = .next t) : Took .refillStrokeComplete s t := by
  unfold execRefillStrokeComplete at h
  split at h
  next c hc =>
    obtain ⟨o, ho, hoc⟩ := Option.bind_eq_some_iff.1 hc
    obtain ⟨h1, h2⟩ := Service.running_eq_some.1 ho
    split at h
    next k hk => exact .of_ite h fun hi => .strokeComplete _ o _ k h1 h2 hoc hk hi
    next => exact .of_next h
  next => exact .of_next h

theorem tagBackwardFrame_took {c : Channel} {a : TagAnswer} {s t : State} (h : execTagBackwardFrame c a s = .next t) :
    Took (.tagBackwardFrame c a) s t := by
  unfold execTagBackwardFrame at h
  split at h
  next hl =>
    split_ifs at h
    · exact .of_ends h (.tagAnswered _ _ _ _ _ hl)
    · exact .of_ends h (.tagFaults _ _ _ (.inl ⟨a, rfl⟩) _ hl)
  next => exact .of_next h

theorem tagTimeout_took {c : Channel} {s t : State} (h : execTagTimeout c s = .next t) : Took (.tagTimeout c) s t := by
  unfold execTagTimeout at h
  split at h
  next hl => exact .of_ite h fun _ => .tagFaults _ _ _ (.inr rfl) _ hl
  next => exact .of_next h

theorem lampBlinkToggle_took {c : Channel} {s t : State} (h : execLampBlinkToggle c s = .next t) : Took (.lampBlinkToggle c) s t := by
  unfold execLampBlinkToggle at h
  split at h
  next => exact .of_ite h fun _ => .lampBlinkToggle ..
  next => exact .of_next h

theorem inputFilterExpiry_took {i : DIn} {s t : State} (h : execInputFilterExpiry i s = .next t) :
    Took (.inputFilterExpiry i) s t := by
  unfold execInputFilterExpiry at h
  split at h
  next => exact .of_ite h fun _ => .inputFilterExpiry ..
  next => exact .of_next h

theorem advanceSettled_took {s t : State} (h : execAdvanceSettled s = .next t) : Took .advanceSettled s t := by
  unfold execAdvanceSettled at h
  split at h
  next m hm => exact .of_ite h fun hk => .advanceSettled _ m hm hk.1
  next => exact .of_next h

theorem feedStall_took {s t : State} (h : execFeedStall s = .next t) : Took .feedStall s t := by
  unfold execFeedStall at h
  split at h
  next m hm => exact .of_ite h fun _ => .feedStall _ m hm
  next => exact .of_next h

theorem cutTimeout_took {s t : State} (h : execCutTimeout s = .next t) : Took .cutTimeout s t := by
  unfold execCutTimeout at h
  split at h
  next hm => exact .of_ite h fun _ => .cutTimeout _ _ hm
  next => exact .of_next h

theorem loadEdgeSettled_took {s t : State} (h : execLoadEdgeSettled s = .next t) : Took .loadEdgeSettled s t := by
  unfold execLoadEdgeSettled at h
  split at h
  next => exact .of_ite h fun _ => .loadEdgeSettled _
  next => exact .of_next h

theorem loadBackfeedDone_took {s t : State} (h : execLoadBackfeedDone s = .next t) : Took .loadBackfeedDone s t := by
  unfold execLoadBackfeedDone at h
  split at h
  next => exact .of_ite h fun _ => .loadBackfeedDone _
  next => exact .of_next h

theorem loadNoEdge_took {s t : State} (h : execLoadNoEdge s = .next t) : Took .loadNoEdge s t := by
  unfold execLoadNoEdge at h
  split at h
  next => exact .of_ite h fun _ => .loadNoEdge _
  next => exact .of_ite h fun _ => .loadNoEdge _
  next => exact .of_next h

theorem ejectComplete_took {s t : State} (h : execEjectComplete s = .next t) : Took .ejectComplete s t := by
  unfold execEjectComplete at h
  split at h
  next m hm => exact .of_ite h fun _ => .ejectComplete _ m hm
  next => exact .of_next h

theorem ejectLimit_took {s t : State} (h : execEjectLimit s = .next t) : Took .ejectLimit s t := by
  unfold execEjectLimit at h
  split at h
  next hm => exact .of_ite h fun _ => .limit _ _ (by simp) _ hm
  next => exact .of_next h

theorem unloadComplete_took {s t : State} (h : execUnloadComplete s = .next t) : Took .unloadComplete s t := by
  unfold execUnloadComplete at h
  split at h
  next m hm => exact .of_ite h fun hk => .unloadComplete _ m hm hk.1
  next => exact .of_next h

theorem unloadLimit_took {s t : State} (h : execUnloadLimit s = .next t) : Took .unloadLimit s t := by
  unfold execUnloadLimit at h
  split at h
  next hm => exact .of_ite h fun _ => .limit _ _ (by simp) _ hm
  next => exact .of_next h

theorem dryTimerExpiry_took {s t : State} (h : execDryTimerExpiry s = .next t) : Took .dryTimerExpiry s t := by
  unfold execDryTimerExpiry at h
  split at h
  next => exact .of_ite h fun _ => .none ..
  next => exact .of_next h

theorem conversionEnd_took {raw : Nat} {s t : State} (h : execConversionEnd raw s = .next t) : Took (.conversionEnd raw) s t := by
  unfold execConversionEnd at h
  split at h
  next => exact .of_ends h (.conversionEnd ..)
  next => exact .of_next h

theorem periodicTimerExpiry_took {s t : State} (h : execPeriodicTimerExpiry s = .next t) : Took .periodicTimerExpiry s t := by
  unfold execPeriodicTimerExpiry at h
  split at h
  next => exact .of_ite h fun _ => .scan _ _ _ (by simp)
  next => exact .of_next h

theorem resultStaleExpiry_took {i : AIn} {s t : State} (h : execResultStaleExpiry i s = .next t) :
    Took (.resultStaleExpiry i) s t := by
  unfold execResultStaleExpiry at h
  split at h
  next => exact .of_ite h fun _ => .resultStaleExpiry ..
  next => exact .of_next h

theorem slice_took {s t : State} (h : execSlice s = .next t) : Took .slice s t := by
  unfold execSlice at h
  split at h
  next => exact .of_ite h fun _ => .slice ..
  next => exact .of_next h

theorem laneAligned_took {s t : State} (h : execLaneAligned s = .next t) : Took .laneAligned s t := by
  unfold execLaneAligned at h
  split_ifs at h with ha
  · exact .of_next h
  · exact .of_ends h (.laneAligned _ (by simpa using ha))

theorem forwardFrameReceived_took {bytes : List Byte} {s t : State} (h : execForwardFrameReceived bytes s = .next t) :
    Took (.forwardFrameReceived bytes) s t := by
  unfold execForwardFrameReceived at h
  by_cases ha : s.lane.aligned = true
  · rw [if_pos ha] at h
    split at h
    · exact .of_ends h (.frameDiscarded ..)
    · split at h
      next => exact .of_ends h (.frameDiscarded ..)
      next hr => exact .of_ends h (.framePlaced _ _ _ ha (by omega))
  · rw [if_neg ha] at h
    exact .of_next h

/-! ## The requests, and the reports without a condition of their own -/

theorem powerOn_took {raw : Vector Bool 16} {s t : State} (h : execPowerOn raw s = .next t) : Took (.powerOn raw) s t :=
  .of_ends h (.powerOn _ _)

theorem engineReset_took {s t : State} (h : execEngineReset s = .next t) : Took .engineReset s t := by
  refine .of_serveWith h (Effect.noBody fun u => ?_)
  rw [Answer.done_state]
  exact .engineReset u

theorem engineResetLine_took {s t : State} (h : execEngineResetLine s = .next t) : Took .engineResetLine s t :=
  .of_ends h (.engineResetLine _)

theorem laneReset_took {s t : State} (h : execLaneReset s = .next t) : Took .laneReset s t :=
  .of_ite h fun _ => .laneReset _

theorem returnFrameSent_took {s t : State} (h : execReturnFrameSent s = .next t) : Took .returnFrameSent s t :=
  .of_ite h fun _ => .returnFrameSent _

theorem unknownFrame_took {s t : State} (h : execUnknownFrame s = .next t) : Took .unknownFrame s t := by
  unfold execUnknownFrame serve at h
  exact .of_serveWith h fun _ u => by rw [Answer.refuse_state]; exact .none ..

theorem swathOpen_took {s t : State} (h : execSwathOpen s = .next t) : Took .swathOpen s t :=
  .of_serveWith h openSwath_effect

theorem swathClose_took {s t : State} (h : execSwathClose s = .next t) : Took .swathClose s t :=
  .of_serveWith h closeSwath_effect

theorem swathDiscard_took {s t : State} (h : execSwathDiscard s = .next t) : Took .swathDiscard s t :=
  .of_serveWith h (Effect.oneByte discardSwath_effect)

theorem advance_took {s t : State} (h : execAdvance s = .next t) : Took .advance s t :=
  .of_serveWith h askAdvance_effect

theorem cut_took {s t : State} (h : execCut s = .next t) : Took .cut s t :=
  .of_serveWith h (Effect.noBody appendCut_effect)

theorem abort_took {s t : State} (h : execAbort s = .next t) : Took .abort s t := by
  refine .of_serveWith h (Effect.noBody fun u => ?_)
  rw [Answer.done_state]
  exact .abort u

theorem resume_took {s t : State} (h : execResume s = .next t) : Took .resume s t :=
  .of_serveWith h (Effect.noBody resumeEngine_effect)

theorem loadMedia_took {s t : State} (h : execLoadMedia s = .next t) : Took .loadMedia s t :=
  .of_serveWith h loadMedia_effect

theorem unloadMedia_took {s t : State} (h : execUnloadMedia s = .next t) : Took .unloadMedia s t :=
  .of_serveWith h (Effect.noBody unloadMedia_effect)

theorem eject_took {s t : State} (h : execEject s = .next t) : Took .eject s t :=
  .of_serveWith h (Effect.noBody ejectMedia_effect)

theorem wipe_took {s t : State} (h : execWipe s = .next t) : Took .wipe s t :=
  .of_serveWith h (Effect.oneByte fun x u => .wipe u x)

theorem prime_took {s t : State} (h : execPrime s = .next t) : Took .prime s t :=
  .of_serveWith h (Effect.oneByte askPrime_effect)

theorem checkNozzles_took {s t : State} (h : execCheckNozzles s = .next t) : Took .checkNozzles s t :=
  .of_serveWith h (Effect.oneByte fun x u => .checkNozzles u x)

theorem cap_took {s t : State} (h : execCap s = .next t) : Took .cap s t :=
  .of_serveWith h (Effect.noBody askCap_effect)

theorem fillToMark_took {s t : State} (h : execFillToMark s = .next t) : Took .fillToMark s t :=
  .of_serveWith h (Effect.oneByte askFill_effect)

theorem resetLadder_took {s t : State} (h : execResetLadder s = .next t) : Took .resetLadder s t :=
  .of_serveWith h (Effect.oneByte fun x u => .resetLadder u x)

theorem commitMap_took {s t : State} (h : execCommitMap s = .next t) : Took .commitMap s t :=
  .of_serveWith h (Effect.noBody fun u => .commitMap u)

theorem tagRead_took {s t : State} (h : execTagRead s = .next t) : Took .tagRead s t :=
  .of_serveWith h (Effect.oneByte askTagRead_effect)

theorem scanStart_took {s t : State} (h : execScanStart s = .next t) : Took .scanStart s t :=
  .of_serveWith h (Effect.noBody fun u => .scan u _ _ (by simp))

theorem scanStop_took {s t : State} (h : execScanStop s = .next t) : Took .scanStop s t :=
  .of_serveWith h (Effect.noBody fun u => .scan u _ _ (by simp))

theorem scanNow_took {s t : State} (h : execScanNow s = .next t) : Took .scanNow s t :=
  .of_serveWith h (Effect.noBody scanNow_effect)

theorem tableWrite_took {s t : State} (h : execTableWrite s = .next t) : Took .tableWrite s t :=
  .of_serveWith h tableWrite_effect

theorem substitutionAdd_took {s t : State} (h : execSubstitutionAdd s = .next t) : Took .substitutionAdd s t :=
  .of_serveWith h substitutionAdd_effect

theorem substitutionRemove_took {s t : State} (h : execSubstitutionRemove s = .next t) : Took .substitutionRemove s t :=
  .of_serveWith h substitutionRemove_effect

theorem substitutionClear_took {s t : State} (h : execSubstitutionClear s = .next t) : Took .substitutionClear s t :=
  .of_serveWith h substitutionClear_effect

theorem tableRead_took {s t : State} (h : execTableRead s = .next t) : Took .tableRead s t :=
  .of_serveWith h tableRead_effect

theorem statusRead_took {s t : State} (h : execStatusRead s = .next t) : Took .statusRead s t :=
  .of_serveWith h (Effect.noBody fun _ => .none ..)

theorem clearConditions_took {s t : State} (h : execClearConditions s = .next t) : Took .clearConditions s t :=
  .of_serveWith h (Effect.oneByte fun x u => .clearConditions u x)

theorem dockReported_took {s t : State} (h : execDockReported s = .next t) : Took .dockReported s t :=
  .of_ite h fun _ => .dockReported _

theorem capDelayExpiry_took {s t : State} (h : execCapDelayExpiry s = .next t) : Took .capDelayExpiry s t :=
  .of_ends h (.capDelayExpiry _)

theorem rawInputChange_took {i : DIn} {b : Bool} {s t : State} (h : execRawInputChange i b s = .next t) : Took (.rawInputChange i b) s t :=
  .of_ends h (.rawInputChange ..)

theorem feedEncoderCount_took {d : Int} {s t : State} (h : execFeedEncoderCount d s = .next t) : Took (.feedEncoderCount d) s t :=
  .of_ends h (.feedEncoderCount ..)

/-! ## Every command -/

/-- Every command that answers a next state has taken a step as its block gives it. -/
theorem took_of_exec {c : Instr} {s t : State} (h : exec c s = .next t) : Took c s t := by
  cases c with
  | powerOn raw => exact powerOn_took h
  | engineReset => exact engineReset_took h
  | engineResetLine => exact engineResetLine_took h
  | laneAligned => exact laneAligned_took h
  | laneReset => exact laneReset_took h
  | forwardFrameReceived bytes => exact forwardFrameReceived_took h
  | returnFrameSent => exact returnFrameSent_took h
  | unknownFrame => exact unknownFrame_took h
  | swathOpen => exact swathOpen_took h
  | slice => exact slice_took h
  | swathClose => exact swathClose_took h
  | swathDiscard => exact swathDiscard_took h
  | advance => exact advance_took h
  | cut => exact cut_took h
  | abort => exact abort_took h
  | resume => exact resume_took h
  | loadMedia => exact loadMedia_took h
  | unloadMedia => exact unloadMedia_took h
  | eject => exact eject_took h
  | wipe => exact wipe_took h
  | prime => exact prime_took h
  | checkNozzles => exact checkNozzles_took h
  | cap => exact cap_took h
  | fillToMark => exact fillToMark_took h
  | resetLadder => exact resetLadder_took h
  | commitMap => exact commitMap_took h
  | tagRead => exact tagRead_took h
  | scanStart => exact scanStart_took h
  | scanStop => exact scanStop_took h
  | scanNow => exact scanNow_took h
  | tableWrite => exact tableWrite_took h
  | substitutionAdd => exact substitutionAdd_took h
  | substitutionRemove => exact substitutionRemove_took h
  | substitutionClear => exact substitutionClear_took h
  | tableRead => exact tableRead_took h
  | statusRead => exact statusRead_took h
  | clearConditions => exact clearConditions_took h
  | arbiterGrant => exact arbiterGrant_took h
  | advanceStart => exact advanceStart_took h
  | cutStart => exact cutStart_took h
  | spittoonStrobe => exact spittoonStrobe_took h
  | columnStrobe x => exact columnStrobe_took h
  | passCompletion => exact passCompletion_took h
  | strobeTimeout => exact strobeTimeout_took h
  | dockReported => exact dockReported_took h
  | dockFailed => exact dockFailed_took h
  | stationDriveFault => exact stationDriveFault_took h
  | stationOpTimeout => exact stationOpTimeout_took h
  | wipeCompletion => exact wipeCompletion_took h
  | primeCompletion => exact primeCompletion_took h
  | checkCompletion dead => exact checkCompletion_took h
  | capCompletion => exact capCompletion_took h
  | capDelayExpiry => exact capDelayExpiry_took h
  | refillStrokeComplete => exact refillStrokeComplete_took h
  | tagBackwardFrame c a => exact tagBackwardFrame_took h
  | tagTimeout c => exact tagTimeout_took h
  | lampBlinkToggle c => exact lampBlinkToggle_took h
  | rawInputChange i b => exact rawInputChange_took h
  | inputFilterExpiry i => exact inputFilterExpiry_took h
  | feedEncoderCount d => exact feedEncoderCount_took h
  | advanceSettled => exact advanceSettled_took h
  | feedStall => exact feedStall_took h
  | cutTimeout => exact cutTimeout_took h
  | loadEdgeSettled => exact loadEdgeSettled_took h
  | loadBackfeedDone => exact loadBackfeedDone_took h
  | loadNoEdge => exact loadNoEdge_took h
  | ejectComplete => exact ejectComplete_took h
  | ejectLimit => exact ejectLimit_took h
  | unloadComplete => exact unloadComplete_took h
  | unloadLimit => exact unloadLimit_took h
  | dryTimerExpiry => exact dryTimerExpiry_took h
  | conversionEnd raw => exact conversionEnd_took h
  | periodicTimerExpiry => exact periodicTimerExpiry_took h
  | resultStaleExpiry i => exact resultStaleExpiry_took h

end Sys2Proof.Machine
end

section
/-!
PROOFS. What the shared operations leave: the lane but for events raised, the soundness of ladders and pending requests, and the frame of
the operations that place requests, form supply states and record ink needs.
-/

-- One declaration at a time: side by side, the threads' stacks come near the memory limit of the check.
set_option Elab.async false

namespace Sys2Proof.Machine

/-! ## The lane but for events raised -/

/-- From l to l' at most n events have been raised, with the conditions and the overflow notice that come of them. -/
structure Lane.Raised (n : Nat) (l l' : Lane) : Prop where
  aligned : l'.aligned = l.aligned
  rx : l'.rx = l.rx
  hold : l'.hold = l.hold
  replies : l'.replies = l.replies
  sending : l'.sending = l.sending
  events : ∃ new, l'.events = l.events ++ new ∧ new.length ≤ n
  bound : l.events.length ≤ 64 → l'.events.length ≤ 64
  notice : (l.notice = true → l.conditions.eventsLost = true) → l'.notice = true → l'.conditions.eventsLost = true
  latched : ∀ k, l.conditions.latched k = true → l'.conditions.latched k = true
  waits : l.notice = true → l'.notice = true
  spare : l.events.length + n ≤ 64 → l'.notice = l.notice

theorem Lane.Raised.refl (l : Lane) : l.Raised 0 l where
  aligned := rfl
  rx := rfl
  hold := rfl
  replies := rfl
  sending := rfl
  events := ⟨[], by simp⟩
  bound h := h
  notice h := h
  latched _ h := h
  waits h := h
  spare _ := rfl

theorem Lane.Raised.trans {m n : Nat} {a b c : Lane} (h : a.Raised m b) (k : b.Raised n c) : a.Raised (m + n) c where
  aligned := k.aligned.trans h.aligned
  rx := k.rx.trans h.rx
  hold := k.hold.trans h.hold
  replies := k.replies.trans h.replies
  sending := k.sending.trans h.sending
  events := by
    obtain ⟨x, hx, hm⟩ := h.events
    obtain ⟨y, hy, hn⟩ := k.events
    exact ⟨x ++ y, by rw [hy, hx, List.append_assoc], by rw [List.length_append]; omega⟩
  bound hb := k.bound (h.bound hb)
  notice hn := k.notice (h.notice hn)
  latched x hx := k.latched x (h.latched x hx)
  waits hn := k.waits (h.waits hn)
  spare hs := by
    obtain ⟨x, hx, hm⟩ := h.events
    exact (k.spare (by rw [hx, List.length_append]; omega)).trans (h.spare (by omega))

theorem Lane.Raised.mono {m n : Nat} {a b : Lane} (h : a.Raised m b) (hmn : m ≤ n) : a.Raised n b :=
  { h with
    events := by obtain ⟨x, hx, hm⟩ := h.events; exact ⟨x, hx, hm.trans hmn⟩
    spare := fun hs => h.spare (by omega) }

theorem Lane.raised_raise (now : Nat) (e : Event) (l : Lane) : l.Raised 1 (l.raise now e) where
  aligned := Lane.raise_aligned ..
  rx := Lane.raise_rx ..
  hold := Lane.raise_hold ..
  replies := Lane.raise_replies ..
  sending := Lane.raise_sending ..
  events := by
    rw [Lane.raise_events]
    split_ifs
    · exact ⟨_, rfl, by simp⟩
    · exact ⟨[], by simp, by simp⟩
  bound h := by
    rw [Lane.raise_events]
    split_ifs
    · simp; omega
    · exact h
  notice h := by
    unfold Lane.raise
    split_ifs with h1 h2
    · exact h
    · exact h
    · intro _; rfl
  latched k := Lane.raise_latched _ _ _ k
  waits h := by
    unfold Lane.raise
    split_ifs
    · exact h
    · exact h
    · rfl
  spare h := by
    unfold Lane.raise
    rw [if_pos (by omega)]

theorem Lane.raised_raiseCondition (now : Nat) (r : CondRaise) (l : Lane) : l.Raised 1 (l.raiseCondition now r) := by
  unfold Lane.raiseCondition
  split_ifs with h
  · exact (Lane.Raised.refl l).mono (by omega)
  · have put : l.Raised 0 { l with conditions := l.conditions.put true r.condition } :=
      { Lane.Raised.refl l with
        notice := fun hn hl => by
          have : (l.conditions.put true r.condition).latched .eventsLost = true := by
            rw [Conditions.latched_put]; split_ifs
            · rfl
            · exact hn hl
          exact this
        latched := fun k hk => by
          show (l.conditions.put true r.condition).latched k = true
          rw [Conditions.latched_put]; split_ifs
          · rfl
          · exact hk }
    have := put.trans (Lane.raised_raise now (.condition r) _)
    simpa using this

/-- An event raised where fewer than 64 wait stands last, and the events raised after it behind it. -/
theorem Lane.Raised.mem {m : Nat} {a b : Lane} {e : EventFrame} (h : a.Raised m b) (he : e ∈ a.events) : e ∈ b.events := by
  obtain ⟨x, hx, -⟩ := h.events
  rw [hx]; exact List.mem_append_left _ he

/-! ## Ladder records (Table 6.5.1) -/

/-- A ladder's record is of its state: a phase exactly in a step, the suspended step with its phase and cause exactly in SUSPENDED. -/
def Ladder.Ok (l : Ladder) : Prop :=
  (l.phase.isSome = true ↔ l.state.inStep = true) ∧ (l.cause.isSome = true ↔ l.state = .suspended) ∧
    (l.suspPhase.isSome = true ↔ l.state = .suspended) ∧
    (l.state ≠ .suspended → l.suspStep = none) ∧ (l.state = .suspended → ∃ st, l.suspStep = some st ∧ st.inStep = true)

theorem State.ladderInv_iff (s : State) : s.LadderInv ↔ ∀ c : Channel, (s.service.ladders[c]).Ok := Iff.rfl

/-- A ladder in a state that keeps no step is sound with neither phase nor suspended step. -/
theorem Ladder.Ok.of_unstepped {l : Ladder} (h1 : l.state.inStep = false) (h2 : l.state ≠ .suspended) (hp : l.phase = none)
    (hs : l.suspStep = none) (hq : l.suspPhase = none) (hc : l.cause = none) : l.Ok := by
  refine ⟨by simp [hp, h1], by simp [hc, h2], by simp [hq, h2], fun _ => hs, fun h => absurd h h2⟩

/-- A ladder in a step is sound with a phase and no suspended step. -/
theorem Ladder.Ok.of_step {l : Ladder} {ph : LadderPhase} (h1 : l.state.inStep = true) (hp : l.phase = some ph)
    (hs : l.suspStep = none) (hq : l.suspPhase = none) (hc : l.cause = none) : l.Ok := by
  have h2 : l.state ≠ .suspended := fun h => by simp [h, LadderState.inStep] at h1
  refine ⟨by simp [hp, h1], by simp [hc, h2], by simp [hq, h2], fun _ => hs, fun h => absurd h h2⟩

/-- The counts of a ladder do not enter its soundness. -/
theorem Ladder.Ok.counts {l : Ladder} (h : l.Ok) (b n : Nat) : ({ l with baseline := b, last := n } : Ladder).Ok := h

/-! ## Pending requests (R106) -/

theorem StationOp.matches_symm (a b : StationOp) : a.matches b = b.matches a := by
  cases a <;> cases b <;> simp [StationOp.matches, StationOp.refillChannel, eq_comm]

theorem StationOp.matches_merge {a b : StationOp} (h : a.matches b = true) (c : StationOp) :
    (a.merge b).matches c = a.matches c := by
  have hm : (a.merge b).matches a = true := (Request.merge_covers_old (p := ⟨a, none, {}⟩) (r := ⟨b, none, {}⟩) h).1
  rw [Bool.eq_iff_iff]
  exact ⟨fun k => StationOp.matches_trans (by rw [StationOp.matches_symm]; exact hm) k, fun k => StationOp.matches_trans hm k⟩

/-- No two requests of a list match. -/
abbrev Distinct (l : List Request) : Prop := l.Pairwise fun q r => q.op.matches r.op = false

theorem State.requestInv_iff (s : State) : s.RequestInv ↔ Distinct s.service.pending := Iff.rfl

theorem mem_addRequest {r p : Request} {l : List Request} (h : p ∈ addRequest r l) :
    p ∈ l ∨ p = r ∨ ∃ q ∈ l, q.op.matches r.op = true ∧ p = q.merge r := by
  induction l with
  | nil => simp only [addRequest, List.mem_singleton] at h; exact .inr (.inl h)
  | cons a l ih =>
    simp only [addRequest] at h
    split at h
    next hm =>
      rcases List.mem_cons.1 h with rfl | h
      · exact .inr (.inr ⟨a, List.mem_cons_self .., hm, rfl⟩)
      · exact .inl (List.mem_cons_of_mem _ h)
    next =>
      rcases List.mem_cons.1 h with rfl | h
      · exact .inl (List.mem_cons_self ..)
      · rcases ih h with h | h | ⟨q, hq, h⟩
        · exact .inl (List.mem_cons_of_mem _ h)
        · exact .inr (.inl h)
        · exact .inr (.inr ⟨q, List.mem_cons_of_mem _ hq, h⟩)

/-- A request placed merges into the one it matches, so that no two match afterwards. -/
theorem Distinct.addRequest {l : List Request} (h : Distinct l) (r : Request) : Distinct (addRequest r l) := by
  induction l with
  | nil => simp [Machine.addRequest, Distinct]
  | cons a l ih =>
    obtain ⟨h1, h2⟩ := List.pairwise_cons.1 h
    simp only [Machine.addRequest]
    split
    next hm =>
      refine List.pairwise_cons.2 ⟨fun q hq => ?_, h2⟩
      exact (StationOp.matches_merge hm q.op).trans (h1 q hq)
    next hm =>
      refine List.pairwise_cons.2 ⟨fun q hq => ?_, ih h2⟩
      rcases mem_addRequest hq with hq | rfl | ⟨p, hp, hpm, rfl⟩
      · exact h1 q hq
      · simpa using hm
      · rw [StationOp.matches_symm]
        refine (StationOp.matches_merge hpm a.op).trans ?_
        rw [StationOp.matches_symm]; exact h1 p hp

theorem Distinct.filter {l : List Request} (h : Distinct l) (p : Request → Bool) : Distinct (l.filter p) :=
  List.Pairwise.filter p h

theorem Distinct.filterMap {l : List Request} (h : Distinct l) {f : Request → Option Request}
    (hf : ∀ r q, f r = some q → q.op = r.op) : Distinct (l.filterMap f) :=
  List.Pairwise.filterMap f (fun a b hab a' ha b' hb => by rw [hf a a' ha, hf b b' hb]; exact hab) h

theorem Request.withoutLadder_op {r q : Request} (h : r.withoutLadder = some q) : q.op = r.op := by
  simp only [Request.withoutLadder, Option.ite_none_left_eq_some, Option.some.injEq] at h
  rw [← h.2]

/-! ## What the operations keep of lane, ladders and requests -/

/-- From s to t at most n events have been raised, ladders stay sound and pending requests distinct. -/
structure Orderly (n : Nat) (s t : State) : Prop where
  lane : s.lane.Raised n t.lane
  ladders : s.LadderInv → t.LadderInv
  requests : s.RequestInv → t.RequestInv

theorem Orderly.refl (s : State) : Orderly 0 s s := ⟨.refl _, id, id⟩

theorem Orderly.trans {m n : Nat} {s t u : State} (h : Orderly m s t) (k : Orderly n t u) : Orderly (m + n) s u :=
  ⟨h.lane.trans k.lane, k.ladders ∘ h.ladders, k.requests ∘ h.requests⟩

theorem Orderly.mono {m n : Nat} {s t : State} (h : Orderly m s t) (hmn : m ≤ n) : Orderly n s t := { h with lane := h.lane.mono hmn }

/-- A step that leaves lane, ladders and pending requests is orderly. -/
theorem Orderly.of_eq {n : Nat} {s t : State} (hl : t.lane = s.lane) (hd : t.service.ladders = s.service.ladders)
    (hp : t.service.pending = s.service.pending) : Orderly n s t where
  lane := hl ▸ (Lane.Raised.refl _).mono (Nat.zero_le n)
  ladders h := by rw [State.ladderInv_iff, hd]; exact h
  requests h := by rw [State.requestInv_iff, hp]; exact h

/-- An orderly operation after or before a change that leaves lane, ladders and pending requests. -/
theorem Orderly.after {n : Nat} {s u t : State} (h : Orderly n s u) (hl : t.lane = u.lane)
    (hd : t.service.ladders = u.service.ladders) (hp : t.service.pending = u.service.pending) : Orderly n s t :=
  h.trans (n := 0) (.of_eq hl hd hp)

theorem Orderly.before {n : Nat} {s u t : State} (h : Orderly n u t) (hl : u.lane = s.lane)
    (hd : u.service.ladders = s.service.ladders) (hp : u.service.pending = s.service.pending) : Orderly n s t :=
  ((Orderly.of_eq (n := 0) hl hd hp).trans h).mono (by omega)

/-- Folding an orderly operation over a list of k elements. -/
theorem Orderly.foldl {α : Type} {n : Nat} {f : State → α → State} (h : ∀ s a, Orderly n s (f s a)) (l : List α) (s : State) :
    Orderly (l.length * n) s (l.foldl f s) := by
  induction l generalizing s with
  | nil => exact (Orderly.refl s).mono (by omega)
  | cons a l ih =>
    exact ((h s a).trans (ih _)).mono (by simp only [List.length_cons, Nat.add_mul, Nat.one_mul]; omega)

/-- From s to t only events, supply states and ink needs, pending requests and ladders have changed, and at most n events were raised. -/
structure Quiet (n : Nat) (s t : State) : Prop extends Orderly n s t where
  frame : t = { s with
    lane := t.lane, supply := t.supply
    service := { s.service with pending := t.service.pending, ladders := t.service.ladders } }
  refills : ∀ c : Channel, t.supply[c].refill = s.supply[c].refill ∧ t.supply[c].faultMark = s.supply[c].faultMark

theorem Quiet.refl (s : State) : Quiet 0 s s := { Orderly.refl s with frame := rfl, refills := fun _ => ⟨rfl, rfl⟩ }

theorem Quiet.trans {m n : Nat} {s t u : State} (h : Quiet m s t) (k : Quiet n t u) : Quiet (m + n) s u where
  toOrderly := h.toOrderly.trans k.toOrderly
  frame := by rw [k.frame, h.frame]
  refills c := ⟨(k.refills c).1.trans (h.refills c).1, (k.refills c).2.trans (h.refills c).2⟩

theorem Quiet.mono {m n : Nat} {s t : State} (h : Quiet m s t) (hmn : m ≤ n) : Quiet n s t :=
  { h with toOrderly := h.toOrderly.mono hmn }

theorem Quiet.foldl {α : Type} {n : Nat} {f : State → α → State} (h : ∀ s a, Quiet n s (f s a)) (l : List α) (s : State) :
    Quiet (l.length * n) s (l.foldl f s) := by
  induction l generalizing s with
  | nil => exact (Quiet.refl s).mono (by omega)
  | cons a l ih =>
    exact ((h s a).trans (ih _)).mono (by simp only [List.length_cons, Nat.add_mul, Nat.one_mul]; omega)

section

variable {n : Nat} {s t : State}

theorem Quiet.now (h : Quiet n s t) : t.now = s.now := by rw [h.frame]
theorem Quiet.slots (h : Quiet n s t) : t.slots = s.slots := by rw [h.frame]
theorem Quiet.queue (h : Quiet n s t) : t.queue = s.queue := by rw [h.frame]
theorem Quiet.pass (h : Quiet n s t) : t.pass = s.pass := by rw [h.frame]
theorem Quiet.accounts (h : Quiet n s t) : t.accounts = s.accounts := by rw [h.frame]
theorem Quiet.carts (h : Quiet n s t) : t.carts = s.carts := by rw [h.frame]
theorem Quiet.maps (h : Quiet n s t) : t.maps = s.maps := by rw [h.frame]
theorem Quiet.feed (h : Quiet n s t) : t.feed = s.feed := by rw [h.frame]
theorem Quiet.stop (h : Quiet n s t) : t.stop = s.stop := by rw [h.frame]
theorem Quiet.tables (h : Quiet n s t) : t.tables = s.tables := by rw [h.frame]
theorem Quiet.out (h : Quiet n s t) : t.out = s.out := by rw [h.frame]
theorem Quiet.holder (h : Quiet n s t) : t.service.holder = s.service.holder := by rw [h.frame]
theorem Quiet.docked (h : Quiet n s t) : t.service.docked = s.service.docked := by rw [h.frame]

end

/-! ## The operations that are quiet -/

theorem Quiet.raise (s : State) (e : Event) : Quiet 1 s (s.raise e) where
  lane := Lane.raised_raise ..
  ladders := id
  requests := id
  frame := rfl
  refills _ := ⟨rfl, rfl⟩

theorem Quiet.raiseCondition (s : State) (r : CondRaise) : Quiet 1 s (s.raiseCondition r) where
  lane := Lane.raised_raiseCondition ..
  ladders := id
  requests := id
  frame := rfl
  refills _ := ⟨rfl, rfl⟩

/-- Rewriting the pending requests is quiet where it keeps them distinct. -/
theorem Quiet.setPending (s : State) {l : List Request} (h : Distinct s.service.pending → Distinct l) :
    Quiet 0 s { s with service := { s.service with pending := l } } :=
  { Quiet.refl s with requests := h, frame := rfl, ladders := id }

theorem Quiet.place (s : State) (op : StationOp) (a : Option Nat) (o : Origins) : Quiet 0 s (s.place op a o) :=
  Quiet.setPending s fun h => h.addRequest _

theorem Quiet.withdraw (s : State) (p : StationOp → Bool) : Quiet 0 s (s.withdraw p) := Quiet.setPending s fun h => h.filter _

theorem Quiet.dropLadder (s : State) (p : StationOp → Bool) : Quiet 0 s (s.dropLadder p) :=
  Quiet.setPending s fun h => h.filterMap fun r q hq => by
    split at hq
    · exact Request.withoutLadder_op hq
    · simp only [Option.some.injEq] at hq; rw [← hq]

/-- Rewriting one supply record is quiet where it leaves the refill and the fault mark. -/
theorem Quiet.setSupply (s : State) (c : Channel) (f : Supply → Supply)
    (h : ∀ r, (f r).refill = r.refill ∧ (f r).faultMark = r.faultMark) :
    Quiet 0 s { s with supply := modifyAt s.supply c f } :=
  { Quiet.refl s with
    frame := rfl
    refills := fun d => by
      simp only [modifyAt, getElem_setAt]
      split
      next e => subst e; exact h _
      next => exact ⟨rfl, rfl⟩ }

theorem Quiet.setLadders (s : State) (c : Channel) {l : Ladder} (h : s.LadderInv → l.Ok) :
    Quiet 0 s { s with service := { s.service with ladders := setAt s.service.ladders c l } } :=
  { Quiet.refl s with
    frame := rfl
    requests := id
    ladders := fun hs d => by
      show (setAt s.service.ladders c l)[d].Ok
      rw [getElem_setAt]
      split
      · exact h hs
      · exact hs d }

theorem Quiet.setLadder (s : State) (c : Channel) {l : Ladder} (h : s.LadderInv → l.Ok) : Quiet 1 s (s.setLadder c l) := by
  simp only [State.setLadder, State.dropAsked]
  split_ifs
  · exact ((Quiet.setLadders s c h).trans (Quiet.raise _ _)).trans (Quiet.dropLadder _ _)
  · exact ((Quiet.setLadders s c h).trans (Quiet.dropLadder _ _)).mono (by omega)
  · exact (Quiet.setLadders s c h).trans (Quiet.raise _ _)
  · exact (Quiet.setLadders s c h).mono (by omega)

theorem Quiet.placeStep (s : State) (c : Channel) (st : LadderState) (ph : LadderPhase) : Quiet 0 s (s.placeStep c st ph) := by
  unfold State.placeStep
  split
  · exact Quiet.place ..
  · exact Quiet.refl s
  · exact Quiet.place ..

theorem Quiet.resumeLadder (s : State) (c : Channel) : Quiet 1 s (s.resumeLadder c) := by
  simp only [State.resumeLadder]
  split
  next st ph h1 _ h3 _ =>
    refine (Quiet.setLadder s c fun hs => ?_).trans (Quiet.placeStep ..)
    obtain ⟨-, -, -, -, h⟩ := hs c
    obtain ⟨st', hst, hin⟩ := h h1
    rw [h3] at hst
    cases hst
    exact .of_step hin rfl rfl rfl rfl
  next => exact (Quiet.refl s).mono (by omega)

theorem Quiet.reformSupply (s : State) (c : Channel) : Quiet 2 s (s.reformSupply c) := by
  simp only [State.reformSupply]
  split
  · exact (Quiet.refl s).mono (by omega)
  · have h1 := (Quiet.setSupply s c (fun r => { r with state := s.formedSupply c }) fun r => ⟨rfl, rfl⟩).trans (Quiet.raise _
      (.supplyState c (s.formedSupply c) s.accounts[c].level s.accounts[c].known s.accounts[c].reserved))
    split_ifs
    · exact (h1.trans (Quiet.resumeLadder ..)).trans (Quiet.place ..)
    · exact h1.trans (Quiet.resumeLadder ..)
    · exact (h1.trans (Quiet.place ..)).mono (by omega)
    · exact h1.mono (by omega)

theorem Quiet.reformAll (s : State) : Quiet 12 s s.reformAll := Quiet.foldl Quiet.reformSupply channels s

theorem Quiet.recordNeed (s : State) (c : Channel) (n : Need) : Quiet 0 s (s.recordNeed c n) :=
  Quiet.setSupply s c _ fun _ => ⟨rfl, rfl⟩

/-- The kind of refill that a request for a channel becomes (R60): FILL TO MARK where the level is not known. -/
def State.refillKind (s : State) (c : Channel) (k : RefillKind) : RefillKind := if s.accounts[c].known then k else .fill

/-- A refill request is dropped, placed where the cartridge can supply, or recorded as an ink need where it cannot (R60). -/
theorem State.requestRefill_cases (s : State) (c : Channel) (k : RefillKind) (a : Option Nat) (o : Origins) :
    s.requestRefill c k a o = s ∨
    s.canSupply c = true ∧ s.requestRefill c k a o =
      s.place ((s.refillKind c k).op c) (if s.refillKind c k = .urgent then a else none) o ∨
    s.canSupply c = false ∧ s.requestRefill c k a o = s.recordNeed c ⟨s.refillKind c k, a, o⟩ := by
  have passed : ∀ k' : RefillKind,
      let t := if s.canSupply c then s.place (k'.op c) (if k' = .urgent then a else none) o
        else if k' ≠ .refill && (o.gate || o.prime) then s.recordNeed c ⟨k', a, o⟩ else s
      t = s ∨ s.canSupply c = true ∧ t = s.place (k'.op c) (if k' = .urgent then a else none) o ∨
        s.canSupply c = false ∧ t = s.recordNeed c ⟨k', a, o⟩ := by
    intro k'
    by_cases hs : s.canSupply c = true
    · simp only [hs, if_true]; exact .inr (.inl ⟨trivial, trivial⟩)
    · simp only [hs, Bool.false_eq_true, if_false]
      split
      · exact .inr (.inr ⟨trivial, rfl⟩)
      · exact .inl rfl
  unfold State.requestRefill
  split
  next => exact .inl rfl
  next => exact passed _

theorem Quiet.requestRefill (s : State) (c : Channel) (k : RefillKind) (a : Option Nat) (o : Origins) :
    Quiet 0 s (s.requestRefill c k a o) := by
  rcases s.requestRefill_cases c k a o with h | ⟨-, h⟩ | ⟨-, h⟩ <;> rw [h]
  · exact Quiet.refl s
  · exact Quiet.place ..
  · exact Quiet.recordNeed ..

/-! ## The gate and the end of a step -/

theorem Quiet.gateRequest (s : State) (t : InkTest) (c : Channel) : Quiet 2 s (s.gateRequest t c) := by
  unfold State.gateRequest
  split
  · exact (Quiet.requestRefill ..).trans (Quiet.reformSupply ..)
  · exact (Quiet.requestRefill ..).trans (Quiet.reformSupply ..)
  · exact (Quiet.refl s).mono (by omega)

theorem Orderly.reportCapacity (s : State) (sl : Slot) (i : SlotIx) (rep : Bool) (rest : List Entry) :
    Orderly 1 s (s.reportCapacity sl i rep rest) := by
  unfold State.reportCapacity
  split
  · exact (Quiet.raiseCondition _ _).toOrderly.before rfl rfl rfl
  · exact (Orderly.refl s).mono (by omega)

theorem Orderly.askPass (s : State) : Orderly 0 s s.askPass :=
  (Quiet.withdraw s fun op => op = .cap).toOrderly.after rfl rfl rfl

theorem Orderly.evaluateSwath (s : State) (i : SlotIx) (rep : Bool) (rest : List Entry) : Orderly 13 s (s.evaluateSwath i rep rest) := by
  have h := (Orderly.reportCapacity s s.slots[i] i rep rest).trans (Quiet.foldl
    (f := fun t c => t.gateRequest (s.inkTest s.slots[i] c) c) (fun t c => Quiet.gateRequest t _ c) channels _).toOrderly
  unfold State.evaluateSwath
  dsimp only
  split
  · refine h.trans (n := 0) ?_
    exact (Orderly.askPass _).before rfl rfl rfl
  · exact h.after rfl rfl rfl

theorem Orderly.evaluate (s : State) : Orderly 13 s s.evaluate := by
  unfold State.evaluate
  split
  · exact Orderly.evaluateSwath ..
  · unfold State.evaluateAdvance
    dsimp only
    split
    · refine Orderly.mono (m := 1) ?_ (by omega)
      exact (Quiet.raise _ _).toOrderly.before rfl rfl rfl
    · exact Orderly.of_eq rfl rfl rfl
  · exact Orderly.of_eq rfl rfl rfl
  · exact (Orderly.refl s).mono (by omega)

theorem Orderly.evaluateAgain (n : Nat) (s : State) : Orderly (n * 13) s (State.evaluateAgain n s) := by
  induction n generalizing s with
  | zero => exact (Orderly.refl s).mono (by omega)
  | succ n ih =>
    simp only [State.evaluateAgain]
    split
    · exact (Orderly.evaluate s).mono (by omega)
    · exact ((Orderly.evaluate s).trans (ih _)).mono (by omega)

theorem Orderly.idleGate (s : State) : Orderly 0 s s.idleGate := by
  unfold State.idleGate
  split
  · exact Orderly.of_eq rfl rfl rfl
  · split
    · exact Orderly.of_eq rfl rfl rfl
    · split
      · exact Orderly.refl s
      · exact Orderly.of_eq rfl rfl rfl

theorem Orderly.runGate (s s0 : State) (force : Bool) : Orderly 39 s (s.runGate force s0) := by
  simp only [State.runGate]
  split
  · exact (Orderly.idleGate s).trans (Orderly.evaluateAgain 3 _)
  · exact (Orderly.idleGate s).mono (by omega)

/-- The state before the return direction chooses its next frame. -/
def State.settle (force : Bool) (s0 s1 : State) : State := (((s1.reformAll).runGate force s0).sendDeductions).reformLamps

theorem State.finish_eq (force : Bool) (s0 s1 : State) : State.finish force s0 s1 = (State.settle force s0 s1).chooseReturn := rfl

theorem Orderly.settle (force : Bool) (s0 s1 : State) : Orderly 51 s1 (State.settle force s0 s1) :=
  ((Quiet.reformAll s1).toOrderly.trans (Orderly.runGate _ s0 force)).after rfl rfl rfl

end Sys2Proof.Machine
end

section
/-!
PROOFS. Supply states, lamps and hold reasons (Tables 4.1.2 and 4.6.1, R24): what follows every step forms the supply states and the lamps
again, and leaves the hold-reason set as an empty queue or an ACTIVE head calls for, whatever the step's own effect was.
-/

-- One declaration at a time: side by side, the threads' stacks come near the memory limit of the check.
set_option Elab.async false

namespace Sys2Proof.Machine

/-! ## Supply states -/

/-- The supply state of the channel is the one that Table 4.1.2 gives. -/
def State.Formed (s : State) (c : Channel) : Prop := s.supply[c].state = s.formedSupply c

theorem State.supplyInv_iff (s : State) : s.SupplyInv ↔ ∀ c, s.Formed c := Iff.rfl

/-- Table 4.1.2 reads a channel's fault mark, refill and ink need, its account and its refill trigger. -/
theorem State.formedSupply_congr {s t : State} {c : Channel} (hf : t.supply[c].faultMark = s.supply[c].faultMark)
    (hr : t.supply[c].refill = s.supply[c].refill) (hn : t.supply[c].need = s.supply[c].need) (ha : t.accounts[c] = s.accounts[c])
    (ht : t.tables = s.tables) : t.formedSupply c = s.formedSupply c := by
  simp only [State.formedSupply, hf, hr, hn, ha, ht]

/-- A step that leaves the supply record and the account of a channel leaves it formed. -/
theorem State.Formed.of_eq {s t : State} {c : Channel} (h : s.Formed c) (hs : t.supply[c] = s.supply[c])
    (ha : t.accounts[c] = s.accounts[c]) (ht : t.tables = s.tables) : t.Formed c := by
  unfold State.Formed
  rw [State.formedSupply_congr (by rw [hs]) (by rw [hs]) (by rw [hs]) ha ht, hs]
  exact h

theorem modifyAt_eq_self {α : Type} {n : Nat} (v : Vector α n) (i : Fin n) {f : α → α} (h : f v[i] = v[i]) : modifyAt v i f = v := by
  rw [modifyAt, h, setAt]; exact Vector.set_getElem_self ..

theorem getElem_modifyAt {α : Type} {n : Nat} (v : Vector α n) (i j : Fin n) (f : α → α) :
    (modifyAt v i f)[j] = if j = i then f v[j] else v[j] := by
  rw [modifyAt, getElem_setAt]; split
  next h => rw [h]
  next => rfl

@[simp] theorem State.setLadder_supply (s : State) (c : Channel) (l : Ladder) : (s.setLadder c l).supply = s.supply := by
  simp only [State.setLadder, State.dropAsked]; split_ifs <;> rfl

@[simp] theorem State.placeStep_supply (s : State) (c : Channel) (st : LadderState) (ph : LadderPhase) :
    (s.placeStep c st ph).supply = s.supply := by
  unfold State.placeStep; split <;> rfl

@[simp] theorem State.resumeLadder_supply (s : State) (c : Channel) : (s.resumeLadder c).supply = s.supply := by
  simp only [State.resumeLadder]; split <;> simp

/-- Forming a supply state again writes the state that Table 4.1.2 gives, and nothing else of the supply records. -/
theorem State.reformSupply_supply (s : State) (c : Channel) :
    (s.reformSupply c).supply = modifyAt s.supply c fun r => { r with state := s.formedSupply c } := by
  simp only [State.reformSupply]
  split
  next h => rw [modifyAt_eq_self _ _ (by rw [h])]
  next => split_ifs <;> simp

theorem State.reformSupply_formedSupply (s : State) (c d : Channel) : (s.reformSupply c).formedSupply d = s.formedSupply d := by
  have q := Quiet.reformSupply s c
  refine State.formedSupply_congr (q.refills d).2 (q.refills d).1 ?_ (by rw [q.accounts]) q.tables
  rw [State.reformSupply_supply, getElem_modifyAt]
  split <;> rfl

theorem State.reformSupply_formed (s : State) (c : Channel) : (s.reformSupply c).Formed c := by
  unfold State.Formed
  rw [State.reformSupply_formedSupply, State.reformSupply_supply, getElem_modifyAt, if_pos rfl]

/-- Forming one channel's supply state again leaves the other records, and a formed one formed. -/
theorem State.Formed.reformSupply {s : State} {d : Channel} (h : s.Formed d) (c : Channel) : (s.reformSupply c).Formed d := by
  by_cases hd : d = c
  · exact hd ▸ s.reformSupply_formed c
  · unfold State.Formed
    rw [State.reformSupply_formedSupply, State.reformSupply_supply, getElem_modifyAt, if_neg hd]
    exact h

theorem State.foldl_reformSupply_formed {l : List Channel} {s : State} {c : Channel} (h : c ∈ l ∨ s.Formed c) :
    (l.foldl State.reformSupply s).Formed c := by
  induction l generalizing s with
  | nil => exact h.resolve_left (by simp)
  | cons a l ih =>
    refine ih ?_
    by_cases hc : c = a
    · exact .inr (hc ▸ s.reformSupply_formed a)
    · exact h.imp (fun hm => (List.mem_cons.1 hm).resolve_left hc) fun hs => hs.reformSupply a

theorem mem_channels (c : Channel) : c ∈ channels := by
  revert c; decide

theorem State.reformAll_formed (s : State) : s.reformAll.SupplyInv := fun _ => State.foldl_reformSupply_formed (.inl (mem_channels _))

theorem State.requestRefill_supply_ne (s : State) {c d : Channel} (h : d ≠ c) (k : RefillKind) (a : Option Nat) (o : Origins) :
    (s.requestRefill c k a o).supply[d] = s.supply[d] := by
  rcases s.requestRefill_cases c k a o with e | ⟨-, e⟩ | ⟨-, e⟩ <;> rw [e]
  · rfl
  · simp only [State.recordNeed, getElem_modifyAt, if_neg h]

theorem State.SupplyInv.requestReform {s : State} (h : s.SupplyInv) (c : Channel) (k : RefillKind) (a : Option Nat) (o : Origins) :
    ((s.requestRefill c k a o).reformSupply c).SupplyInv := by
  intro d
  by_cases hd : d = c
  · exact hd ▸ State.reformSupply_formed _ _
  · have q := Quiet.requestRefill s c k a o
    exact State.Formed.reformSupply (State.Formed.of_eq (h d) (s.requestRefill_supply_ne hd k a o) (by rw [q.accounts]) q.tables) c

theorem State.SupplyInv.gateRequest {s : State} (h : s.SupplyInv) (x : InkTest) (c : Channel) : (s.gateRequest x c).SupplyInv := by
  unfold State.gateRequest
  split
  · exact h.requestReform _ _ _ _
  · exact h.requestReform _ _ _ _
  · exact h

theorem State.SupplyInv.reportCapacity {s : State} (h : s.SupplyInv) (sl : Slot) (i : SlotIx) (rep : Bool) (rest : List Entry) :
    (s.reportCapacity sl i rep rest).SupplyInv := by
  unfold State.reportCapacity
  split <;> exact h

/-- A predicate that each step of a fold keeps stands at the end of it. -/
theorem foldl_keeps {α β : Type} {P : β → Prop} {f : β → α → β} (h : ∀ b a, P b → P (f b a)) {b : β} (hb : P b) (l : List α) :
    P (l.foldl f b) := by
  induction l generalizing b with
  | nil => exact hb
  | cons a l ih => exact ih (h _ _ hb)

theorem State.SupplyInv.evaluate {s : State} (h : s.SupplyInv) : s.evaluate.SupplyInv := by
  unfold State.evaluate
  split
  next i rep rest _ =>
    have hf := foldl_keeps (P := State.SupplyInv) (f := fun t c => t.gateRequest (s.inkTest s.slots[i] c) c)
      (fun t c ht => ht.gateRequest _ c) (h.reportCapacity s.slots[i] i rep rest) channels
    unfold State.evaluateSwath
    dsimp only
    split <;> exact hf
  next => unfold State.evaluateAdvance; dsimp only; split <;> exact h
  all_goals exact h

theorem State.SupplyInv.idleGate {s : State} (h : s.SupplyInv) : s.idleGate.SupplyInv := by
  unfold State.idleGate
  split
  · exact h
  · split
    · exact h
    · split <;> exact h

/-- A predicate that an evaluation keeps stands after the gate has evaluated again. -/
theorem State.evaluateAgain_keeps {P : State → Prop} (h : ∀ s : State, P s → P s.evaluate) (n : Nat) {s : State} (hs : P s) :
    P (State.evaluateAgain n s) := by
  induction n generalizing s with
  | zero => exact hs
  | succ n ih =>
    simp only [State.evaluateAgain]
    split
    · exact h s hs
    · exact ih (h s hs)

/-- A predicate that an evaluation keeps and that stands after the idle gate stands after the gate. -/
theorem State.runGate_keeps {P : State → Prop} (h : ∀ s : State, P s → P s.evaluate) {s : State} (hs : P s.idleGate) (force : Bool)
    (s0 : State) : P (s.runGate force s0) := by
  simp only [State.runGate]
  split
  · exact State.evaluateAgain_keeps h 3 hs
  · exact hs

theorem State.finish_supplyInv (force : Bool) (s0 s : State) : (State.finish force s0 s).SupplyInv :=
  State.runGate_keeps (P := State.SupplyInv) (fun _ h => h.evaluate) s.reformAll_formed.idleGate force s0

/-! ## Lamps -/

theorem Lamp.enter_pattern (now : Nat) (p : LampPattern) (l : Lamp) : (l.enter now p).pattern = p := by
  unfold Lamp.enter; split
  next h => exact h
  next => rfl

theorem State.finish_lampInv (force : Bool) (s0 s : State) : (State.finish force s0 s).LampInv := by
  intro c
  show ((State.reformLamps _).lamps[c]).pattern = _
  simp only [State.reformLamps, Fin.getElem_fin, Vector.getElem_ofFn, Lamp.enter_pattern]
  rfl

/-! ## Hold reasons -/

theorem State.idleGate_holdsInv (s : State) : s.idleGate.HoldsInv := by
  unfold State.idleGate
  split
  next h => exact ⟨fun _ => ⟨rfl, rfl⟩, fun e l hq => by simp [h] at hq⟩
  next e l h =>
    split
    next => exact ⟨fun hq => by simp [h] at hq, fun _ _ _ _ => ⟨rfl, rfl⟩⟩
    next hw =>
      have waits : ∀ t : State, t.queue = s.queue → t.HoldsInv := fun t ht =>
        ⟨fun hq => by simp [ht, h] at hq, fun e' l' hq ha => by rw [ht, h] at hq; cases hq; exact absurd ha hw⟩
      split <;> exact waits _ rfl

/-- The phase of an entry does not stand in its reported flags. -/
@[simp] theorem Entry.bare_phase (e : Entry) : e.bare.phase = e.phase := by
  obtain ⟨j, p⟩ := e; cases j <;> rfl

theorem State.HoldsInv.evaluate {s : State} (h : s.HoldsInv) : s.evaluate.HoldsInv := by
  have hq := (Follows.evaluate s).queue
  have waits : ∀ e l, s.queue = e :: l → e.phase = .waiting → s.evaluate.HoldsInv := by
    intro e l he hp
    rw [he] at hq
    refine ⟨fun hn => by simp [hn] at hq, fun e' l' he' ha => ?_⟩
    rw [he'] at hq
    simp only [List.map_cons, List.cons.injEq] at hq
    have := congrArg Entry.phase hq.1
    rw [Entry.bare_phase, Entry.bare_phase, ha, hp] at this
    cases this
  by_cases hw : ∃ e l, s.queue = e :: l ∧ e.phase = .waiting
  · obtain ⟨e, l, he, hp⟩ := hw
    exact waits e l he hp
  · have same : s.evaluate = s := by
      unfold State.evaluate
      split
      next e => exact absurd ⟨_, _, e, rfl⟩ hw
      next e => exact absurd ⟨_, _, e, rfl⟩ hw
      next e => exact absurd ⟨_, _, e, rfl⟩ hw
      next => rfl
    rw [same]; exact h

theorem State.finish_holdsInv (force : Bool) (s0 s : State) : (State.finish force s0 s).HoldsInv :=
  State.runGate_keeps (P := State.HoldsInv) (fun _ h => h.evaluate) (State.idleGate_holdsInv _) force s0

/-! ## The statement -/

/-- A property of the state that reads neither the time nor the commands waiting holds after a step where what follows every step makes it
so or it held before. -/
theorem step_forms {P : State → Prop} (hf : ∀ force s0 u, P (State.finish force s0 u))
    (ht : ∀ s : State, P s → P { s with now := s.now + 1 }) (hp : ∀ (s : State) l, P s → P { s with pending := l }) {s t : State}
    (h : step s = .next t) (hs : P s) : P t := by
  unfold step at h
  split at h
  next => simp only [Host.Outcome.next.injEq] at h; exact h ▸ ht s hs
  next c rest _ =>
    cases took_of_exec h with
    | idle => exact hp s rest hs
    | ran force s0 u _ => exact hf force s0 u

/-- Settles O55: what follows every step forms supply states, lamps and hold reasons, and a step that does nothing leaves them. -/
theorem stepsFormSupplyLampsAndHolds : Obligations.StepsFormSupplyLampsAndHolds := fun _ _ h hs hl hh =>
  ⟨step_forms State.finish_supplyInv (fun _ h => h) (fun _ _ h => h) h hs, step_forms State.finish_lampInv (fun _ h => h) (fun _ _ h => h) h hl,
    step_forms State.finish_holdsInv (fun _ h => h) (fun _ _ h => h) h hh⟩

end Sys2Proof.Machine
end

section
/-!
PROOFS. The frame of the ink, cartridge and station operations (chapters 3, 4 and 6): what a charge, a cartridge's change, a stroke, a refill's
end and a station operation's end leave as it is, how many events they raise, and the ranges of the carries that they keep.
-/

-- One declaration at a time: side by side, the threads' stacks come near the memory limit of the check.
set_option Elab.async false

namespace Sys2Proof.Machine

/-! ## Three relations, each a part of the next -/

/-- From s to t only the lane, accounts, supply, cartridges, the service record, the outputs and the free values taken have changed; at most n
events were raised, and the carries stay in their ranges (R49, R74). -/
structure Inks (n : Nat) (s t : State) : Prop extends Orderly n s t where
  frame : t = { s with
    lane := t.lane, accounts := t.accounts, supply := t.supply, carts := t.carts, service := t.service, out := t.out
    freeCount := t.freeCount }
  carries : (∀ c : Channel, s.accounts[c].carry < 100000000) → ∀ c : Channel, t.accounts[c].carry < 100000000
  tags : (∀ c : Channel, s.carts[c].tagCarry < 1000) → ∀ c : Channel, t.carts[c].tagCarry < 1000

/-- Besides, no reservation has changed (R50). -/
structure Kept (n : Nat) (s t : State) : Prop extends Inks n s t where
  reserves : ∀ c : Channel, t.accounts[c].reserved = s.accounts[c].reserved ∧ t.accounts[c].release = s.accounts[c].release

/-- Besides, the carriage, its holder and the refills stand as they were. -/
structure Charges (n : Nat) (s t : State) : Prop extends Kept n s t where
  holder : t.service.holder = s.service.holder
  docked : t.service.docked = s.service.docked
  refills : ∀ c : Channel, t.supply[c].refill = s.supply[c].refill ∧ t.supply[c].faultMark = s.supply[c].faultMark

theorem Quiet.charges {n : Nat} {s t : State} (h : Quiet n s t) : Charges n s t where
  toOrderly := h.toOrderly
  frame := by
    have := h.frame
    rw [this]
  carries hc c := by rw [h.accounts]; exact hc c
  tags hc c := by rw [h.carts]; exact hc c
  reserves c := by rw [h.accounts]; exact ⟨rfl, rfl⟩
  holder := h.holder
  docked := h.docked
  refills := h.refills

theorem Inks.trans {m n : Nat} {s t u : State} (h : Inks m s t) (k : Inks n t u) : Inks (m + n) s u where
  toOrderly := h.toOrderly.trans k.toOrderly
  frame := by rw [k.frame, h.frame]
  carries hc := k.carries (h.carries hc)
  tags hc := k.tags (h.tags hc)

theorem Kept.trans {m n : Nat} {s t u : State} (h : Kept m s t) (k : Kept n t u) : Kept (m + n) s u where
  toInks := h.toInks.trans k.toInks
  reserves c := ⟨(k.reserves c).1.trans (h.reserves c).1, (k.reserves c).2.trans (h.reserves c).2⟩

theorem Charges.trans {m n : Nat} {s t u : State} (h : Charges m s t) (k : Charges n t u) : Charges (m + n) s u where
  toKept := h.toKept.trans k.toKept
  holder := k.holder.trans h.holder
  docked := k.docked.trans h.docked
  refills c := ⟨(k.refills c).1.trans (h.refills c).1, (k.refills c).2.trans (h.refills c).2⟩

theorem Charges.refl (s : State) : Charges 0 s s := (Quiet.refl s).charges

theorem Inks.mono {m n : Nat} {s t : State} (h : Inks m s t) (hmn : m ≤ n) : Inks n s t := { h with toOrderly := h.toOrderly.mono hmn }
theorem Kept.mono {m n : Nat} {s t : State} (h : Kept m s t) (hmn : m ≤ n) : Kept n s t := { h with toInks := h.toInks.mono hmn }
theorem Charges.mono {m n : Nat} {s t : State} (h : Charges m s t) (hmn : m ≤ n) : Charges n s t := { h with toKept := h.toKept.mono hmn }

theorem Charges.foldl {α : Type} {n : Nat} {f : State → α → State} (h : ∀ s a, Charges n s (f s a)) (l : List α) (s : State) :
    Charges (l.length * n) s (l.foldl f s) := by
  induction l generalizing s with
  | nil => exact (Charges.refl s).mono (by omega)
  | cons a l ih =>
    exact ((h s a).trans (ih _)).mono (by simp only [List.length_cons, Nat.add_mul, Nat.one_mul]; omega)

section

variable {n : Nat} {s t : State}

theorem Inks.now (h : Inks n s t) : t.now = s.now := by rw [h.frame]
theorem Inks.slots (h : Inks n s t) : t.slots = s.slots := by rw [h.frame]
theorem Inks.store (h : Inks n s t) : t.store = s.store := by rw [h.frame]
theorem Inks.queue (h : Inks n s t) : t.queue = s.queue := by rw [h.frame]
theorem Inks.wetEdge (h : Inks n s t) : t.wetEdge = s.wetEdge := by rw [h.frame]
theorem Inks.pass (h : Inks n s t) : t.pass = s.pass := by rw [h.frame]
theorem Inks.driveEnable (h : Inks n s t) : t.driveEnable = s.driveEnable := by rw [h.frame]
theorem Inks.maps (h : Inks n s t) : t.maps = s.maps := by rw [h.frame]
theorem Inks.feed (h : Inks n s t) : t.feed = s.feed := by rw [h.frame]
theorem Inks.scan (h : Inks n s t) : t.scan = s.scan := by rw [h.frame]
theorem Inks.inputs (h : Inks n s t) : t.inputs = s.inputs := by rw [h.frame]
theorem Inks.stop (h : Inks n s t) : t.stop = s.stop := by rw [h.frame]
theorem Inks.tables (h : Inks n s t) : t.tables = s.tables := by rw [h.frame]
theorem Inks.pending (h : Inks n s t) : t.pending = s.pending := by rw [h.frame]

end

/-! ## Writing what the relations leave free -/

/-- A change of the service record that leaves ladders, pending requests, the holder and the dock. -/
theorem Charges.setService (s : State) {v : Service} (hd : v.ladders = s.service.ladders) (hp : v.pending = s.service.pending)
    (hh : v.holder = s.service.holder) (hk : v.docked = s.service.docked) : Charges 0 s { s with service := v } :=
  { Charges.refl s with
    toOrderly := .of_eq rfl hd hp
    frame := rfl
    holder := hh
    docked := hk }

/-- A change of the service record that leaves ladders and pending requests. -/
theorem Kept.setService (s : State) {v : Service} (hd : v.ladders = s.service.ladders) (hp : v.pending = s.service.pending) :
    Kept 0 s { s with service := v } :=
  { (Charges.refl s).toKept with
    toOrderly := .of_eq rfl hd hp
    frame := rfl }

theorem Charges.setOut (s : State) (o : Outputs) : Charges 0 s { s with out := o } := { Charges.refl s with frame := rfl }

theorem Charges.setCarts (s : State) (c : Channel) {r : Cartridge} (h : s.carts[c].tagCarry < 1000 → r.tagCarry < 1000) :
    Charges 0 s { s with carts := setAt s.carts c r } :=
  { Charges.refl s with
    frame := rfl
    tags := fun hs d => by
      simp only [getElem_setAt]
      split
      · exact h (hs c)
      · exact hs d }

theorem Charges.setAccounts (s : State) (c : Channel) {a : Account} (h : s.accounts[c].carry < 100000000 → a.carry < 100000000)
    (hr : a.reserved = s.accounts[c].reserved ∧ a.release = s.accounts[c].release) :
    Charges 0 s { s with accounts := setAt s.accounts c a } :=
  { Charges.refl s with
    frame := rfl
    carries := fun hs d => by
      simp only [getElem_setAt]
      split
      · exact h (hs c)
      · exact hs d
    reserves := fun d => by
      simp only [getElem_setAt]
      split
      next e => subst e; exact hr
      next => exact ⟨rfl, rfl⟩ }

theorem Kept.setSupply (s : State) (v : Vector Supply 6) : Kept 0 s { s with supply := v } :=
  { (Charges.refl s).toKept with frame := rfl }

/-- Whatever else of supply, service record, outputs and free values is written besides leaves what the relation keeps. -/
theorem Kept.write {n : Nat} {s u t : State} (h : Kept n s u)
    (frame : t = { u with supply := t.supply, service := t.service, out := t.out, freeCount := t.freeCount } := by rfl)
    (ladders : t.service.ladders = u.service.ladders := by rfl) (requests : t.service.pending = u.service.pending := by rfl) :
    Kept n s t := by
  have hl : t.lane = u.lane := by rw [frame]
  have ha : t.accounts = u.accounts := by rw [frame]
  have hc : t.carts = u.carts := by rw [frame]
  refine h.trans (n := 0) { toOrderly := .of_eq hl ladders requests, frame := ?_, carries := ?_, tags := ?_, reserves := ?_ }
  · rw [frame]
  · rw [ha]; exact id
  · rw [hc]; exact id
  · rw [ha]; exact fun _ => ⟨rfl, rfl⟩

/-! ## Charges (R49 to R55) -/

theorem Account.charge_carry (a : Account) (d : Nat) : (a.charge d).carry = a.carry := by unfold Account.charge; split <;> rfl
theorem Account.charge_reserved (a : Account) (d : Nat) : (a.charge d).reserved = a.reserved := by unfold Account.charge; split <;> rfl
theorem Account.charge_release (a : Account) (d : Nat) : (a.charge d).release = a.release := by unfold Account.charge; split <;> rfl

/-- What follows the writing of an account is quiet. -/
theorem Quiet.setAccount (s : State) (c : Channel) (a : Account) :
    Quiet 2 { s with accounts := setAt s.accounts c a } (s.setAccount c a) := by
  unfold State.setAccount
  dsimp only
  split
  · exact (Quiet.reformSupply _ c).trans (Quiet.requestRefill _ c .fill none bySupply)
  · exact Quiet.reformSupply _ c

theorem Charges.setAccount (s : State) (c : Channel) {a : Account} (h : s.accounts[c].carry < 100000000 → a.carry < 100000000)
    (hr : a.reserved = s.accounts[c].reserved ∧ a.release = s.accounts[c].release) : Charges 2 s (s.setAccount c a) :=
  ((Charges.setAccounts s c h hr).trans (Quiet.setAccount s c a).charges).mono (by omega)

theorem debitOf_carry_lt (p carry : Nat) : (debitOf p carry).2 < 100000000 := Nat.mod_lt _ (by omega)

theorem Charges.chargeDrops (s : State) (c : Channel) (p : Nat) : Charges 2 s (s.chargeDrops c p) :=
  Charges.setAccount s c (fun _ => by rw [Account.charge_carry]; exact debitOf_carry_lt _ _)
    ⟨Account.charge_reserved _ _, Account.charge_release _ _⟩

theorem Charges.chargeService (s : State) (c : Channel) (n : Counts) : Charges 2 s (s.chargeService c n) := by
  unfold State.chargeService
  split
  · exact (Charges.refl s).mono (by omega)
  · split
    · exact Charges.chargeDrops ..
    · exact (Charges.refl s).mono (by omega)

theorem Charges.chargePurge (s : State) (c : Channel) (v : Nat) : Charges 2 s (s.chargePurge c v) :=
  Charges.setAccount s c (fun h => by rw [Account.charge_carry]; exact h) ⟨Account.charge_reserved _ _, Account.charge_release _ _⟩

theorem Charges.stamp (s : State) (sets : Vector GroupSet 6) : Charges 0 s (s.stamp sets) := Charges.setService s rfl rfl rfl rfl

theorem Charges.uncap (s : State) : Charges 0 s s.uncap := Charges.setService s rfl rfl rfl rfl

/-- The purge of an operation charged, where one was begun (R54). -/
def State.purgeCharged (s : State) (o : OpInFlight) : State :=
  match o.req.op, o.purge with
  | .prime c, some v => s.chargePurge c v
  | _, _ => s

theorem State.opCharged_eq (s : State) (o : OpInFlight) (p : Config.StationProgress) : s.opCharged o p =
    (channels.foldl (fun t c => t.chargeService c (o.req.op.firedDrops o.spit p c)) (s.purgeCharged o)).stamp
      (Vector.ofFn fun c : Fin 6 => o.req.op.firedGroups o.spit p c) := rfl

theorem Charges.purgeCharged (s : State) (o : OpInFlight) : Charges 2 s (s.purgeCharged o) := by
  unfold State.purgeCharged
  split
  · exact Charges.chargePurge ..
  · exact (Charges.refl s).mono (by omega)

theorem Charges.opCharged (s : State) (o : OpInFlight) (p : Config.StationProgress) : Charges 14 s (s.opCharged o p) := by
  rw [State.opCharged_eq]
  exact ((Charges.purgeCharged s o).trans (Charges.foldl (n := 2) (fun t c => Charges.chargeService t c _) channels _)).trans
    (Charges.stamp _ _)

theorem Charges.setFreeCount (s : State) (n : Nat) : Charges 0 s { s with freeCount := n } := { Charges.refl s with frame := rfl }

theorem Charges.opInterrupted (s : State) (o : OpInFlight) : Charges 14 s (s.opInterrupted o) := by
  unfold State.opInterrupted
  split
  · exact ((Charges.setFreeCount s _).trans (Charges.opCharged _ o _)).mono (by omega)
  · exact (Charges.refl s).mono (by omega)

/-! ## Wear and cap tests (R104, R105) -/

theorem Quiet.wearTest (s : State) (h : Head) : Quiet 0 s (s.wearTest h) := by
  unfold State.wearTest
  split
  · exact Quiet.place ..
  · exact Quiet.refl s

theorem Quiet.wearTests (s : State) : Quiet 0 s s.wearTests := Quiet.foldl (n := 0) Quiet.wearTest [0, 1, 2] s

theorem Quiet.capTest (s : State) : Quiet 0 s s.capTest := by
  unfold State.capTest
  split
  · exact Quiet.place ..
  · exact Quiet.refl s

theorem Charges.addDrops (s : State) (h : Head) (n : Nat) : Charges 0 s (s.addDrops h n) :=
  (Charges.setService s (v := { s.service with drops := modifyAt s.service.drops h fun d => min (d + n) 4294967295 }) rfl rfl rfl
    rfl).trans (Quiet.wearTest _ h).charges

theorem Charges.wiped (s : State) (h : Head) : Charges 0 s (s.wiped h) := Charges.setService s rfl rfl rfl rfl

/-! ## Cartridges (R59 to R61, R71 to R75) -/

theorem Quiet.handBack (s : State) (c : Channel) : Quiet 0 s (s.handBack c) :=
  ((Quiet.withdraw s _).trans (Quiet.foldl (n := 0) (fun t (r : Request) => Quiet.requestRefill t c (r.op.refillKind.getD .refill) r.amount r.origins)
    _ _)).mono (by omega)

theorem Quiet.cartridgeAble (s : State) (c : Channel) : Quiet 2 s (s.cartridgeAble c) := by
  have placed : ∀ t : State, Quiet 0 t (if t.supply[c].faultMark then t
      else if t.accounts[c].known = false then t.place (.fillToMark c) none bySupply
      else if t.supply[c].state = SupplyState.low then t.place (.refill c) none bySupply else t) := by
    intro t
    split_ifs
    · exact Quiet.refl t
    · exact Quiet.place ..
    · exact Quiet.place ..
    · exact Quiet.refl t
  unfold State.cartridgeAble
  split
  · exact (((Quiet.setSupply s c (fun r => { r with need := none }) fun r => ⟨rfl, rfl⟩).trans (Quiet.place _ _ _ _)).trans
      (Quiet.reformSupply _ c)).trans (placed _)
  · exact (placed s).mono (by omega)

/-- What follows the writing of a cartridge record is quiet. -/
theorem Quiet.setCart (s : State) (c : Channel) (r : Cartridge) (report : Bool) :
    Quiet 3 { s with carts := setAt s.carts c r } (s.setCart c r report) := by
  have reported : Quiet 1 { s with carts := setAt s.carts c r }
      (if report then State.raise { s with carts := setAt s.carts c r } (r.event c) else { s with carts := setAt s.carts c r }) := by
    split
    · exact Quiet.raise ..
    · exact (Quiet.refl _).mono (by omega)
  unfold State.setCart
  dsimp only
  split
  · exact (reported.trans (Quiet.handBack ..)).mono (by omega)
  · split
    · exact reported.trans (Quiet.cartridgeAble ..)
    · exact reported.mono (by omega)

theorem Charges.setCart (s : State) (c : Channel) (r : Cartridge) (report : Bool)
    (h : s.carts[c].tagCarry < 1000 → r.tagCarry < 1000) : Charges 3 s (s.setCart c r report) :=
  ((Charges.setCarts s c h).trans (Quiet.setCart s c r report).charges).mono (by omega)

theorem Charges.reformCart (s : State) (c : Channel) : Charges 3 s (s.reformCart c) := by
  unfold State.reformCart
  dsimp only
  split
  · exact Charges.setCart s c _ _ id
  · exact (Charges.refl s).mono (by omega)

theorem Cartridge.keepOwed_tagCarry (r : Cartridge) : r.keepOwed.tagCarry = r.tagCarry := by
  unfold Cartridge.keepOwed
  split
  · split <;> rfl
  · rfl

theorem Charges.tagFaults (s : State) (c : Channel) : Charges 4 s (s.tagFaults c) :=
  (Quiet.raiseCondition s _).charges.trans (Charges.setCart _ c _ _ fun h => by
    show (s.carts[c]).keepOwed.tagCarry < 1000
    rw [Cartridge.keepOwed_tagCarry]; exact h)

theorem Charges.beginInsertion (s : State) (c : Channel) : Charges 3 s (s.beginInsertion c) := Charges.setCart s c _ _ id

theorem Charges.identify (s : State) (c : Channel) (i : TagInfo) : Charges 3 s (s.identify c i) := by
  unfold State.identify
  dsimp only
  split
  · exact Charges.setCart s c _ _ fun _ => by show 0 < 1000; omega
  · exact Charges.setCart s c _ _ id

theorem Charges.readSucceeds (s : State) (c : Channel) (i : TagInfo) : Charges 4 s (s.readSucceeds c i) := by
  unfold State.readSucceeds
  dsimp only
  split
  · exact Charges.tagFaults s c
  · split
    · split
      · exact (Charges.setCarts s c (by exact id)).mono (by omega)
      · exact ((Charges.setCarts s c (by exact id)).trans (Charges.identify _ c i)).mono (by omega)
    · exact (Charges.identify s c i).mono (by omega)

theorem Charges.insertDeductSucceeds (s : State) (c : Channel) (n : Nat) (i : TagInfo) (r : Nat) :
    Charges 4 s (s.insertDeductSucceeds c n i r) := by
  unfold State.insertDeductSucceeds
  dsimp only
  split
  · split
    · exact ((Charges.setCarts s c (by exact id)).trans (Charges.identify _ c _)).mono (by omega)
    · exact (Charges.setCarts s c (by exact id)).mono (by omega)
  · exact (Charges.identify s c _).mono (by omega)

theorem Charges.deductSucceeds (s : State) (c : Channel) (n : Nat) : Charges 0 s (s.deductSucceeds c n) := Charges.setCarts s c id

theorem Charges.tagAnswered (s : State) (c : Channel) (x : TagTxn) (a : TagAnswer) : Charges 4 s (s.tagAnswered c x a) := by
  unfold State.tagAnswered
  split
  · split
    · exact Charges.readSucceeds ..
    · exact Charges.insertDeductSucceeds ..
    · exact (Charges.deductSucceeds ..).mono (by omega)
    · exact Charges.tagFaults ..
  · exact Charges.tagFaults ..

/-! ## Refills (R62 to R67) -/

theorem Kept.freeCarriage (s : State) : Kept 0 s s.freeCarriage := Kept.setService s rfl rfl

theorem Kept.undock (s : State) : Kept 0 s s.undock := Kept.setService s rfl rfl

theorem Charges.formDeduction (s : State) (c : Channel) (n : Nat) : Charges 0 s (s.formDeduction c n) :=
  Charges.setCarts s c fun _ => Nat.mod_lt _ (by omega)

theorem Kept.closeRefill (s : State) (c : Channel) (k : Refill) : Kept 0 s (s.closeRefill c k) :=
  (Charges.formDeduction s c k.drawn).toKept.write

theorem Quiet.refillDone (s : State) (c : Channel) (k : Refill) (why : RefillEnd) : Quiet 1 s (s.refillDone c k why) := Quiet.raise ..

theorem Kept.endRefill (s : State) (c : Channel) (k : Refill) (why : RefillEnd) : Kept 3 s (s.endRefill c k why) :=
  ((Kept.closeRefill s c k).trans (Quiet.refillDone _ c k why).charges.toKept).trans (Quiet.reformSupply _ c).charges.toKept

/-- The channel's pending refills whose origins do not hold FORMATTER are withdrawn (R107). -/
def State.withdrawUnordered (s : State) (c : Channel) : State :=
  { s with service := { s.service with pending := s.service.pending.filter fun r =>
      !(r.op.refillChannel = some c && !r.origins.formatter) } }

theorem Kept.setFaultMark (s : State) (c : Channel) : Kept 0 s (s.setFaultMark c) :=
  Kept.write (u := s.withdrawUnordered c) (Quiet.setPending s fun h => h.filter _).charges.toKept

theorem Kept.faultRefill (s : State) (c : Channel) (k : Refill) (why : RefillFaultReason) : Kept 4 s (s.faultRefill c k why) :=
  ((((Kept.closeRefill s c k).trans (Kept.setFaultMark _ c)).trans (Quiet.raise _ _).charges.toKept).trans
    (Quiet.raiseCondition _ _).charges.toKept).trans (Quiet.reformSupply _ c).charges.toKept

/-- A cartridge found with too little ink is EMPTY, with its event where it was not before (R63). -/
def State.emptied (s : State) (c : Channel) : State :=
  if s.carts[c].state = .empty then s else s.setCart c { s.carts[c] with state := .empty } true

/-- The next stroke of a refill is begun (R63). -/
def State.strokeBegun (s : State) (c : Channel) (k : Refill) : State :=
  { s with
    supply := modifyAt s.supply c fun q => { q with refill := some { k with inStroke := true, markSeen := false } }
    out := { s.out with station := .stroke c } }

/-- A FILL TO MARK has reached its limit of strokes or of the level (R66). -/
def State.atLimit (s : State) (c : Channel) (k : Refill) : Bool :=
  k.kind = .fill && (k.limit.getD 0 ≤ k.strokes || 12000000 < s.accounts[c].level + k.strokeVolume)

/-- The check before a stroke, by the reasons that end the refill in their order (R63, R66). -/
theorem State.beginStroke_eq {s : State} {c : Channel} {k : Refill} (hk : s.supply[c].refill = some k) : s.beginStroke c =
    if !s.carts[c].state.identified then s.endRefill c k .cartridgeFault
    else if s.carts[c].state = .empty || s.carts[c].remaining < k.strokeVolume then (s.emptied c).endRefill c k .cartridgeEmpty
    else if s.atLimit c k then s.faultRefill c k .strokeLimit
    else if k.kind = .fill && !s.fresh 9 then s.faultRefill c k .pressureStale
    else s.strokeBegun c k := by
  unfold State.beginStroke
  rw [hk]
  rfl

theorem State.beginStroke_of_none {s : State} {c : Channel} (hk : s.supply[c].refill = none) : s.beginStroke c = s := by
  unfold State.beginStroke
  rw [hk]

theorem Charges.emptied (s : State) (c : Channel) : Charges 3 s (s.emptied c) := by
  unfold State.emptied
  split
  · exact (Charges.refl s).mono (by omega)
  · exact Charges.setCart s c _ _ (by exact id)

theorem Kept.strokeBegun (s : State) (c : Channel) (k : Refill) : Kept 0 s (s.strokeBegun c k) := (Charges.refl s).toKept.write

theorem Kept.beginStroke (s : State) (c : Channel) : Kept 6 s (s.beginStroke c) := by
  cases hk : s.supply[c].refill with
  | none => rw [State.beginStroke_of_none hk]; exact (Charges.refl s).toKept.mono (by omega)
  | some k =>
    rw [State.beginStroke_eq hk]
    split
    · exact (Kept.endRefill ..).mono (by omega)
    · split
      · exact (Charges.emptied s c).toKept.trans (Kept.endRefill ..)
      · split
        · exact (Kept.faultRefill ..).mono (by omega)
        · split
          · exact (Kept.faultRefill ..).mono (by omega)
          · exact (Kept.strokeBegun ..).mono (by omega)

/-- The level that a refill counts from: 0 for a FILL TO MARK of an unknown level (R62). -/
def State.zeroed (s : State) (c : Channel) (kind : RefillKind) : State :=
  { s with accounts :=
      if kind = .fill ∧ s.accounts[c].known = false then modifyAt s.accounts c fun a => { a with level := 0 } else s.accounts }

/-- A refill's record is written at its grant and the channel becomes FILLING (R62). -/
def State.refillWritten (s : State) (c : Channel) (kind : RefillKind) (a : Option Nat) : State :=
  ({ s.zeroed c kind with supply := modifyAt s.supply c fun q => { q with
      refill := some (newRefill s.tables.channel[c] s.accounts[c].reserved kind a) } } : State).reformSupply c

/-- A granted refill ends at a target already reached, or tries its first stroke where the carriage is docked (R62, R64). -/
theorem State.startRefill_eq (s : State) (c : Channel) (kind : RefillKind) (a : Option Nat) : s.startRefill c kind a =
    let k := newRefill s.tables.channel[c] s.accounts[c].reserved kind a
    let t := s.refillWritten c kind a
    if k.reached t.accounts[c].level then t.endRefill c k .target else if t.service.docked then t.beginStroke c else t := rfl

theorem Charges.zeroed (s : State) (c : Channel) (kind : RefillKind) : Charges 0 s (s.zeroed c kind) := by
  unfold State.zeroed
  split
  · exact Charges.setAccounts s c (by exact id) (by exact ⟨rfl, rfl⟩)
  · exact Charges.refl s

theorem Kept.refillWritten (s : State) (c : Channel) (kind : RefillKind) (a : Option Nat) : Kept 2 s (s.refillWritten c kind a) :=
  ((Charges.zeroed s c kind).toKept.write.trans (Quiet.reformSupply _ c).charges.toKept).mono (by omega)

theorem Kept.startRefill (s : State) (c : Channel) (kind : RefillKind) (a : Option Nat) : Kept 8 s (s.startRefill c kind a) := by
  have h := Kept.refillWritten s c kind a
  rw [State.startRefill_eq]
  dsimp only
  split
  · exact (h.trans (Kept.endRefill ..)).mono (by omega)
  · split
    · exact h.trans (Kept.beginStroke ..)
    · exact h.mono (by omega)

/-- The level at the mark: the mark level, known, and a FILL TO MARK clears the fault mark (R56, R65). -/
def State.markReached (s : State) (c : Channel) (k : Refill) : State :=
  { s with
    accounts := modifyAt s.accounts c fun a => { a with level := k.markLevel, known := true }
    supply := modifyAt s.supply c fun q => { q with faultMark := if k.kind = .fill then false else q.faultMark } }

theorem State.markDetected_eq (s : State) (c : Channel) (k : Refill) : s.markDetected c k =
    ((((s.markReached c k).closeRefill c k).refillDone c k .mark).raise (.markDrift c s.accounts[c].level k.markLevel
      ((s.accounts[c].level : Int) - k.markLevel) s.accounts[c].known)).reformSupply c := rfl

theorem Kept.markReached (s : State) (c : Channel) (k : Refill) : Kept 0 s (s.markReached c k) :=
  (Charges.setAccounts s c (a := { s.accounts[c] with level := k.markLevel, known := true }) id ⟨rfl, rfl⟩).toKept.write

theorem Kept.markDetected (s : State) (c : Channel) (k : Refill) : Kept 4 s (s.markDetected c k) := by
  rw [State.markDetected_eq]
  exact ((((Kept.markReached s c k).trans (Kept.closeRefill _ c k)).trans (Quiet.refillDone _ c k .mark).charges.toKept).trans
    (Quiet.raise _ _).charges.toKept).trans (Quiet.reformSupply _ c).charges.toKept

/-- The record of a refill after one more stroke (R63). -/
def Refill.stroked (k : Refill) : Refill := { k with strokes := k.strokes + 1, drawn := k.drawn + k.strokeVolume, inStroke := false }

/-- A completed stroke is credited to the level and charged to the cartridge (R63). -/
def State.strokeCounted (s : State) (c : Channel) (k : Refill) : State :=
  { s with
    accounts := modifyAt s.accounts c fun a => { a with level := a.level + k.strokeVolume }
    carts := modifyAt s.carts c fun r => { r with remaining := r.remaining - k.strokeVolume }
    supply := modifyAt s.supply c fun q => { q with refill := some k.stroked } }

theorem State.strokeDone_eq (s : State) (c : Channel) (k : Refill) : s.strokeDone c k =
    let t := (s.strokeCounted c k).reformCart c
    if k.markSeen then t.markDetected c k.stroked
    else if k.stroked.reached t.accounts[c].level then t.endRefill c k.stroked .target
    else t.beginStroke c := rfl

theorem Kept.strokeCounted (s : State) (c : Channel) (k : Refill) : Kept 0 s (s.strokeCounted c k) :=
  ((Charges.setAccounts s c (a := { s.accounts[c] with level := s.accounts[c].level + k.strokeVolume }) id ⟨rfl, rfl⟩).trans
    (Charges.setCarts _ c (r := { s.carts[c] with remaining := s.carts[c].remaining - k.strokeVolume }) id)).toKept.write

theorem Kept.strokeDone (s : State) (c : Channel) (k : Refill) : Kept 9 s (s.strokeDone c k) := by
  have h := (Kept.strokeCounted s c k).trans (Charges.reformCart _ c).toKept
  rw [State.strokeDone_eq]
  dsimp only
  split
  · exact (h.trans (Kept.markDetected ..)).mono (by omega)
  · split
    · exact (h.trans (Kept.endRefill ..)).mono (by omega)
    · exact h.trans (Kept.beginStroke ..)

/-- The refill of a channel, if one is in flight, ends without a fault. -/
def State.endRefillAt (s : State) (c : Channel) (why : RefillEnd) : State :=
  match s.supply[c].refill with
  | some k => s.endRefill c k why
  | none => s

theorem Kept.endRefillAt (s : State) (c : Channel) (why : RefillEnd) : Kept 3 s (s.endRefillAt c why) := by
  unfold State.endRefillAt
  split
  · exact Kept.endRefill ..
  · exact (Charges.refl s).toKept.mono (by omega)

/-- A cartridge's transaction ends with its removal (R75). -/
def State.unlinked (s : State) (c : Channel) : State := { s with carts := modifyAt s.carts c fun r => { r with link := none } }

/-- The record of a slot whose cartridge has been removed (R75). -/
def Cartridge.removed (r : Cartridge) : Cartridge :=
  { r.keepOwed with state := .absent, reject := none, serial := none, kind := none, capacity := none, remaining := 0, tagCarry := 0,
                    owed := 0, link := none }

theorem State.removeCartridge_eq (s : State) (c : Channel) : s.removeCartridge c =
    let t := (s.unlinked c).endRefillAt c .cartridgeRemoved
    t.setCart c (t.carts[c]).removed true := rfl

theorem Kept.removeCartridge (s : State) (c : Channel) : Kept 6 s (s.removeCartridge c) := by
  rw [State.removeCartridge_eq]
  have unlinked : Charges 0 s (s.unlinked c) := Charges.setCarts s c (by exact id)
  exact ((unlinked.toKept.trans (Kept.endRefillAt ..)).trans
    (Charges.setCart _ c _ _ fun _ => by show 0 < 1000; omega).toKept).mono (by omega)

/-! ## Ladders (R113 to R116) -/

/-- A ladder moved on in its step is sound (R114). -/
theorem Ladder.Ok.checking {l : Ladder} (h : l.Ok) (hp : l.phase = some .operation) : ({ l with phase := some .check } : Ladder).Ok := by
  obtain ⟨h1, h2, h3, h4, h5⟩ := h
  exact ⟨by simpa [hp] using h1, h2, h3, h4, h5⟩

/-- A ladder outside SUSPENDED that returns to NORMAL is sound (R114). -/
theorem Ladder.Ok.normal {l : Ladder} (h : l.Ok) (hn : l.state ≠ .suspended) (b n : Nat) :
    ({ l with state := .normal, phase := none, baseline := b, last := n } : Ladder).Ok := by
  obtain ⟨-, h2, h3, h4, -⟩ := h
  exact .of_unstepped rfl (by simp) rfl (h4 hn) (by simpa [hn] using h3) (by simpa [hn] using h2)

/-- A ladder suspended in its step is sound (R115). -/
theorem Ladder.Ok.suspended {l : Ladder} (h : l.Ok) (hs : l.state.inStep = true) (cause : SuspendCause) :
    ({ l with state := .suspended, phase := none, suspStep := some l.state, suspPhase := l.phase, cause := some cause } : Ladder).Ok :=
  ⟨by simp [LadderState.inStep], by simp, by simpa using h.1.2 hs, fun hn => absurd rfl hn, fun _ => ⟨_, rfl, hs⟩⟩

theorem State.LadderInv.ok {s : State} (h : s.LadderInv) (c : Channel) : (s.service.ladders[c]).Ok := h c

theorem Quiet.enterStep (s : State) (c : Channel) (l : Ladder) (st : LadderState) (h : st ≠ .suspended) : Quiet 1 s (s.enterStep c l st) := by
  unfold State.enterStep
  dsimp only
  by_cases hs : st.inStep = true
  · simp only [hs, if_true]
    exact (Quiet.setLadder s c fun _ => .of_step hs rfl rfl rfl rfl).trans (Quiet.placeStep ..)
  · simp only [hs]
    exact Quiet.setLadder s c fun _ => .of_unstepped (by simpa using hs) h rfl rfl rfl rfl

theorem Quiet.serveLadder (s : State) (states : List LadderState) (c : Channel) : Quiet 1 s (s.serveLadder states c) := by
  unfold State.serveLadder
  dsimp only
  split
  next h =>
    simp only [Bool.and_eq_true, decide_eq_true_eq] at h
    exact (Quiet.setLadder s c fun hs => (hs.ok c).checking h.2).trans (Quiet.placeStep ..)
  next => exact (Quiet.refl s).mono (by omega)

theorem LadderState.afterFailure_ne (st : LadderState) : st.afterFailure ≠ .suspended := by cases st <;> decide

theorem Quiet.ladderResult (s : State) (c : Channel) (f : CheckFigures) : Quiet 1 s (s.ladderResult c f) := by
  have counted : ∀ b : Nat, Quiet 1 s (s.setLadder c { s.service.ladders[c] with last := f.found, baseline := b }) := fun b =>
    Quiet.setLadder s c fun hs => (hs.ok c).counts b f.found
  unfold State.ladderResult
  dsimp only
  split
  · split
    · exact Quiet.enterStep _ _ _ _ (by decide)
    · exact counted _
  · exact counted _
  · exact counted _
  next hn =>
    split
    · split
      · exact Quiet.setLadder s c fun hs => (hs.ok c).normal hn _ _
      · exact Quiet.enterStep _ _ _ _ (LadderState.afterFailure_ne _)
    · exact counted _

theorem Quiet.suspendLadder (s : State) (c : Channel) (cause : SuspendCause) : Quiet 1 s (s.suspendLadder c cause) := by
  unfold State.suspendLadder
  dsimp only
  split
  next h => exact Quiet.setLadder s c fun hs => (hs.ok c).suspended h cause
  next => exact (Quiet.refl s).mono (by omega)

theorem Quiet.resetLadder (s : State) (c : Channel) : Quiet 1 s (s.resetLadder c) := by
  unfold State.resetLadder
  dsimp only
  split
  · exact Quiet.setLadder s c fun _ => .of_unstepped rfl (by simp) rfl rfl rfl rfl
  · exact (Quiet.refl s).mono (by omega)

theorem Quiet.formatterResetsLadder (s : State) (c : Channel) : Quiet 2 s (s.formatterResetsLadder c) := by
  have h := Quiet.setLadder s c (l := { s.service.ladders[c] with
    state := .normal, phase := none, baseline := s.service.ladders[c].last, suspStep := none, suspPhase := none, cause := none })
    fun _ => .of_unstepped rfl (by simp) rfl rfl rfl rfl
  unfold State.formatterResetsLadder
  dsimp only
  split
  · exact (h.trans (Quiet.raise _ _)).trans (Quiet.dropLadder _ _)
  · exact (h.trans (Quiet.dropLadder _ _)).mono (by omega)

theorem Quiet.suspendWaiting (s : State) (r : Request) : Quiet 6 s (s.suspendWaiting r) := by
  unfold State.suspendWaiting
  split
  · refine Quiet.foldl (n := 1) (fun t c => ?_) channels s
    split
    · exact Quiet.suspendLadder ..
    · exact (Quiet.refl t).mono (by omega)
  · exact (Quiet.refl s).mono (by omega)

end Sys2Proof.Machine
end

section
/-!
PROOFS. The frame of the station: ends of operations, grants, the charging of a pass, and what the completions of the station leave (6.3, 6.4).
-/

-- One declaration at a time: side by side, the threads' stacks come near the memory limit of the check.
set_option Elab.async false

namespace Sys2Proof.Machine

/-! ## Ends of an operation (R109 to R112) -/

theorem Kept.capLost (s : State) (op : StationOp) : Kept 0 s (s.capLost op) := by
  unfold State.capLost
  split
  · exact Kept.setService s rfl rfl
  · exact (Charges.refl s).toKept

theorem Charges.capLost (s : State) (op : StationOp) : Charges 0 s (s.capLost op) := by
  unfold State.capLost
  split
  · exact Charges.setService s rfl rfl rfl rfl
  · exact Charges.refl s

theorem Kept.endRefillOf (s : State) (op : StationOp) (why : RefillEnd) : Kept 3 s (s.endRefillOf op why) := by
  unfold State.endRefillOf
  split
  · split
    · exact Kept.endRefill ..
    · exact (Charges.refl s).toKept.mono (by omega)
  · exact (Charges.refl s).toKept.mono (by omega)

theorem Kept.faultRefillOf (s : State) (op : StationOp) (why : RefillFaultReason) : Kept 4 s (s.faultRefillOf op why) := by
  unfold State.faultRefillOf
  split
  · split
    · exact Kept.faultRefill ..
    · exact (Charges.refl s).toKept.mono (by omega)
  · exact (Charges.refl s).toKept.mono (by omega)

theorem Charges.stopStation (s : State) : Charges 0 s s.stopStation := Charges.setOut s _

/-- An operation that fails, up to the freeing of the carriage: charged, the station stopped, its refill faulted, a CAP lost (R111). -/
def State.opBroken (s : State) (o : OpInFlight) (timeout : Bool) : State :=
  ((s.opInterrupted o).stopStation.faultRefillOf o.req.op (if timeout then .timeout else .station)).capLost o.req.op

/-- The carriage is given back UNDOCKED. -/
def State.released (s : State) : State := s.freeCarriage.undock

theorem State.failOp_eq (s : State) (o : OpInFlight) (timeout : Bool) : s.failOp o timeout =
    (((s.opBroken o timeout).released.raise
      (.stationFailed o.req.op (if timeout then .timeout else .fault) (some (s.now - o.grantedAt)))).raiseCondition
        (.stationFault o.req.op)).suspendWaiting o.req := rfl

/-- An operation that the engine's stop ends, up to the freeing of the carriage: charged, the station stopped, its refill ended, a CAP lost
(R68, R112). -/
def State.opStopped (s : State) (o : OpInFlight) (why : RefillEnd) : State :=
  ((s.opInterrupted o).stopStation.endRefillOf o.req.op why).capLost o.req.op

/-- The carriage is commanded to stop. -/
def State.stopCarriage (s : State) : State := { s with out := { s.out with carriage := .stop } }

theorem State.haltOp_eq (s : State) (o : OpInFlight) (why : RefillEnd) : s.haltOp o why = (s.opStopped o why).released.stopCarriage := rfl

theorem Kept.released (s : State) : Kept 0 s s.released := Kept.setService s rfl rfl

theorem Kept.opBroken (s : State) (o : OpInFlight) (timeout : Bool) : Kept 18 s (s.opBroken o timeout) :=
  (((Charges.opInterrupted s o).trans (Charges.stopStation _)).toKept.trans (Kept.faultRefillOf ..)).trans (Kept.capLost ..)

theorem Kept.opStopped (s : State) (o : OpInFlight) (why : RefillEnd) : Kept 17 s (s.opStopped o why) :=
  (((Charges.opInterrupted s o).trans (Charges.stopStation _)).toKept.trans (Kept.endRefillOf ..)).trans (Kept.capLost ..)

theorem Kept.failOp (s : State) (o : OpInFlight) (timeout : Bool) : Kept 26 s (s.failOp o timeout) := by
  rw [State.failOp_eq]
  exact ((((Kept.opBroken s o timeout).trans (Kept.released _)).trans (Quiet.raise _ _).charges.toKept).trans
    (Quiet.raiseCondition _ _).charges.toKept).trans (Quiet.suspendWaiting _ _).charges.toKept

theorem Kept.haltOp (s : State) (o : OpInFlight) (why : RefillEnd) : Kept 17 s (s.haltOp o why) := by
  rw [State.haltOp_eq]
  exact ((Kept.opStopped s o why).trans (Kept.released _)).trans (Charges.setOut _ _).toKept

theorem Quiet.replaceRequest (s : State) (r : Request) : Quiet 0 s (s.replaceRequest r) := by
  unfold State.replaceRequest
  split
  · exact Quiet.requestRefill ..
  · exact Quiet.place ..

theorem Kept.stopOp (s : State) : Kept 17 s s.stopOp := by
  unfold State.stopOp
  split
  · exact (Kept.haltOp ..).trans (Quiet.replaceRequest ..).charges.toKept
  · exact (Charges.refl s).toKept.mono (by omega)

theorem Kept.abandonOp (s : State) : Kept 17 s s.abandonOp := by
  unfold State.abandonOp
  split
  · exact Kept.haltOp ..
  · exact (Charges.refl s).toKept.mono (by omega)

/-! ## Grants (R101, R108, R109) -/

/-- The prime volume of the purge that a PRIME begins with its sequence; none for another operation (R54). -/
def State.purgeOf (s : State) (op : StationOp) : Option Nat :=
  match op with
  | .prime c => (s.tables.kindOf c).map (·.primeVolume)
  | _ => none

/-- The sequence of an operation runs: its record and the station's command (R109). -/
def State.sequenced (s : State) (o : OpInFlight) : State :=
  { s with
    service := { s.service with
      holder := .op { o with running := true, purge := s.purgeOf o.req.op, spit := s.tables.spitCounts } }
    out := { s.out with station := .run o.req.op } }

/-- The heads uncap where the operation needs it and they are CAPPED (R103, R109). -/
def State.uncappedFor (s : State) (op : StationOp) : State := if op.uncaps && s.service.capped then s.uncap else s

theorem State.beginSequence_eq (s : State) (o : OpInFlight) : s.beginSequence o =
    match o.req.op.refillChannel with
    | some c => ((s.sequenced o).uncappedFor o.req.op).beginStroke c
    | none => (s.sequenced o).uncappedFor o.req.op := rfl

theorem Kept.sequenced (s : State) (o : OpInFlight) : Kept 0 s (s.sequenced o) := (Charges.refl s).toKept.write

theorem Charges.uncappedFor (s : State) (op : StationOp) : Charges 0 s (s.uncappedFor op) := by
  unfold State.uncappedFor
  split
  · exact Charges.uncap s
  · exact Charges.refl s

theorem Kept.beginSequence (s : State) (o : OpInFlight) : Kept 6 s (s.beginSequence o) := by
  have h := (Kept.sequenced s o).trans (Charges.uncappedFor _ o.req.op).toKept
  rw [State.beginSequence_eq]
  split
  · exact h.trans (Kept.beginStroke ..)
  · exact h.mono (by omega)

/-- The operation of a request as its grant leaves it (R109, R111). -/
def State.grantedOp (s : State) (r : Request) : OpInFlight :=
  ⟨r, s.now, s.now + r.op.timeout s.tables.service, false, none, s.tables.spitCounts, false⟩

/-- A request granted: it has left the pending ones and holds the carriage, which is commanded to dock where it is UNDOCKED (R109). -/
def State.granted (s : State) (r : Request) : State :=
  let s1 : State := { s with service := { s.service with
    pending := s.service.pending.filter fun q => q ≠ r
    holder := .op (s.grantedOp r)
    uncapInFlight := r.op.uncaps && s.service.capped && !s.service.docked } }
  if s.service.docked then s1 else { s1 with out := { s1.out with carriage := .dock } }

/-- The carriage stands docked for the refill granted (log 20). -/
def State.refillRuns (s : State) (o : OpInFlight) : State :=
  { s with service := { s.service with holder := .op { o with running := true } } }

theorem State.grantOp_eq (s : State) (r : Request) : s.grantOp r =
    match r.op.refillChannel, r.op.refillKind with
    | some c, some k =>
      if s.service.docked then ((s.granted r).refillRuns (s.grantedOp r)).startRefill c k r.amount
      else (s.granted r).startRefill c k r.amount
    | _, _ => if s.service.docked then (s.granted r).beginSequence (s.grantedOp r) else s.granted r := rfl

theorem Kept.granted (s : State) (r : Request) : Kept 0 s (s.granted r) := by
  have h : Kept 0 s { s with service := { s.service with pending := s.service.pending.filter fun q => q ≠ r } } :=
    (Quiet.setPending s fun h => h.filter _).charges.toKept
  unfold State.granted
  dsimp only
  split
  · exact h.write
  · exact h.write

theorem Kept.refillRuns (s : State) (o : OpInFlight) : Kept 0 s (s.refillRuns o) := (Charges.refl s).toKept.write

theorem Kept.grantOp (s : State) (r : Request) : Kept 8 s (s.grantOp r) := by
  have h := Kept.granted s r
  rw [State.grantOp_eq]
  split
  · split
    · exact (h.trans (Kept.refillRuns ..)).trans (Kept.startRefill ..)
    · exact h.trans (Kept.startRefill ..)
  · split
    · exact (h.trans (Kept.beginSequence ..)).mono (by omega)
    · exact h.mono (by omega)

/-- The urgent REFILL that a PRIME without its ink asks for (R101). -/
def State.primeAsks (s : State) (c : Channel) : State :=
  match s.tables.kindOf c with
  | some k => (s.requestRefill c .urgent (some k.primeVolume) byPrime).reformSupply c
  | none => s

/-- A PRIME withdrawn with STATION FAILED, reason NO INK (R101, R111). -/
def State.primeWithdrawn (s : State) (c : Channel) : State := (s.withdraw fun op => op = .prime c).raise (.stationFailed (.prime c) .noInk none)

theorem State.primeFails_eq (s : State) (c : Channel) (o : Origins) : s.primeFails c o =
    match (s.primeAsks c).primeLost c with
    | none => s.primeAsks c
    | some cause =>
      let t := (s.primeAsks c).primeWithdrawn c
      if o.ladder && (t.service.ladders[c]).waitsOn c (.prime c) then t.suspendLadder c cause else t := rfl

theorem Quiet.primeAsks (s : State) (c : Channel) : Quiet 2 s (s.primeAsks c) := by
  unfold State.primeAsks
  split
  · exact (Quiet.requestRefill ..).trans (Quiet.reformSupply ..)
  · exact (Quiet.refl s).mono (by omega)

theorem Quiet.primeWithdrawn (s : State) (c : Channel) : Quiet 1 s (s.primeWithdrawn c) := (Quiet.withdraw s _).trans (Quiet.raise _ _)

theorem Quiet.primeFails (s : State) (c : Channel) (o : Origins) : Quiet 4 s (s.primeFails c o) := by
  have h := Quiet.primeAsks s c
  rw [State.primeFails_eq]
  split
  · exact h.mono (by omega)
  · dsimp only
    split
    · exact (h.trans (Quiet.primeWithdrawn ..)).trans (Quiet.suspendLadder ..)
    · exact (h.trans (Quiet.primeWithdrawn ..)).mono (by omega)

theorem Quiet.arbitratePrimes (l : List Channel) (s : State) : Quiet (l.length * 4) s (State.arbitratePrimes l s) := by
  induction l generalizing s with
  | nil => exact (Quiet.refl s).mono (by omega)
  | cons c l ih =>
    simp only [State.arbitratePrimes]
    have hl : (c :: l).length * 4 = 4 + l.length * 4 := by simp only [List.length_cons]; omega
    split
    · exact (Quiet.refl s).mono (by omega)
    · split
      · exact (ih s).mono (by omega)
      · split
        · exact (Quiet.refl s).mono (by omega)
        · exact ((Quiet.primeFails s c _).trans (ih _)).mono (by omega)

/-! ## Reports of the station (R100 to R103) -/

theorem Quiet.serveLadders (s : State) (l : List Channel) (f : Channel → List LadderState) :
    Quiet (l.length * 1) s (l.foldl (fun t c => t.serveLadder (f c) c) s) :=
  Quiet.foldl (fun t c => Quiet.serveLadder t (f c) c) l s

theorem length_filter_channels (p : Channel → Bool) : (channels.filter p).length ≤ 6 := List.length_filter_le _ _

theorem Kept.wipeDone (s : State) (o : OpInFlight) (h : Head) : Kept 20 s (s.wipeDone o h) :=
  ((((Charges.opCharged s o wholeProgress).trans (Charges.wiped _ h)).toKept.trans (Kept.freeCarriage _)).trans
    (Quiet.serveLadders _ (channels.filter fun c => headOf c = h) fun _ => [.wipeCheck]).charges.toKept).mono
    (by have := length_filter_channels fun c => headOf c = h; omega)

theorem Kept.primeDone (s : State) (o : OpInFlight) (c : Channel) : Kept 20 s (s.primeDone o c) :=
  (((((Charges.opCharged s o wholeProgress).trans (Charges.wiped _ (headOf c))).trans
    (Quiet.withdraw _ fun op => op = .wipe (headOf c)).charges).toKept.trans (Kept.freeCarriage _)).trans
    (Quiet.serveLadders _ (channels.filter fun d => headOf d = headOf c)
      fun d => if d = c then [.wipeCheck, .primeCheck, .prime2Check] else [.wipeCheck]).charges.toKept).mono
    (by have := length_filter_channels fun d => headOf d = headOf c; omega)

/-- The carriage has docked (R109). -/
def State.dockedNow (s : State) : State := { s with service := { s.service with docked := true } }

theorem State.docks_eq (s : State) : s.docks =
    match s.service.inFlight with
    | some o => if o.running then s.dockedNow else s.dockedNow.beginSequence o
    | none => s.dockedNow := rfl

theorem Kept.dockedNow (s : State) : Kept 0 s s.dockedNow := Kept.setService s rfl rfl

theorem Kept.docks (s : State) : Kept 6 s s.docks := by
  rw [State.docks_eq]
  split
  · split
    · exact (Kept.dockedNow s).mono (by omega)
    · exact (Kept.dockedNow s).trans (Kept.beginSequence ..)
  · exact (Kept.dockedNow s).mono (by omega)

theorem Kept.respit (s : State) : Kept 0 s s.respit := by
  rcases s.respit_eq with h | ⟨o, b, v, -, -, h⟩ <;> rw [h]
  · exact (Charges.refl s).toKept
  · exact (Charges.refl s).toKept.write

theorem Kept.resetService (s : State) : Kept 0 s s.resetService := by
  have h : Kept 0 s { s with service := { s.service with pending := [] } } :=
    (Quiet.setPending s fun _ => List.Pairwise.nil).charges.toKept
  exact h.write

/-! ## The charging of a pass (R38, R51) -/

theorem Account.settle_carry_lt {a : Account} (h : a.carry < 100000000) (n : Counts) : (a.settle n).carry < 100000000 := by
  unfold Account.settle Account.passDebit
  dsimp only
  rw [Account.charge_carry]
  split
  · exact debitOf_carry_lt _ _
  · exact h

/-- The account of one channel is settled for the pass (R51). -/
def State.settleChannel (p : PassContext) (s : State) (c : Channel) : State := s.setAccount c (s.accounts[c].settle (p.counts c))

theorem State.chargePass_eq (s : State) (p : PassContext) : s.chargePass p = channels.foldl (State.settleChannel p) s := rfl

theorem Inks.settleChannel (p : PassContext) (s : State) (c : Channel) : Inks 2 s (s.settleChannel p c) := by
  have written : Inks 0 s { s with accounts := setAt s.accounts c (s.accounts[c].settle (p.counts c)) } :=
    { (Charges.refl s).toInks with
      frame := rfl
      carries := fun hs d => by
        simp only [getElem_setAt]
        split
        · exact Account.settle_carry_lt (hs c) _
        · exact hs d }
  exact (written.trans (Quiet.setAccount s c _).charges.toInks).mono (by omega)

theorem Inks.foldl {α : Type} {n : Nat} {f : State → α → State} (h : ∀ s a, Inks n s (f s a)) (l : List α) (s : State) :
    Inks (l.length * n) s (l.foldl f s) := by
  induction l generalizing s with
  | nil => exact (Charges.refl s).toInks.mono (by omega)
  | cons a l ih =>
    exact ((h s a).trans (ih _)).mono (by simp only [List.length_cons, Nat.add_mul, Nat.one_mul]; omega)

theorem Inks.chargePass (s : State) (p : PassContext) : Inks 12 s (s.chargePass p) := Inks.foldl (Inks.settleChannel p) channels s

theorem Charges.countPass (s : State) (p : PassContext) : Charges 0 s (s.countPass p) :=
  (Charges.stamp s p.fired).trans (Charges.foldl (n := 0) (fun t h => Charges.addDrops t h _) [0, 1, 2] _)

end Sys2Proof.Machine
end

section
/-!
PROOFS. The frame of the Media Feed Unit (chapter 7): what its operations leave, what they make of the motion in flight and the entry that owns
it, and that a change of the path state is reported with the record as it then stands (R117).
-/

-- One declaration at a time: side by side, the threads' stacks come near the memory limit of the check.
set_option Elab.async false

namespace Sys2Proof.Machine

/-! ## The relation -/

/-- From s to t only the lane, the queue, the wet-edge timer, the feed record and the outputs have changed; at most n events were raised, and
the residue and the tail window stay in their ranges (R121, R127). -/
structure Feeds (n : Nat) (s t : State) : Prop where
  lane : s.lane.Raised n t.lane
  frame : t = { s with lane := t.lane, queue := t.queue, wetEdge := t.wetEdge, feed := t.feed, out := t.out }
  residue : s.feed.residue < 3000000 → t.feed.residue < 3000000
  window : s.feed.window.length ≤ 4 → t.feed.window.length ≤ 4

theorem Feeds.refl (s : State) : Feeds 0 s s := ⟨.refl _, rfl, id, id⟩

theorem Feeds.trans {m n : Nat} {s t u : State} (h : Feeds m s t) (k : Feeds n t u) : Feeds (m + n) s u where
  lane := h.lane.trans k.lane
  frame := by rw [k.frame, h.frame]
  residue hr := k.residue (h.residue hr)
  window hw := k.window (h.window hw)

theorem Feeds.mono {m n : Nat} {s t : State} (h : Feeds m s t) (hmn : m ≤ n) : Feeds n s t := { h with lane := h.lane.mono hmn }

section

variable {n : Nat} {s t : State}

theorem Feeds.service (h : Feeds n s t) : t.service = s.service := by rw [h.frame]
theorem Feeds.now (h : Feeds n s t) : t.now = s.now := by rw [h.frame]
theorem Feeds.slots (h : Feeds n s t) : t.slots = s.slots := by rw [h.frame]
theorem Feeds.pass (h : Feeds n s t) : t.pass = s.pass := by rw [h.frame]
theorem Feeds.accounts (h : Feeds n s t) : t.accounts = s.accounts := by rw [h.frame]
theorem Feeds.carts (h : Feeds n s t) : t.carts = s.carts := by rw [h.frame]
theorem Feeds.supply (h : Feeds n s t) : t.supply = s.supply := by rw [h.frame]
theorem Feeds.maps (h : Feeds n s t) : t.maps = s.maps := by rw [h.frame]
theorem Feeds.stop (h : Feeds n s t) : t.stop = s.stop := by rw [h.frame]
theorem Feeds.driveEnable (h : Feeds n s t) : t.driveEnable = s.driveEnable := by rw [h.frame]
theorem Feeds.tables (h : Feeds n s t) : t.tables = s.tables := by rw [h.frame]

theorem Feeds.orderly (h : Feeds n s t) : Orderly n s t where
  lane := h.lane
  ladders hl := by rw [State.ladderInv_iff, h.service]; exact hl
  requests hr := by rw [State.requestInv_iff, h.service]; exact hr

end

/-- Whatever of queue, wet-edge timer, feed record and outputs is written besides leaves what the relation keeps. -/
theorem Feeds.write {n : Nat} {s u t : State} (h : Feeds n s u)
    (frame : t = { u with queue := t.queue, wetEdge := t.wetEdge, feed := t.feed, out := t.out } := by rfl)
    (residue : u.feed.residue < 3000000 → t.feed.residue < 3000000 := by exact id)
    (window : u.feed.window.length ≤ 4 → t.feed.window.length ≤ 4 := by exact id) : Feeds n s t :=
  h.trans (n := 0) ⟨by rw [frame]; exact .refl _, by rw [frame], residue, window⟩

theorem Feeds.raise {n : Nat} {s u : State} (h : Feeds n s u) (e : Event) : Feeds (n + 1) s (u.raise e) :=
  h.trans ⟨Lane.raised_raise .., rfl, id, id⟩

theorem Feeds.raiseCondition {n : Nat} {s u : State} (h : Feeds n s u) (r : CondRaise) : Feeds (n + 1) s (u.raiseCondition r) :=
  h.trans ⟨Lane.raised_raiseCondition .., rfl, id, id⟩

/-! ## Reports of the path state -/

/-- At most n events were raised from s to t, and what a MEDIA STATE event would carry is as it was, or has been told last. -/
structure Reports (n : Nat) (s t : State) : Prop where
  now : t.now = s.now
  lane : s.lane.Raised n t.lane
  told : t.feed.event = s.feed.event ∨ (s.lane.events.length + n ≤ 64 → ⟨s.now, t.feed.event⟩ ∈ t.lane.events)

/-- The path state is as it was, or its change has been told last. -/
def Reported (n : Nat) (s t : State) : Prop := t.now = s.now ∧ s.lane.Raised n t.lane ∧
  (t.feed.path = s.feed.path ∨ (s.lane.events.length + n ≤ 64 → ⟨s.now, t.feed.event⟩ ∈ t.lane.events))

theorem Reports.refl (s : State) : Reports 0 s s := ⟨rfl, .refl _, .inl rfl⟩

theorem Lane.Raised.length_le {n : Nat} {a b : Lane} (h : a.Raised n b) : b.events.length ≤ a.events.length + n := by
  obtain ⟨x, hx, hn⟩ := h.events
  rw [hx, List.length_append]; omega

theorem Reports.mono {m n : Nat} {s t : State} (h : Reports m s t) (hmn : m ≤ n) : Reports n s t :=
  ⟨h.now, h.lane.mono hmn, h.told.imp_right fun k hl => k (by omega)⟩

theorem Reported.mono {m n : Nat} {s t : State} (h : Reported m s t) (hmn : m ≤ n) : Reported n s t :=
  ⟨h.1, h.2.1.mono hmn, h.2.2.imp_right fun k hl => k (by omega)⟩

/-- What was told stays told while nothing that a MEDIA STATE event carries changes, or is told anew. -/
theorem told_trans {m n : Nat} {s t u : State} (hn : t.now = s.now) (hl : s.lane.Raised m t.lane) (k : Reports n t u)
    (h : s.lane.events.length + m ≤ 64 → ⟨s.now, t.feed.event⟩ ∈ t.lane.events) :
    s.lane.events.length + (m + n) ≤ 64 → ⟨s.now, u.feed.event⟩ ∈ u.lane.events := by
  intro hb
  rcases k.told with e | e
  · rw [e]; exact k.lane.mem (h (by omega))
  · rw [← hn]; exact e (by have := hl.length_le; omega)

theorem Reports.trans {m n : Nat} {s t u : State} (h : Reports m s t) (k : Reports n t u) : Reports (m + n) s u where
  now := k.now.trans h.now
  lane := h.lane.trans k.lane
  told := by
    rcases h.told with e | e
    · refine k.told.imp (fun x => x.trans e) fun x hb => ?_
      rw [← h.now]; exact x (by have := h.lane.length_le; omega)
    · exact .inr (told_trans h.now h.lane k e)

theorem Feed.path_of_event {f g : Feed} (h : f.event = g.event) : f.path = g.path := by
  simp only [Feed.event, Event.mediaState.injEq] at h
  exact h.1

theorem Reported.trans {m n : Nat} {s t u : State} (h : Reported m s t) (k : Reports n t u) : Reported (m + n) s u := by
  obtain ⟨h1, h2, h3⟩ := h
  refine ⟨k.now.trans h1, h2.trans k.lane, ?_⟩
  rcases h3 with e | e
  · refine k.told.imp (fun x => (Feed.path_of_event x).trans e) fun x hb => ?_
    rw [← h1]; exact x (by have := h2.length_le; omega)
  · exact .inr (told_trans h1 h2 k e)

theorem Reports.reported {n : Nat} {s t : State} (h : Reports n s t) : Reported n s t :=
  ⟨h.now, h.lane, h.told.imp_left Feed.path_of_event⟩

/-- A step that leaves the feed record and raises at most n events. -/
theorem Reports.of_feed {n : Nat} {s t : State} (hn : t.now = s.now) (hl : s.lane.Raised n t.lane) (hf : t.feed = s.feed) : Reports n s t :=
  ⟨hn, hl, .inl (by rw [hf])⟩

theorem Inks.reports {n : Nat} {s t : State} (h : Inks n s t) : Reports n s t := .of_feed h.now h.lane h.feed

theorem Reports.raise {n : Nat} {s u : State} (h : Reports n s u) (e : Event) : Reports (n + 1) s (u.raise e) :=
  h.trans (.of_feed rfl (Lane.raised_raise ..) rfl)

theorem Reports.raiseCondition {n : Nat} {s u : State} (h : Reports n s u) (r : CondRaise) : Reports (n + 1) s (u.raiseCondition r) :=
  h.trans (.of_feed rfl (Lane.raised_raiseCondition ..) rfl)

/-- Whatever is written that the time, the lane and a MEDIA STATE event do not read leaves the reports. -/
theorem Reports.write {n : Nat} {s u t : State} (h : Reports n s u) (hn : t.now = u.now := by rfl) (hl : t.lane = u.lane := by rfl)
    (he : t.feed.event = u.feed.event := by rfl) : Reports n s t :=
  h.trans (n := 0) ⟨hn, hl ▸ .refl _, .inl he⟩

theorem Reported.write {n : Nat} {s u t : State} (h : Reported n s u) (hn : t.now = u.now := by rfl) (hl : t.lane = u.lane := by rfl)
    (he : t.feed.event = u.feed.event := by rfl) : Reported n s t :=
  h.trans (n := 0) ⟨hn, hl ▸ .refl _, .inl he⟩

theorem Reported.raise {n : Nat} {s u : State} (h : Reported n s u) (e : Event) : Reported (n + 1) s (u.raise e) :=
  h.trans ((Reports.refl u).raise e)

/-- Writing the feed record reports a change of the path state. -/
theorem Reported.setFeed (s : State) (f : Feed) : Reported 1 s (s.setFeed f) := by
  unfold State.setFeed
  dsimp only
  split
  · refine ⟨rfl, Lane.raised_raise .., .inr fun hb => ?_⟩
    show _ ∈ (s.lane.raise s.now f.event).events
    rw [Lane.raise_events, if_pos (by omega)]
    exact List.mem_append_right _ (List.mem_singleton.2 rfl)
  next h => exact ⟨rfl, (Lane.Raised.refl _).mono (by omega), .inl (not_not.1 h).symm⟩

/-- Writing the feed record with the same figures in a new path state reports it. -/
theorem Reports.setFeed {s : State} {f : Feed} (h : f.path = s.feed.path → f.event = s.feed.event) : Reports 1 s (s.setFeed f) := by
  unfold State.setFeed
  dsimp only
  split
  · refine ⟨rfl, Lane.raised_raise .., .inr fun hb => ?_⟩
    show _ ∈ (s.lane.raise s.now f.event).events
    rw [Lane.raise_events, if_pos (by omega)]
    exact List.mem_append_right _ (List.mem_singleton.2 rfl)
  next hp => exact ⟨rfl, (Lane.Raised.refl _).mono (by omega), .inl (h (not_not.1 hp).symm)⟩

/-! ## Motions -/

/-- The motion in flight in t is that of s, moved on, paused where it was. -/
def SameMotion (s t : State) : Prop :=
  ∀ m', t.feed.motion = some m' → ∃ m, s.feed.motion = some m ∧ m'.owner = m.owner ∧ m'.paused = m.paused

theorem SameMotion.refl (s : State) : SameMotion s s := fun m h => ⟨m, h, rfl, rfl⟩

theorem SameMotion.trans {s t u : State} (h : SameMotion s t) (k : SameMotion t u) : SameMotion s u := fun m hm => by
  obtain ⟨m1, h1, h2, h3⟩ := k m hm
  obtain ⟨m2, k1, k2, k3⟩ := h m1 h1
  exact ⟨m2, k1, h2.trans k2, h3.trans k3⟩

theorem SameMotion.of_eq {s t : State} (h : t.feed.motion = s.feed.motion) : SameMotion s t := fun m hm => ⟨m, h ▸ hm, rfl, rfl⟩

theorem SameMotion.of_none {s t : State} (h : t.feed.motion = none) : SameMotion s t := fun m hm => by simp [h] at hm

/-- The entry that owned the motion of s has left the queue of t with the motion's end (R23). -/
def MotionEnds (s t : State) : Prop :=
  t.feed.motion = none ∧ ∃ m, s.feed.motion = some m ∧ t.queue = if m.owner = .entry then s.queue.tail else s.queue

/-- A feed operation in which the motion goes on under the same owner, or ends with its entry. -/
structure Senses (n : Nat) (s t : State) : Prop extends Feeds n s t where
  motion : t.queue = s.queue ∧ SameMotion s t ∨ MotionEnds s t

theorem Senses.refl (s : State) : Senses 0 s s := ⟨.refl s, .inl ⟨rfl, .refl s⟩⟩

theorem Senses.mono {m n : Nat} {s t : State} (h : Senses m s t) (hmn : m ≤ n) : Senses n s t := { h with toFeeds := h.toFeeds.mono hmn }

/-! ## Small operations -/

@[simp] theorem State.setFeed_feed (s : State) (f : Feed) : (s.setFeed f).feed = f := by
  simp only [State.setFeed]; split <;> rfl
@[simp] theorem State.setFeed_queue (s : State) (f : Feed) : (s.setFeed f).queue = s.queue := by
  simp only [State.setFeed]; split <;> rfl
@[simp] theorem State.setFeed_now (s : State) (f : Feed) : (s.setFeed f).now = s.now := by
  simp only [State.setFeed]; split <;> rfl

theorem Feeds.setFeed {n : Nat} {s u : State} (h : Feeds n s u) (f : Feed) (residue : u.feed.residue < 3000000 → f.residue < 3000000)
    (window : u.feed.window.length ≤ 4 → f.window.length ≤ 4) : Feeds (n + 1) s (u.setFeed f) := by
  refine h.trans ?_
  unfold State.setFeed
  dsimp only
  split
  · exact Feeds.raise (Feeds.write (Feeds.refl u) rfl residue window) _
  · exact (Feeds.write (Feeds.refl u) rfl residue window).mono (by omega)

theorem State.dropEntry_eq (s : State) (o : Owner) :
    s.dropEntry o = { s with queue := if o = .entry then s.queue.tail else s.queue } := by
  unfold State.dropEntry; split <;> rfl

theorem Feeds.dropEntry {n : Nat} {s u : State} (h : Feeds n s u) (o : Owner) : Feeds n s (u.dropEntry o) := by
  rw [State.dropEntry_eq]; exact h.write

/-- What redrive commands the feed motor. -/
def State.driveOf (s : State) : FeedCmd :=
  match s.feed.motion with
  | some m => if m.paused then .stop else s.feed.direction m
  | none => .stop

theorem State.redrive_eq (s : State) : s.redrive = s.driveFeed s.driveOf := by
  unfold State.redrive State.driveOf
  cases s.feed.motion <;> rfl

theorem Feeds.redrive {n : Nat} {s u : State} (h : Feeds n s u) : Feeds n s u.redrive := by
  rw [State.redrive_eq]; exact h.write

theorem Reports.redrive {n : Nat} {s u : State} (h : Reports n s u) : Reports n s u.redrive := by
  rw [State.redrive_eq]; exact h.write

theorem Reported.redrive {n : Nat} {s u : State} (h : Reported n s u) : Reported n s u.redrive := by
  rw [State.redrive_eq]; exact h.write

theorem Reported.dropEntry {n : Nat} {s u : State} (h : Reported n s u) (o : Owner) : Reported n s (u.dropEntry o) := by
  rw [State.dropEntry_eq]; exact h.write

@[simp] theorem State.redrive_queue (s : State) : s.redrive.queue = s.queue := by rw [State.redrive_eq]; rfl
@[simp] theorem State.redrive_feed (s : State) : s.redrive.feed = s.feed := by rw [State.redrive_eq]; rfl

@[simp] theorem Feed.reband_path (now : Nat) (f : Feed) : (f.reband now).path = f.path := rfl
theorem Feed.reband_event (now : Nat) (f : Feed) : (f.reband now).event = f.event := rfl

theorem Feed.reband_motion {now : Nat} {f : Feed} {m' : Motion} (h : (f.reband now).motion = some m') :
    ∃ m, f.motion = some m ∧ m'.work = m.work ∧ m'.owner = m.owner ∧ m'.paused = m.paused ∧ m'.count = m.count := by
  simp only [Feed.reband, Option.map_eq_some_iff] at h
  obtain ⟨m, hm, rfl⟩ := h
  exact ⟨m, hm, by simp, by simp, by simp, by simp⟩

/-! ## Jams and media gone -/

theorem State.jam_of_none {s : State} (h : s.feed.motion = none) (c : JamCause) : s.jam c = s := by
  unfold State.jam; rw [h]

/-- The feed or cutter drive stops with the motion. -/
def State.driveStopped (s : State) (k : MotionKind) : State := if k = .cut then s.driveCutter .stop else s.driveFeed .stop

theorem State.jam_eq {s : State} {m : Motion} (h : s.feed.motion = some m) (c : JamCause) : s.jam c =
    (((s.setFeed { s.feed with path := .jammed, motion := none, jam := some c }).driveStopped m.work.kind).raiseCondition
      (.jam c)).dropEntry m.owner := by
  unfold State.jam; rw [h]; rfl

theorem Feeds.driveStopped {n : Nat} {s u : State} (h : Feeds n s u) (k : MotionKind) : Feeds n s (u.driveStopped k) := by
  unfold State.driveStopped; split <;> exact h.write

@[simp] theorem State.driveStopped_queue (s : State) (k : MotionKind) : (s.driveStopped k).queue = s.queue := by
  unfold State.driveStopped; split <;> rfl
@[simp] theorem State.driveStopped_feed (s : State) (k : MotionKind) : (s.driveStopped k).feed = s.feed := by
  unfold State.driveStopped; split <;> rfl

theorem Senses.jam (s : State) (c : JamCause) : Senses 2 s (s.jam c) := by
  cases hm : s.feed.motion with
  | none => rw [State.jam_of_none hm]; exact (Senses.refl s).mono (by omega)
  | some m =>
    rw [State.jam_eq hm]
    refine ⟨((((Feeds.refl s).setFeed _ (by exact id) (by exact id)).driveStopped _).raiseCondition _).dropEntry _, .inr ⟨?_, m, hm, ?_⟩⟩
    · rw [State.dropEntry_eq]; simp
    · rw [State.dropEntry_eq]; simp

theorem Reported.jam (s : State) (c : JamCause) : Reported 2 s (s.jam c) := by
  cases hm : s.feed.motion with
  | none => rw [State.jam_of_none hm]; exact ((Reports.refl s).mono (by omega)).reported
  | some m =>
    rw [State.jam_eq hm]
    refine Reported.dropEntry (Reported.trans ?_ ((Reports.refl _).raiseCondition _)) _
    unfold State.driveStopped
    split <;> exact (Reported.setFeed s _).write

theorem Senses.mediaOut (s : State) : Senses 1 s s.mediaOut :=
  ⟨((Feeds.refl s).setFeed s.feed.cleared (fun _ => by show 0 < 3000000; omega) (fun _ => by show 0 ≤ 4; omega)).write,
    .inl ⟨by show (s.setFeed _).queue = _; simp, .of_none (by show (s.setFeed _).feed.motion = none; simp [Feed.cleared])⟩⟩

theorem Feeds.mediaOut (s : State) : Feeds 1 s s.mediaOut :=
  ((Feeds.refl s).setFeed s.feed.cleared (fun _ => by show 0 < 3000000; omega) (fun _ => by show 0 ≤ 4; omega)).write

theorem Reported.mediaOut (s : State) : Reported 1 s s.mediaOut := (Reported.setFeed s _).write

/-! ## Tail events -/

theorem Feeds.checkTail {n : Nat} {s u : State} (h : Feeds n s u) : Feeds (n + 1) s u.checkTail := by
  unfold State.checkTail State.tailOut
  split
  · exact h.setFeed _ (by exact id) (by exact id)
  · exact h.mono (by omega)

theorem Reports.checkTail {n : Nat} {s u : State} (h : Reports n s u) : Reports (n + 1) s u.checkTail := by
  unfold State.checkTail State.tailOut
  split
  next hc =>
    simp only [Bool.and_eq_true, decide_eq_true_eq] at hc
    exact h.trans (Reports.setFeed fun hp => by rw [hc.1] at hp; cases hp)
  next => exact h.mono (by omega)

theorem Reported.checkTail {n : Nat} {s u : State} (h : Reported n s u) : Reported (n + 1) s u.checkTail :=
  (h.trans (Reports.refl u).checkTail).mono (by omega)

theorem State.checkTail_motion (s : State) : s.checkTail.feed.motion = s.feed.motion := by
  unfold State.checkTail State.tailOut; split <;> simp

theorem State.checkTail_queue (s : State) : s.checkTail.queue = s.queue := by
  unfold State.checkTail State.tailOut; split <;> simp

theorem Senses.checkTail (s : State) : Senses 1 s s.checkTail :=
  ⟨(Feeds.refl s).checkTail, .inl ⟨s.checkTail_queue, .of_eq s.checkTail_motion⟩⟩

end Sys2Proof.Machine
end

section
/-!
PROOFS. The frame of loads, advances, cuts, ejects and unloads (7.2 to 7.8), and of what a digital input or a stop does to them.
-/

-- One declaration at a time: side by side, the threads' stacks come near the memory limit of the check.
set_option Elab.async false

namespace Sys2Proof.Machine

/-- Setting the motion in flight, with the settle band measured again, and driving it. -/
def State.withMotion (s : State) (m : Motion) : State :=
  ({ s with feed := ({ s.feed with motion := some m } : Feed).reband s.now } : State).redrive

theorem Feeds.withMotion (s : State) (m : Motion) : Feeds 0 s (s.withMotion m) :=
  Feeds.redrive (Feeds.refl s).write

theorem Reports.withMotion (s : State) (m : Motion) : Reports 0 s (s.withMotion m) :=
  Reports.redrive (Reports.refl s).write

theorem SameMotion.withMotion {s : State} {m m0 : Motion} (h : s.feed.motion = some m0) (ho : m.owner = m0.owner)
    (hp : m.paused = m0.paused) : SameMotion s (s.withMotion m) := fun m' hm' => by
  rw [State.withMotion, State.redrive_feed] at hm'
  obtain ⟨m1, h1, -, h3, h4, -⟩ := Feed.reband_motion hm'
  cases h1
  exact ⟨m0, h, h3.trans ho, h4.trans hp⟩

theorem Senses.withMotion {s : State} {m m0 : Motion} (h : s.feed.motion = some m0) (ho : m.owner = m0.owner)
    (hp : m.paused = m0.paused) : Senses 0 s (s.withMotion m) :=
  ⟨Feeds.withMotion s m, .inl ⟨by rw [State.withMotion, State.redrive_queue], .withMotion h ho hp⟩⟩

/-- A feed operation that leaves the queue and moves the motion on, after another that does so. -/
theorem Senses.of_same {n : Nat} {s t : State} (h : Feeds n s t) (hq : t.queue = s.queue) (hm : SameMotion s t) : Senses n s t :=
  ⟨h, .inl ⟨hq, hm⟩⟩

/-! ## Loads (R118 to R120) -/

/-- The record once a load has failed (R119). -/
def Feed.unloaded (f : Feed) : Feed := { f with path := .empty, source := none, profile := none, rollRemaining := none, motion := none }

/-- A load fails, told with the skew of its last check (R119). -/
def State.loadFailed (s : State) (why : LoadFailReason) (skew : Option Nat) : State :=
  ((s.raise (.loadFailed s.feed.source s.feed.profile why s.feed.attempt skew)).setFeed s.feed.unloaded).driveFeed .stop

theorem State.loadFails_cases (s : State) (why : LoadFailReason) : s.loadFails why = s ∨
    ∃ m ph st e0 e1 skew, s.feed.motion = some m ∧ m.work = .load ph st e0 e1 skew ∧ s.loadFails why = s.loadFailed why skew := by
  unfold State.loadFails
  split
  next h => exact .inr ⟨_, _, _, _, _, _, h, rfl, rfl⟩
  next => exact .inl rfl

theorem Senses.loadFailed (s : State) (why : LoadFailReason) (skew : Option Nat) : Senses 2 s (s.loadFailed why skew) :=
  .of_same (((Feeds.refl s).raise _).setFeed s.feed.unloaded (by exact id) (by exact id)).write
    (by show (State.setFeed _ _).queue = _; simp) (.of_none (by show (State.setFeed _ _).feed.motion = none; simp [Feed.unloaded]))

theorem Reported.loadFailed (s : State) (why : LoadFailReason) (skew : Option Nat) : Reported 2 s (s.loadFailed why skew) := by
  have h := Reported.setFeed (s.raise (.loadFailed s.feed.source s.feed.profile why s.feed.attempt skew)) s.feed.unloaded
  have raised := (Reports.refl s).raise (.loadFailed s.feed.source s.feed.profile why s.feed.attempt skew)
  obtain ⟨h1, h2, h3⟩ := h
  refine Reported.write (u := State.setFeed _ s.feed.unloaded) ⟨h1, raised.lane.trans h2, h3.imp_right fun k hb => ?_⟩
  exact k (by have := raised.lane.length_le; omega)

theorem Senses.loadFails (s : State) (why : LoadFailReason) : Senses 2 s (s.loadFails why) := by
  rcases s.loadFails_cases why with h | ⟨_, _, _, _, _, skew, _, _, h⟩ <;> rw [h]
  · exact (Senses.refl s).mono (by omega)
  · exact .loadFailed s why skew

theorem Reported.loadFails (s : State) (why : LoadFailReason) : Reported 2 s (s.loadFails why) := by
  rcases s.loadFails_cases why with h | ⟨_, _, _, _, _, skew, _, _, h⟩ <;> rw [h]
  · exact ((Reports.refl s).mono (by omega)).reported
  · exact .loadFailed s why skew

/-- The skew limit of the bound profile (R120). -/
def State.skewLimit (s : State) : Nat :=
  match s.feed.profile with
  | some p => s.tables.profile[p].skewLimit
  | none => 0

/-- The later edge is at rest: ALIGNING (R120). -/
def State.aligning (s : State) : State := s.setFeed { s.feed with path := .aligning }

/-- The record once a load has succeeded (R120). -/
def Feed.loaded (f : Feed) : Feed := { f with path := .ready, pos := some 0, target := some 0, tail := none, motion := none }

/-- The media back-feeds after a skew beyond the limit (R120). -/
def Motion.retrying (m : Motion) (skew : Nat) : Motion := { m with work := .load .retry m.count none none (some skew) }

theorem State.loadRests_eq {s : State} {m : Motion} {st : Int} {a b : Int} {x : Option Nat} (hm : s.feed.motion = some m)
    (hw : m.work = .load .toRest st (some a) (some b) x) : s.loadRests =
      if skewOf a b ≤ s.skewLimit then ((s.aligning.setFeed s.aligning.feed.loaded).driveFeed .stop).checkTail
      else s.aligning.withMotion (m.retrying (skewOf a b)) := by
  have hn : s.aligning.now = s.now := State.setFeed_now ..
  unfold State.loadRests State.withMotion State.skewLimit
  rw [hm]
  simp only [hw]
  refine ite_congr rfl (fun _ => rfl) fun _ => ?_
  exact congrArg (fun k => ({ s.aligning with
    feed := ({ s.aligning.feed with motion := some (m.retrying (skewOf a b)) } : Feed).reband k } : State).redrive) hn.symm

theorem State.loadRests_cases (s : State) : s.loadRests = s ∨
    ∃ m st a b x, s.feed.motion = some m ∧ m.work = .load .toRest st (some a) (some b) x := by
  unfold State.loadRests
  split
  next m hm =>
    split
    next h => exact .inr ⟨m, _, _, _, _, hm, h⟩
    next => exact .inl rfl
  next => exact .inl rfl

theorem Feeds.aligning (s : State) : Feeds 1 s s.aligning := (Feeds.refl s).setFeed _ (by exact id) (by exact id)

@[simp] theorem State.aligning_queue (s : State) : s.aligning.queue = s.queue := State.setFeed_queue ..
@[simp] theorem State.aligning_feed (s : State) : s.aligning.feed = { s.feed with path := .aligning } := State.setFeed_feed ..

theorem Senses.loadRests (s : State) : Senses 3 s s.loadRests := by
  rcases s.loadRests_cases with h | ⟨m, st, a, b, x, hm, hw⟩
  · rw [h]; exact (Senses.refl s).mono (by omega)
  · rw [State.loadRests_eq hm hw]
    split
    · refine .of_same (Feeds.write ((Feeds.aligning s).setFeed s.aligning.feed.loaded ?_ ?_)).checkTail ?_ (.of_none ?_)
      · exact id
      · exact id
      · rw [State.checkTail_queue]; show (State.setFeed _ _).queue = _; simp
      · rw [State.checkTail_motion]; show (State.setFeed _ _).feed.motion = none; simp [Feed.loaded]
    · have h := Senses.withMotion (s := s.aligning) (m := m.retrying (skewOf a b)) (m0 := m) (by simp [hm]) rfl rfl
      refine .of_same (((Feeds.aligning s).trans h.toFeeds).mono (by omega)) ?_ ?_
      · simp [State.withMotion]
      · exact SameMotion.trans (.of_eq (by simp)) (SameMotion.withMotion (m0 := m) (by simp [hm]) rfl rfl)

theorem Reports.aligning (s : State) : Reports 1 s s.aligning :=
  Reports.setFeed fun h => by
    have : ({ s.feed with path := .aligning } : Feed) = s.feed := by rw [show PathState.aligning = s.feed.path from h]
    rw [this]

theorem Reported.loadRests (s : State) : Reported 3 s s.loadRests := by
  rcases s.loadRests_cases with h | ⟨m, st, a, b, x, hm, hw⟩
  · rw [h]; exact ((Reports.refl s).mono (by omega)).reported
  · rw [State.loadRests_eq hm hw]
    split
    · have ready : Reports 1 s.aligning (s.aligning.setFeed s.aligning.feed.loaded) :=
        Reports.setFeed fun h => by simp [Feed.loaded] at h
      exact ((Reports.aligning s).trans ready).write.checkTail.reported
    · exact (((Reports.aligning s).trans (Reports.withMotion ..)).mono (by omega)).reported

/-- A new attempt of a load in LOADING (R120). -/
def State.reattempted (s : State) (m : Motion) (skew : Option Nat) : State :=
  (s.setFeed { s.feed with path := .loading, attempt := s.feed.attempt + 1, motion := some (s.beginAttempt m skew) }).redrive

theorem State.retryDone_cases (s : State) : s.retryDone = s ∨
    ∃ m st e0 e1 skew, s.feed.motion = some m ∧ m.work = .load .retry st e0 e1 skew ∧
      s.retryDone = if 3 ≤ s.feed.attempt then s.loadFails .skew else s.reattempted m skew := by
  unfold State.retryDone
  split
  next m hm =>
    split
    next h => exact .inr ⟨m, _, _, _, _, hm, h, rfl⟩
    next => exact .inl rfl
  next => exact .inl rfl

theorem Senses.reattempted {s : State} {m : Motion} (hm : s.feed.motion = some m) (skew : Option Nat) : Senses 1 s (s.reattempted m skew) := by
  refine .of_same (Feeds.setFeed (Feeds.refl s) _ (by exact id) (by exact id)).redrive ?_ fun m' h => ?_
  · simp [State.reattempted]
  · simp only [State.reattempted, State.redrive_feed, State.setFeed_feed, Option.some.injEq] at h
    exact ⟨m, hm, by rw [← h]; rfl, by rw [← h]; rfl⟩

theorem Senses.retryDone (s : State) : Senses 2 s s.retryDone := by
  rcases s.retryDone_cases with h | ⟨m, _, _, _, skew, hm, _, h⟩ <;> rw [h]
  · exact (Senses.refl s).mono (by omega)
  · split
    · exact Senses.loadFails ..
    · exact (Senses.reattempted hm skew).mono (by omega)

theorem Reported.retryDone (s : State) : Reported 2 s s.retryDone := by
  rcases s.retryDone_cases with h | ⟨m, _, _, _, skew, hm, _, h⟩ <;> rw [h]
  · exact ((Reports.refl s).mono (by omega)).reported
  · split
    · exact Reported.loadFails ..
    · exact ((Reported.setFeed s _).redrive).mono (by omega)

theorem State.loadSensor_cases (s : State) (left level : Bool) : s.loadSensor left level = s ∨
    ∃ m m' : Motion, s.feed.motion = some m ∧ m'.owner = m.owner ∧ m'.paused = m.paused ∧
      (s.loadSensor left level = s.withMotion m' ∨
        s.loadSensor left level = ({ s with feed := { s.feed with motion := some m' } } : State).redrive) := by
  unfold State.loadSensor
  split
  next m hm =>
    split
    · split
      · exact .inr ⟨m, _, hm, by rfl, by rfl, .inl rfl⟩
      · exact .inl rfl
    · split
      · exact .inr ⟨m, _, hm, by rfl, by rfl, .inr rfl⟩
      · exact .inl rfl
    · exact .inl rfl
  next => exact .inl rfl

theorem Senses.loadSensor (s : State) (left level : Bool) : Senses 0 s (s.loadSensor left level) := by
  rcases s.loadSensor_cases left level with h | ⟨m, m', hm, ho, hp, h | h⟩ <;> rw [h]
  · exact Senses.refl s
  · exact Senses.withMotion hm ho hp
  · refine .of_same (Feeds.redrive (Feeds.refl s).write) (by simp) fun x hx => ?_
    simp only [State.redrive_feed, Option.some.injEq] at hx
    exact ⟨m, hm, hx ▸ ho, hx ▸ hp⟩

theorem Reports.loadSensor (s : State) (left level : Bool) : Reports 0 s (s.loadSensor left level) := by
  rcases s.loadSensor_cases left level with h | ⟨m, m', hm, ho, hp, h | h⟩ <;> rw [h]
  · exact Reports.refl s
  · exact Reports.withMotion ..
  · exact Reports.redrive (Reports.refl s).write

/-! ## Advances (R121 to R126) -/

theorem Feeds.useRoll {n : Nat} {s u : State} (h : Feeds n s u) (d : Nat) : Feeds (n + 1) s (u.useRoll d) := by
  unfold State.useRoll
  split
  · exact h.mono (by omega)
  · dsimp only
    split
    · exact Feeds.raise h.write _
    · exact (Feeds.write h).mono (by omega)

theorem State.useRoll_queue (s : State) (d : Nat) : (s.useRoll d).queue = s.queue := by
  unfold State.useRoll
  split
  · rfl
  · dsimp only; split <;> rfl

theorem State.useRoll_motion (s : State) (d : Nat) : (s.useRoll d).feed.motion = s.feed.motion := by
  unfold State.useRoll
  split
  · rfl
  · dsimp only; split <;> rfl

theorem State.useRoll_path (s : State) (d : Nat) : (s.useRoll d).feed.path = s.feed.path := by
  unfold State.useRoll
  split
  · rfl
  · dsimp only; split <;> rfl

/-- MEDIA SHORT of an advance that stops at the tail position (R125). -/
def State.tellShort (s : State) (d n : Nat) (short : Bool) (rest : Nat) : State :=
  if short then s.raise (.mediaShort .short d n rest) else s

/-- The record once an advance has ended (R122, R125). -/
def Feed.advanced (f : Feed) (short : Bool) : Feed := { f with motion := none, target := if short then f.tail else f.target }

/-- The advance at rest: its record set, and MEDIA SHORT queued where it stopped at the tail (R125). -/
def State.advanceAtRest (s : State) (d n : Nat) (short : Bool) : State :=
  ({ s with feed := s.feed.advanced short } : State).tellShort d n short (s.feed.target.getD 0 - s.feed.pos.getD 0)

theorem State.advanceDone_eq {s : State} {m : Motion} {d n : Nat} {short : Bool} (hm : s.feed.motion = some m)
    (hw : m.work = .advance d n short) : s.advanceDone = ((s.advanceAtRest d n short).driveFeed .stop).dropEntry m.owner := by
  obtain ⟨w, o, p, c, b, g, x⟩ := m
  cases hw
  unfold State.advanceDone
  rw [hm]
  rfl

theorem State.advanceDone_cases (s : State) : s.advanceDone = s ∨
    ∃ m d n short, s.feed.motion = some m ∧ m.work = .advance d n short := by
  unfold State.advanceDone
  split
  next h => exact .inr ⟨_, _, _, _, h, rfl⟩
  next => exact .inl rfl

theorem Feeds.tellShort {n : Nat} {s u : State} (h : Feeds n s u) (d k : Nat) (short : Bool) (rest : Nat) :
    Feeds (n + 1) s (u.tellShort d k short rest) := by
  unfold State.tellShort
  split
  · exact h.raise _
  · exact h.mono (by omega)

@[simp] theorem State.tellShort_queue (s : State) (d n : Nat) (b : Bool) (r : Nat) : (s.tellShort d n b r).queue = s.queue := by
  unfold State.tellShort; split <;> rfl
@[simp] theorem State.tellShort_feed (s : State) (d n : Nat) (b : Bool) (r : Nat) : (s.tellShort d n b r).feed = s.feed := by
  unfold State.tellShort; split <;> rfl
@[simp] theorem State.tellShort_now (s : State) (d n : Nat) (b : Bool) (r : Nat) : (s.tellShort d n b r).now = s.now := by
  unfold State.tellShort; split <;> rfl

theorem Feeds.advanceAtRest (s : State) (d n : Nat) (short : Bool) : Feeds 1 s (s.advanceAtRest d n short) :=
  Feeds.tellShort (Feeds.refl s).write ..

@[simp] theorem State.advanceAtRest_queue (s : State) (d n : Nat) (b : Bool) : (s.advanceAtRest d n b).queue = s.queue := by
  simp [State.advanceAtRest]
@[simp] theorem State.advanceAtRest_feed (s : State) (d n : Nat) (b : Bool) : (s.advanceAtRest d n b).feed = s.feed.advanced b := by
  simp [State.advanceAtRest]

theorem Senses.advanceDone (s : State) : Senses 1 s s.advanceDone := by
  rcases s.advanceDone_cases with h | ⟨m, d, n, short, hm, hw⟩
  · rw [h]; exact (Senses.refl s).mono (by omega)
  · rw [State.advanceDone_eq hm hw]
    refine ⟨Feeds.dropEntry (Feeds.advanceAtRest s d n short).write _, .inr ⟨?_, m, hm, ?_⟩⟩
    · rw [State.dropEntry_eq]; show (s.advanceAtRest d n short).feed.motion = none; simp [Feed.advanced]
    · rw [State.dropEntry_eq]
      show (if m.owner = .entry then (s.advanceAtRest d n short).queue.tail else (s.advanceAtRest d n short).queue) = _
      simp

theorem State.advanceDone_path (s : State) : s.advanceDone.feed.path = s.feed.path := by
  rcases s.advanceDone_cases with h | ⟨m, d, n, short, hm, hw⟩
  · rw [h]
  · rw [State.advanceDone_eq hm hw, State.dropEntry_eq]
    show (s.advanceAtRest d n short).feed.path = _
    simp [Feed.advanced]

theorem Reported.of_path {n : Nat} {s t : State} (h : Feeds n s t) (hp : t.feed.path = s.feed.path) : Reported n s t :=
  ⟨h.now, h.lane, .inl hp⟩

/-- The record as an advance starts (R121). -/
def State.advanceFeed (s : State) (d : Nat) : Feed :=
  { s.feed with
    residue := (s.advanceFigures d).2
    target := s.feed.target.map fun t => min (t + (s.advanceFigures d).1) 4294967295
    motion := some (newMotion s.now (.advance d (s.advanceFigures d).1 false) .entry) }

/-- The entry ACTIVE with its counts, the record set, and the roll used (R121, R126). -/
def State.advanceSet (s : State) (d : Nat) (short : Bool) (rest : List Entry) : State :=
  ({ s with
    queue := ⟨.advance d (some (s.advanceFigures d).1) (some (s.advanceFigures d).1) short, .active⟩ :: rest
    feed := (s.advanceFeed d).reband s.now } : State).useRoll d

theorem State.startAdvance_eq (s : State) (d : Nat) (short : Bool) (rest : List Entry) : s.startAdvance d short rest =
    if (s.advanceFigures d).1 = 0 then (s.advanceSet d short rest).advanceDone else (s.advanceSet d short rest).redrive := rfl

theorem advanceCounts_residue_lt (d : Nat) (c : Int) (r : Nat) : (advanceCounts d c r).2 < 3000000 := Nat.mod_lt _ (by omega)

theorem Feeds.advanceSet (s : State) (d : Nat) (short : Bool) (rest : List Entry) : Feeds 1 s (s.advanceSet d short rest) :=
  Feeds.useRoll ((Feeds.refl s).write rfl fun _ => advanceCounts_residue_lt ..) d

theorem Feeds.startAdvance (s : State) (d : Nat) (short : Bool) (rest : List Entry) : Feeds 2 s (s.startAdvance d short rest) := by
  rw [State.startAdvance_eq]
  split
  · exact (Feeds.advanceSet ..).trans (Senses.advanceDone _).toFeeds
  · exact (Feeds.advanceSet ..).redrive.mono (by omega)

theorem State.startAdvance_path (s : State) (d : Nat) (short : Bool) (rest : List Entry) :
    (s.startAdvance d short rest).feed.path = s.feed.path := by
  have h : (s.advanceSet d short rest).feed.path = s.feed.path := by rw [State.advanceSet, State.useRoll_path]; rfl
  rw [State.startAdvance_eq]
  split
  · rw [State.advanceDone_path, h]
  · rw [State.redrive_feed, h]

/-! ## Encoder counts -/

theorem Feed.stopAtTail_cases (f : Feed) : f.stopAtTail = f ∨
    ∃ m m' : Motion, f.motion = some m ∧ m'.owner = m.owner ∧ m'.paused = m.paused ∧ m'.work.kind = m.work.kind ∧
      f.stopAtTail = { f with motion := some m' } := by
  unfold Feed.stopAtTail
  split
  next m hm =>
    split
    next h _ _ _ _ =>
      split
      · exact .inr ⟨m, _, hm, by rfl, by rfl, by simp [h, MotionWork.kind], rfl⟩
      · exact .inl rfl
    next => exact .inl rfl
  next => exact .inl rfl

/-- The feed record after an encoder report, before the entry follows (R122). -/
def State.encoded (s : State) (delta : Int) : Feed := ((s.feed.moveMotion s.now delta).move delta).stopAtTail.reband s.now

theorem State.encoder_eq (s : State) (delta : Int) : s.encoder delta =
    (({ s with feed := s.encoded delta } : State).trackEntry).redrive := rfl

theorem Feed.move_cases (f : Feed) (delta : Int) : ∃ p, f.move delta = { f with pos := p } := by
  unfold Feed.move
  split
  · exact ⟨f.pos, rfl⟩
  · exact ⟨_, rfl⟩

/-- What an encoder report leaves of the record: it changes the position and the motion in flight, which keeps its owner. -/
theorem State.encoded_frame (s : State) (delta : Int) :
    ∃ p m, s.encoded delta = { s.feed with pos := p, motion := m } ∧
      ∀ m', m = some m' → ∃ m0, s.feed.motion = some m0 ∧ m'.owner = m0.owner ∧ m'.paused = m0.paused := by
  obtain ⟨p, hp⟩ := Feed.move_cases (s.feed.moveMotion s.now delta) delta
  have moved : ∀ m1, (s.feed.moveMotion s.now delta).motion = some m1 →
      ∃ m0, s.feed.motion = some m0 ∧ m1.owner = m0.owner ∧ m1.paused = m0.paused := by
    intro m1 h1
    simp only [Feed.moveMotion, Option.map_eq_some_iff] at h1
    obtain ⟨m0, h0, rfl⟩ := h1
    exact ⟨m0, h0, rfl, rfl⟩
  rcases Feed.stopAtTail_cases ((s.feed.moveMotion s.now delta).move delta) with h | ⟨m1, m2, h1, ho, hpa, -, h⟩
  · refine ⟨p, (s.encoded delta).motion, ?_, fun m' hm' => ?_⟩
    · unfold State.encoded; rw [h, hp]; rfl
    · unfold State.encoded at hm'
      obtain ⟨m3, h3, -, h5, h6, -⟩ := Feed.reband_motion hm'
      rw [h, hp] at h3
      obtain ⟨m0, h0, ho, hpa⟩ := moved m3 h3
      exact ⟨m0, h0, h5.trans ho, h6.trans hpa⟩
  · refine ⟨p, (s.encoded delta).motion, ?_, fun m' hm' => ?_⟩
    · unfold State.encoded; rw [h, hp]; rfl
    · unfold State.encoded at hm'
      obtain ⟨m3, h3, -, h5, h6, -⟩ := Feed.reband_motion hm'
      rw [h] at h3
      cases h3
      rw [hp] at h1
      obtain ⟨m0, h0, k1, k2⟩ := moved m1 h1
      exact ⟨m0, h0, h5.trans (ho.trans k1), h6.trans (hpa.trans k2)⟩

theorem State.trackEntry_eq (s : State) : s.trackEntry = { s with queue := s.trackEntry.queue } := by
  unfold State.trackEntry
  split <;> rfl

theorem Feeds.encoder (s : State) (delta : Int) : Feeds 0 s (s.encoder delta) := by
  obtain ⟨p, m, h, -⟩ := s.encoded_frame delta
  rw [State.encoder_eq, State.trackEntry_eq]
  refine Feeds.redrive (Feeds.write (Feeds.write (u := s) (t := { s with feed := s.encoded delta }) (Feeds.refl s) rfl ?_ ?_))
  · rw [h]; exact id
  · rw [h]; exact id

theorem State.encoder_feed (s : State) (delta : Int) : (s.encoder delta).feed = s.encoded delta := by
  rw [State.encoder_eq, State.redrive_feed, State.trackEntry_eq]

theorem State.encoder_path (s : State) (delta : Int) : (s.encoder delta).feed.path = s.feed.path := by
  obtain ⟨p, m, h, -⟩ := s.encoded_frame delta
  rw [State.encoder_feed, h]

theorem SameMotion.encoder (s : State) (delta : Int) : SameMotion s (s.encoder delta) := fun m' hm' => by
  obtain ⟨p, m, h, k⟩ := s.encoded_frame delta
  rw [State.encoder_feed, h] at hm'
  exact k m' hm'

end Sys2Proof.Machine
end

section
/-!
PROOFS. The frame of cuts, ejects, unloads, of the feed unit's inputs, and of what a pass, a stop, an ABORT and a reset do to the feed record
(7.2, 7.6 to 7.10).
-/

-- One declaration at a time: side by side, the threads' stacks come near the memory limit of the check.
set_option Elab.async false

namespace Sys2Proof.Machine

/-! ## Starts -/

/-- The motion of a cut as it is driven across the media (R129). -/
def Motion.cutting (m : Motion) (now : Nat) : Motion := { m with work := .cut (now + 4000) false, paused := false }

theorem State.driveCut_eq (s : State) (m : Motion) : s.driveCut m =
    ({ s with feed := { s.feed with cutter := .cutting, motion := some (m.cutting s.now) } } : State).driveCutter .across := rfl

theorem Feeds.driveCut {n : Nat} {s u : State} (h : Feeds n s u) (m : Motion) : Feeds n s (u.driveCut m) := h.write

theorem Reported.driveCut {n : Nat} {s u : State} (h : Reported n s u) (m : Motion) : Reported n s (u.driveCut m) := h.write

/-- The CUT entry ACTIVE and the path CUTTING (R129). -/
def State.cutEntered (s : State) (rest : List Entry) : State :=
  ({ s with queue := ⟨.cut, .active⟩ :: rest } : State).setFeed { s.feed with path := .cutting, beforeCut := s.feed.path }

theorem State.startCut_eq (s : State) (rest : List Entry) :
    s.startCut rest = (s.cutEntered rest).driveCut (newMotion s.now (.cut 0 false) .entry) := rfl

theorem Feeds.startCut (s : State) (rest : List Entry) : Feeds 1 s (s.startCut rest) :=
  Feeds.driveCut (Feeds.setFeed (Feeds.write (Feeds.refl s)) _ (by exact id) (by exact id)) _

theorem Reported.startCut (s : State) (rest : List Entry) : Reported 1 s (s.startCut rest) := by
  obtain ⟨h1, h2, h3⟩ := Reported.setFeed ({ s with queue := ⟨.cut, .active⟩ :: rest } : State)
    { s.feed with path := .cutting, beforeCut := s.feed.path }
  exact Reported.driveCut ⟨h1, h2, h3⟩ _

theorem State.startCut_queue (s : State) (rest : List Entry) : (s.startCut rest).queue = ⟨.cut, .active⟩ :: rest :=
  State.setFeed_queue ..

/-- An eject or unload as it starts (R131, R133). -/
def State.startOut (s : State) (p : PathState) (w : MotionWork) (o : Owner) : State :=
  (s.setFeed (({ s.feed with path := p, pos := none, target := none, motion := some (newMotion s.now w o) } : Feed).reband s.now)).redrive

theorem State.startEject_eq (s : State) (o : Owner) :
    s.startEject o = s.startOut .ejecting (.eject (if s.inactive 2 then some 0 else none)) o := rfl

theorem State.startUnload_eq (s : State) :
    s.startUnload = s.startOut .unloading (.unload (if s.inactive 2 then some 0 else none)) .request := rfl

section

variable (s : State) (p : PathState) (w : MotionWork) (o : Owner)

theorem Feeds.startOut : Feeds 1 s (s.startOut p w o) :=
  Feeds.redrive (Feeds.setFeed (Feeds.refl s) _ (by exact id) (by exact id))

theorem Reported.startOut : Reported 1 s (s.startOut p w o) := Reported.redrive (Reported.setFeed s _)

theorem State.startOut_queue : (s.startOut p w o).queue = s.queue := by simp [State.startOut]

theorem State.startOut_motion {m' : Motion} (h : (s.startOut p w o).feed.motion = some m') : m'.owner = o ∧ m'.paused = false := by
  rw [State.startOut, State.redrive_feed, State.setFeed_feed] at h
  obtain ⟨m, hm, -, ho, hp, -⟩ := Feed.reband_motion h
  cases hm
  exact ⟨ho, hp⟩

end

/-! ## Cuts that end (R129, R130, R135) -/

/-- The record once a cut has completed (R129). -/
def Feed.cutEnded (f : Feed) : Feed :=
  { f with
    cutter := .home, path := f.beforeCut, pos := some 0, target := some 0, residue := 0, window := [], motion := none
    tail := f.tail.map fun t => t - f.pos.getD 0 }

/-- The record set after a cut, a standing tail condition taken, and the gate told (R39, R124, R129). -/
def State.cutFinished (s : State) : State := (s.setFeed s.feed.cutEnded).checkTail.sheetEnds

theorem State.cutDone_eq (s : State) (m : Motion) :
    s.cutDone m = (s.cutFinished.raise (.cutDone .cut s.feed.source s.feed.rollRemaining)).dropEntry m.owner := rfl

theorem Feeds.cutFinished (s : State) : Feeds 2 s s.cutFinished :=
  Feeds.write (Feeds.checkTail (Feeds.setFeed (Feeds.refl s) s.feed.cutEnded (fun _ => by show 0 < 3000000; omega)
    fun _ => by show 0 ≤ 4; omega))

theorem Reported.cutFinished (s : State) : Reported 2 s s.cutFinished :=
  Reported.write (Reported.checkTail (Reported.setFeed s s.feed.cutEnded))

theorem State.cutFinished_queue (s : State) : s.cutFinished.queue = s.queue := by
  show (State.checkTail _).queue = _
  rw [State.checkTail_queue, State.setFeed_queue]

theorem State.cutFinished_motion (s : State) : s.cutFinished.feed.motion = none := by
  show (State.checkTail _).feed.motion = _
  rw [State.checkTail_motion, State.setFeed_feed]; rfl

theorem Senses.cutDone {s : State} {m : Motion} (hm : s.feed.motion = some m) : Senses 3 s (s.cutDone m) := by
  rw [State.cutDone_eq]
  refine ⟨((Feeds.cutFinished s).raise _).dropEntry _, .inr ⟨?_, m, hm, ?_⟩⟩
  · rw [State.dropEntry_eq]; exact s.cutFinished_motion
  · rw [State.dropEntry_eq]
    show (if m.owner = .entry then s.cutFinished.queue.tail else s.cutFinished.queue) = _
    rw [State.cutFinished_queue]

theorem Reported.cutDone (s : State) (m : Motion) : Reported 3 s (s.cutDone m) := by
  rw [State.cutDone_eq]
  exact ((Reported.cutFinished s).raise _).dropEntry _

/-- Writing the cutter state alone leaves the motion. -/
def State.withCutter (s : State) (c : CutterState) : State := { s with feed := { s.feed with cutter := c } }

theorem Senses.withCutter (s : State) (c : CutterState) : Senses 0 s (s.withCutter c) :=
  ⟨Feeds.write (Feeds.refl s), .inl ⟨rfl, .of_eq rfl⟩⟩

theorem Reports.withCutter (s : State) (c : CutterState) : Reports 0 s (s.withCutter c) := Reports.write (Reports.refl s)

theorem Senses.after_cutter {n : Nat} {s t : State} {c : CutterState} (h : Senses n (s.withCutter c) t) : Senses n s t :=
  ⟨((Senses.withCutter s c).toFeeds.trans h.toFeeds).mono (by omega), h.motion⟩

theorem Senses.cutFails (s : State) : Senses 2 s s.cutFails := Senses.after_cutter (c := s.idleCutter) (Senses.jam _ _)

theorem Reported.cutFails (s : State) : Reported 2 s s.cutFails := by
  obtain ⟨h1, h2, h3⟩ := Reported.jam (s.withCutter s.idleCutter) .cutter
  exact ⟨h1, h2, h3⟩

/-- The motion of a cut whose cutter has left its home (R129). -/
def State.cutterLeft (s : State) (m : Motion) (failAt : Nat) : State :=
  { s with feed := { s.feed with motion := some { m with work := .cut failAt true } } }

theorem State.cutterSensor_cases (s : State) (level : Bool) :
    (∃ c, s.cutterSensor level = s.withCutter c) ∨
    (∃ m failAt, s.feed.motion = some m ∧ s.cutterSensor level = s.cutterLeft m failAt) ∨
    (∃ m, s.feed.motion = some m ∧ s.cutterSensor level = s.cutDone m) ∨
    s.cutterSensor level = s.cutFails := by
  have same : s = s.withCutter s.feed.cutter := rfl
  unfold State.cutterSensor
  split
  next m hm =>
    split
    · split
      · exact .inr (.inl ⟨m, _, hm, rfl⟩)
      · split
        · split
          · exact .inr (.inr (.inl ⟨m, hm, rfl⟩))
          · exact .inr (.inr (.inr rfl))
        · exact .inl ⟨_, same⟩
    · split
      · exact .inr (.inr (.inr rfl))
      · split
        · exact .inl ⟨_, rfl⟩
        · split
          · exact .inl ⟨_, rfl⟩
          · exact .inl ⟨_, same⟩
    · exact .inl ⟨_, rfl⟩
  next => exact .inl ⟨_, rfl⟩

theorem Senses.cutterSensor (s : State) (level : Bool) : Senses 3 s (s.cutterSensor level) := by
  rcases s.cutterSensor_cases level with ⟨c, h⟩ | ⟨m, failAt, hm, h⟩ | ⟨m, hm, h⟩ | h <;> rw [h]
  · exact (Senses.withCutter s c).mono (by omega)
  · refine ⟨(Feeds.write (Feeds.refl s)).mono (by omega), .inl ⟨rfl, fun m' hm' => ?_⟩⟩
    simp only [State.cutterLeft, Option.some.injEq] at hm'
    exact ⟨m, hm, by rw [← hm'], by rw [← hm']⟩
  · exact Senses.cutDone hm
  · exact (Senses.cutFails s).mono (by omega)

theorem Reported.cutterSensor (s : State) (level : Bool) : Reported 3 s (s.cutterSensor level) := by
  rcases s.cutterSensor_cases level with ⟨c, h⟩ | ⟨m, failAt, hm, h⟩ | ⟨m, hm, h⟩ | h <;> rw [h]
  · exact ((Reports.withCutter s c).mono (by omega)).reported
  · exact ((Reports.write (Reports.refl s)).mono (n := 3) (by omega)).reported
  · exact Reported.cutDone ..
  · exact (Reported.cutFails s).mono (by omega)

/-! ## Ejects that end, and the path sensor (R124, R131, R133) -/

/-- The media out, and CUT DONE queued for an eject that a CUT entry began (R131, R136). -/
def State.ejected (s : State) (o : Owner) : State :=
  if o = .request then s.mediaOut else s.mediaOut.raise (.cutDone .eject s.feed.source s.feed.rollRemaining)

theorem State.ejectDone_eq (s : State) (m : Motion) : s.ejectDone m = (s.ejected m.owner).dropEntry m.owner := rfl

theorem Feeds.ejected (s : State) (o : Owner) : Feeds 2 s (s.ejected o) := by
  unfold State.ejected
  split
  · exact (Feeds.mediaOut s).mono (by omega)
  · exact (Feeds.mediaOut s).raise _

theorem Reported.ejected (s : State) (o : Owner) : Reported 2 s (s.ejected o) := by
  unfold State.ejected
  split
  · exact (Reported.mediaOut s).mono (by omega)
  · exact (Reported.mediaOut s).raise _

@[simp] theorem State.mediaOut_queue (s : State) : s.mediaOut.queue = s.queue := by
  show (s.setFeed _).queue = _; simp
@[simp] theorem State.mediaOut_motion (s : State) : s.mediaOut.feed.motion = none := by
  show (s.setFeed _).feed.motion = _; simp [Feed.cleared]
theorem State.ejected_queue (s : State) (o : Owner) : (s.ejected o).queue = s.queue := by
  unfold State.ejected; split <;> simp
theorem State.ejected_motion (s : State) (o : Owner) : (s.ejected o).feed.motion = none := by
  unfold State.ejected; split <;> simp

theorem Senses.ejectDone {s : State} {m : Motion} (hm : s.feed.motion = some m) : Senses 2 s (s.ejectDone m) := by
  rw [State.ejectDone_eq]
  refine ⟨(Feeds.ejected s m.owner).dropEntry _, .inr ⟨?_, m, hm, ?_⟩⟩
  · rw [State.dropEntry_eq]; exact s.ejected_motion _
  · rw [State.dropEntry_eq]; simp only [State.ejected_queue]

theorem Reported.ejectDone (s : State) (m : Motion) : Reported 2 s (s.ejectDone m) := by
  rw [State.ejectDone_eq]; exact (Reported.ejected s m.owner).dropEntry _

theorem State.pathSensorClears_cases (s : State) :
    s.pathSensorClears = s ∨ s.pathSensorClears = s.checkTail ∨ s.pathSensorClears = s.setFeed { s.feed with path := .empty } ∨
    ∃ m m' : Motion, s.feed.motion = some m ∧ m'.owner = m.owner ∧ m'.paused = m.paused ∧ s.pathSensorClears = s.withMotion m' := by
  unfold State.pathSensorClears
  split
  · exact .inr (.inl rfl)
  · exact .inr (.inr (.inl rfl))
  next m hp hm =>
    split
    · exact .inr (.inr (.inr ⟨m, _, hm, by rfl, by rfl, rfl⟩))
    · exact .inl rfl
  next m hp hm =>
    split
    · exact .inr (.inr (.inr ⟨m, _, hm, by rfl, by rfl, rfl⟩))
    · exact .inl rfl
  · exact .inl rfl

theorem Senses.pathSensorClears (s : State) : Senses 1 s s.pathSensorClears := by
  rcases s.pathSensorClears_cases with h | h | h | ⟨m, m', hm, ho, hp, h⟩ <;> rw [h]
  · exact (Senses.refl s).mono (by omega)
  · exact .checkTail s
  · exact ⟨Feeds.setFeed (Feeds.refl s) _ (by exact id) (by exact id), .inl ⟨by simp, .of_eq (by simp)⟩⟩
  · exact (Senses.withMotion hm ho hp).mono (by omega)

theorem Reported.pathSensorClears (s : State) : Reported 1 s s.pathSensorClears := by
  rcases s.pathSensorClears_cases with h | h | h | ⟨m, m', hm, ho, hp, h⟩ <;> rw [h]
  · exact ((Reports.refl s).mono (by omega)).reported
  · exact (Reports.refl s).checkTail.reported
  · exact Reported.setFeed ..
  · exact ((Reports.withMotion ..).mono (by omega)).reported

theorem State.rollEnds_cases (s : State) (i : DIn) :
    s.rollEnds i = s ∨ s.rollEnds i = s.checkTail ∨ s.rollEnds i = s.loadFails .rollEnd := by
  unfold State.rollEnds
  split
  · split
    · exact .inr (.inl rfl)
    · exact .inr (.inr rfl)
    · exact .inr (.inr rfl)
    · exact .inl rfl
  · exact .inl rfl

theorem Senses.rollEnds (s : State) (i : DIn) : Senses 2 s (s.rollEnds i) := by
  rcases s.rollEnds_cases i with h | h | h <;> rw [h]
  · exact (Senses.refl s).mono (by omega)
  · exact (Senses.checkTail s).mono (by omega)
  · exact .loadFails ..

theorem Reported.rollEnds (s : State) (i : DIn) : Reported 2 s (s.rollEnds i) := by
  rcases s.rollEnds_cases i with h | h | h <;> rw [h]
  · exact ((Reports.refl s).mono (by omega)).reported
  · exact ((Reports.refl s).checkTail.mono (by omega)).reported
  · exact .loadFails ..

/-! ## The tail window, stops and resets (R127, R135 to R137) -/

/-- The dry timer as a pass's debit sum starts it; without a profile it is left (R128). -/
def State.dryStarted (s : State) (w : List Nat) : Option Nat :=
  match s.feed.profile with
  | some i => some (s.now + dryingDelay s.tables.profile[i] w.sum (s.isCold s.tables.profile[i]))
  | none => s.feed.dryExpiry

theorem State.startDrying_eq (s : State) (sum : Nat) : s.startDrying sum = { s with feed := { s.feed with
    window := appendWindow sum s.feed.window, dryExpiry := s.dryStarted (appendWindow sum s.feed.window) } } := by
  unfold State.startDrying State.dryStarted
  cases s.feed.profile <;> rfl

theorem length_appendWindow (sum : Nat) {w : List Nat} (h : w.length ≤ 4) : (appendWindow sum w).length ≤ 4 := by
  unfold appendWindow
  split <;> simp <;> omega

theorem Feeds.startDrying {n : Nat} {s u : State} (h : Feeds n s u) (sum : Nat) : Feeds n s (u.startDrying sum) := by
  rw [State.startDrying_eq]; exact h.write rfl id (length_appendWindow sum)

theorem Reports.startDrying {n : Nat} {s u : State} (h : Reports n s u) (sum : Nat) : Reports n s (u.startDrying sum) := by
  rw [State.startDrying_eq]; exact h.write

/-- A feed operation that leaves the queue, the path record and the owner of the motion, and pauses it, or lets it go on, as the flag says. -/
structure Pauses (paused : Bool) (s t : State) : Prop extends Feeds 0 s t where
  queue : t.queue = s.queue
  reports : Reports 0 s t
  motion : ∀ m', t.feed.motion = some m' → ∃ m, s.feed.motion = some m ∧ m'.owner = m.owner ∧ m'.paused = paused

/-- The motion paused, its stall time held (R135). -/
def State.motionPaused (s : State) (m : Motion) : State :=
  ({ s with feed := { s.feed with motion := some m } } : State).redrive

theorem Pauses.motionPaused {s : State} {m m0 : Motion} {p : Bool} (h : s.feed.motion = some m0) (ho : m.owner = m0.owner)
    (hp : m.paused = p) : Pauses p s (s.motionPaused m) where
  toFeeds := Feeds.redrive (Feeds.write (Feeds.refl s))
  queue := by simp [State.motionPaused]
  reports := Reports.redrive (Reports.write (Reports.refl s))
  motion m' hm' := by
    simp only [State.motionPaused, State.redrive_feed, Option.some.injEq] at hm'
    exact ⟨m0, h, hm' ▸ ho, hm' ▸ hp⟩

/-- A cut paused, its cutter sent home (R135). -/
def State.cutPaused (s : State) (m : Motion) (left : Bool) : State :=
  ({ s with feed := { s.feed with
      cutter := .returning
      motion := some { m with work := .cut (s.now + 4000) left, paused := true } } } : State).driveCutter .home

theorem Pauses.cutPaused {s : State} {m : Motion} (h : s.feed.motion = some m) (left : Bool) : Pauses true s (s.cutPaused m left) where
  toFeeds := Feeds.write (Feeds.refl s)
  queue := rfl
  reports := Reports.write (Reports.refl s)
  motion m' hm' := by
    have hm : some ({ m with work := .cut (s.now + 4000) left, paused := true } : Motion) = some m' := hm'
    cases hm
    exact ⟨m, h, rfl, rfl⟩

theorem Pauses.driveCut {s : State} {m : Motion} (h : s.feed.motion = some m) : Pauses false s (s.driveCut m) where
  toFeeds := (Feeds.refl s).driveCut m
  queue := rfl
  reports := Reports.write (Reports.refl s)
  motion m' hm' := by
    have hm : some (m.cutting s.now) = some m' := hm'
    cases hm
    exact ⟨m, h, rfl, rfl⟩

theorem Pauses.none {s : State} (h : s.feed.motion = none) (p : Bool) : Pauses p s s where
  toFeeds := .refl s
  queue := rfl
  reports := .refl s
  motion m hm := by simp [h] at hm

theorem Pauses.pauseMotion (s : State) : Pauses true s s.pauseMotion := by
  unfold State.pauseMotion
  split
  next h => exact .none h true
  next m h =>
    split
    · exact .cutPaused h _
    · exact .motionPaused h (by simp) (by simp)

theorem Pauses.resumeMotion (s : State) : Pauses false s s.resumeMotion := by
  unfold State.resumeMotion
  split
  next h => exact .none h false
  next m h =>
    split
    · split
      · exact .driveCut h
      · exact .motionPaused h (by simp) (by simp)
    next hp => exact ⟨.refl s, rfl, .refl s, fun m' hm' => by rw [h] at hm'; cases hm'; exact ⟨m, h, rfl, by simpa using hp⟩⟩

/-- The record after ENGINE RESET (R137). -/
def State.feedAtReset (s : State) : Feed :=
  { s.feed.cleared with
    path := if s.active 2 then .held else .empty
    attempt := 0, rollLow := false, cutter := s.idleCutter }

theorem State.resetFeed_eq (s : State) : s.resetFeed = ((s.setFeed s.feedAtReset).driveFeed .stop).driveCutter .stop := rfl

theorem Feeds.resetFeed {n : Nat} {s u : State} (h : Feeds n s u) : Feeds (n + 1) s u.resetFeed :=
  Feeds.write (Feeds.setFeed h u.feedAtReset (fun _ => by show 0 < 3000000; omega) fun _ => by show 0 ≤ 4; omega)

theorem Reported.resetFeed (s : State) : Reported 1 s s.resetFeed := Reported.write (Reported.setFeed s s.feedAtReset)

@[simp] theorem State.resetFeed_queue (s : State) : s.resetFeed.queue = s.queue := by
  show (s.setFeed _).queue = _; simp
@[simp] theorem State.resetFeed_feed (s : State) : s.resetFeed.feed = s.feedAtReset := by
  show (s.setFeed s.feedAtReset).feed = _; rw [State.setFeed_feed]

end Sys2Proof.Machine
end

section
/-!
PROOFS. The operations that reach several blocks: the end of a pass, the stop latch, the filtered inputs, ABORT, ENGINE RESET and release. What each
leaves of the lane, the store, the tables, the banks and the carries, said in one relation.
-/

-- One declaration at a time: side by side, the threads' stacks come near the memory limit of the check.
set_option Elab.async false

namespace Sys2Proof.Machine

/-! ## The relation -/

/-- From s to t at most n events were raised; time, store, tables, the commands waiting and the banks Current and Next stand, Retained stands or is
emptied (R83), and the carries stay in their ranges. -/
structure Acts (n : Nat) (s t : State) : Prop extends Orderly n s t where
  now : t.now = s.now
  store : t.store = s.store
  tables : t.tables = s.tables
  waiting : t.pending = s.pending
  current : t.maps.current = s.maps.current ∧ t.maps.currentGen = s.maps.currentGen
  next : t.maps.next = s.maps.next
  retained : t.maps.retained = s.maps.retained ∨ t.maps.retained = emptyBank
  carry : s.CarryInv → t.CarryInv

theorem Acts.refl (s : State) : Acts 0 s s := ⟨.refl s, rfl, rfl, rfl, rfl, ⟨rfl, rfl⟩, rfl, .inl rfl, id⟩

theorem Acts.trans {m n : Nat} {s t u : State} (h : Acts m s t) (k : Acts n t u) : Acts (m + n) s u where
  toOrderly := h.toOrderly.trans k.toOrderly
  now := k.now.trans h.now
  store := k.store.trans h.store
  tables := k.tables.trans h.tables
  waiting := k.waiting.trans h.waiting
  current := ⟨k.current.1.trans h.current.1, k.current.2.trans h.current.2⟩
  next := k.next.trans h.next
  retained := by
    rcases k.retained with e | e
    · rw [e]; exact h.retained
    · exact .inr e
  carry hc := k.carry (h.carry hc)

theorem Acts.mono {m n : Nat} {s t : State} (h : Acts m s t) (hmn : m ≤ n) : Acts n s t := { h with toOrderly := h.toOrderly.mono hmn }

theorem Acts.foldl {α : Type} {n : Nat} {f : State → α → State} (h : ∀ s a, Acts n s (f s a)) (l : List α) (s : State) :
    Acts (l.length * n) s (l.foldl f s) := by
  induction l generalizing s with
  | nil => exact (Acts.refl s).mono (by omega)
  | cons a l ih =>
    exact ((h s a).trans (ih _)).mono (by simp only [List.length_cons, Nat.add_mul, Nat.one_mul]; omega)

/-- Whatever else is written besides leaves what the relation keeps. -/
theorem Acts.write {n : Nat} {s u t : State} (h : Acts n s u) (now : t.now = u.now := by rfl) (lane : t.lane = u.lane := by rfl)
    (store : t.store = u.store := by rfl) (tables : t.tables = u.tables := by rfl) (waiting : t.pending = u.pending := by rfl)
    (maps : t.maps = u.maps := by rfl) (ladders : t.service.ladders = u.service.ladders := by rfl)
    (requests : t.service.pending = u.service.pending := by rfl) (carry : u.CarryInv → t.CarryInv := by exact id) : Acts n s t :=
  h.trans (n := 0) ⟨.of_eq lane ladders requests, now, store, tables, waiting, by rw [maps]; exact ⟨rfl, rfl⟩, by rw [maps],
    by rw [maps]; exact .inl rfl, carry⟩

theorem Inks.acts {n : Nat} {s t : State} (h : Inks n s t) : Acts n s t where
  toOrderly := h.toOrderly
  now := h.now
  store := h.store
  tables := h.tables
  waiting := h.pending
  current := by rw [h.maps]; exact ⟨rfl, rfl⟩
  next := by rw [h.maps]
  retained := by rw [h.maps]; exact .inl rfl
  carry hc := ⟨fun c => ⟨h.carries (fun c => (hc.1 c).1) c, h.tags (fun c => (hc.1 c).2) c⟩, by rw [h.feed]; exact hc.2⟩

theorem Kept.acts {n : Nat} {s t : State} (h : Kept n s t) : Acts n s t := h.toInks.acts
theorem Charges.acts {n : Nat} {s t : State} (h : Charges n s t) : Acts n s t := h.toInks.acts
theorem Quiet.acts {n : Nat} {s t : State} (h : Quiet n s t) : Acts n s t := h.charges.acts

theorem Feeds.acts {n : Nat} {s t : State} (h : Feeds n s t) : Acts n s t where
  toOrderly := h.orderly
  now := h.now
  store := by rw [h.frame]
  tables := h.tables
  waiting := by rw [h.frame]
  current := by rw [h.frame]; exact ⟨rfl, rfl⟩
  next := by rw [h.frame]
  retained := by rw [h.frame]; exact .inl rfl
  carry hc := ⟨fun c => by rw [h.accounts, h.carts]; exact hc.1 c, h.residue hc.2.1, h.window hc.2.2⟩

theorem Acts.raise {n : Nat} {s u : State} (h : Acts n s u) (e : Event) : Acts (n + 1) s (u.raise e) := h.trans (Quiet.raise u e).acts

theorem Acts.raiseCondition {n : Nat} {s u : State} (h : Acts n s u) (r : CondRaise) : Acts (n + 1) s (u.raiseCondition r) :=
  h.trans (Quiet.raiseCondition u r).acts

theorem State.dropRetained_retained (s : State) :
    s.dropRetained.maps.retained = s.maps.retained ∨ s.dropRetained.maps.retained = emptyBank := by
  unfold State.dropRetained
  dsimp only
  split
  · exact .inl rfl
  · split
    · exact .inl rfl
    · exact .inr rfl

theorem State.dropRetained_current (s : State) : s.dropRetained.maps.current = s.maps.current ∧
    s.dropRetained.maps.currentGen = s.maps.currentGen ∧ s.dropRetained.maps.next = s.maps.next := by
  unfold State.dropRetained
  dsimp only
  split
  · exact ⟨rfl, rfl, rfl⟩
  · split <;> exact ⟨rfl, rfl, rfl⟩

theorem Acts.dropRetained {n : Nat} {s u : State} (h : Acts n s u) : Acts n s u.dropRetained := by
  obtain ⟨h1, h2, h3⟩ := u.dropRetained_current
  exact h.trans (n := 0) ⟨.of_eq rfl rfl rfl, rfl, rfl, rfl, rfl, ⟨h1, h2⟩, h3, u.dropRetained_retained, id⟩

theorem Acts.freeSlot {n : Nat} {s u : State} (h : Acts n s u) (i : SlotIx) : Acts n s (u.freeSlot i) :=
  Acts.dropRetained (Acts.write h)

/-! ## The end of a pass (R38, R40) -/

/-- The pass charged, its groups stamped and its drops counted (R38 steps 1 and 2). -/
def State.passSettled (s : State) (p : PassContext) : State := (s.chargePass p).countPass p

/-- The event of a pass's end (R38 step 4, R40). -/
def State.passEvent (s : State) (p : PassContext) (complete : Bool) : Event :=
  if complete then .swathComplete p.slot (s.passDebits p) s.slots[p.slot].withheld
  else .swathAborted p.slot p.lastCol (s.passDebits p) s.slots[p.slot].withheld

/-- Besides, the tail window, the dry timer and the event (R38 steps 3 and 4). -/
def State.passTold (s : State) (p : PassContext) (complete : Bool) : State :=
  ((s.passSettled p).startDrying (s.passDebits p).toList.sum).raise (s.passEvent p complete)

/-- The pass gone: its entry removed, the wet-edge timer set, the head drive low (R38, R40). -/
def State.passGone (s : State) (now : Nat) (complete : Bool) : State :=
  { s with
    queue := s.queue.tail
    wetEdge := if complete then some now else none
    driveEnable := false
    pass := none
    out := if complete then s.out else { s.out with carriage := .stop } }

theorem State.endPass_eq (s : State) (p : PassContext) (complete : Bool) :
    s.endPass p complete = (((s.passTold p complete).freeSlot p.slot).passGone s.now complete).freeCarriage := by
  unfold State.endPass State.passTold State.passGone State.passSettled State.passEvent
  rfl

theorem Inks.passSettled (s : State) (p : PassContext) : Inks 12 s (s.passSettled p) :=
  (Inks.chargePass s p).trans (Charges.countPass _ p).toInks

theorem Acts.startDrying {n : Nat} {s u : State} (h : Acts n s u) (x : Nat) : Acts n s (u.startDrying x) :=
  h.trans (n := 0) (Feeds.startDrying (Feeds.refl u) x).acts

theorem Acts.passTold (s : State) (p : PassContext) (complete : Bool) : Acts 13 s (s.passTold p complete) :=
  ((Inks.passSettled s p).acts.startDrying _).raise _

theorem Acts.passGone {n : Nat} {s u : State} (h : Acts n s u) (now : Nat) (complete : Bool) : Acts n s (u.passGone now complete) :=
  Acts.write h

theorem Acts.freeCarriage {n : Nat} {s u : State} (h : Acts n s u) : Acts n s u.freeCarriage := Acts.write h

theorem Acts.endPass (s : State) (p : PassContext) (complete : Bool) : Acts 13 s (s.endPass p complete) := by
  rw [State.endPass_eq]
  exact (((Acts.passTold s p complete).freeSlot p.slot).passGone s.now complete).freeCarriage

theorem State.abortPass_of_none {s : State} (h : s.pass = none) : s.abortPass = s := by
  unfold State.abortPass; rw [h]

theorem State.abortPass_of_some {s : State} {p : PassContext} (h : s.pass = some p) : s.abortPass = s.endPass p false := by
  unfold State.abortPass; rw [h]

theorem Acts.abortPass (s : State) : Acts 13 s s.abortPass := by
  cases h : s.pass with
  | none => rw [State.abortPass_of_none h]; exact (Acts.refl s).mono (by omega)
  | some p => rw [State.abortPass_of_some h]; exact Acts.endPass s p false

theorem Reports.passTold (s : State) (p : PassContext) (complete : Bool) : Reports 13 s (s.passTold p complete) :=
  ((Inks.passSettled s p).reports.startDrying _).raise (s.passEvent p complete)

theorem Reports.passGone {n : Nat} {s u : State} (h : Reports n s u) (now : Nat) (complete : Bool) : Reports n s (u.passGone now complete) :=
  Reports.write h

theorem Reports.freeSlot {n : Nat} {s u : State} (h : Reports n s u) (i : SlotIx) : Reports n s (u.freeSlot i) := Reports.write h

theorem Reports.freeCarriage {n : Nat} {s u : State} (h : Reports n s u) : Reports n s u.freeCarriage := Reports.write h

theorem Reports.endPass (s : State) (p : PassContext) (complete : Bool) : Reports 13 s (s.endPass p complete) := by
  rw [State.endPass_eq]
  exact (((Reports.passTold s p complete).freeSlot p.slot).passGone s.now complete).freeCarriage

theorem Reports.abortPass (s : State) : Reports 13 s s.abortPass := by
  cases h : s.pass with
  | none => rw [State.abortPass_of_none h]; exact (Reports.refl s).mono (by omega)
  | some p => rw [State.abortPass_of_some h]; exact Reports.endPass s p false

/-! ## The stop latch (R148) -/

/-- The latch set, the head drive low and FORCED STOP queued (R148). -/
def State.latched (s : State) (cause : StopCause) : State :=
  ({ s with stop := ⟨true, some cause⟩, driveEnable := false } : State).raise (.forcedStop cause s.now (s.pass.map (·.slot)))

theorem State.setStop_eq (s : State) (cause : StopCause) :
    s.setStop cause = if s.stop.set then s else (s.latched cause).abortPass.stopOp.pauseMotion := rfl

theorem Acts.latched (s : State) (cause : StopCause) : Acts 1 s (s.latched cause) := Acts.raise (Acts.write (Acts.refl s)) _

theorem Acts.setStop (s : State) (cause : StopCause) : Acts 31 s (s.setStop cause) := by
  rw [State.setStop_eq]
  split
  · exact (Acts.refl s).mono (by omega)
  · exact (((Acts.latched s cause).trans (Acts.abortPass _)).trans (Kept.stopOp _).acts).trans (Pauses.pauseMotion _).toFeeds.acts

theorem Reports.latched (s : State) (cause : StopCause) : Reports 1 s (s.latched cause) := Reports.raise (Reports.write (Reports.refl s)) _

theorem Reports.setStop (s : State) (cause : StopCause) : Reports 31 s (s.setStop cause) := by
  rw [State.setStop_eq]
  split
  · exact (Reports.refl s).mono (by omega)
  · exact (((Reports.latched s cause).trans (Reports.abortPass _)).trans (Kept.stopOp _).toInks.reports).trans
      (Pauses.pauseMotion _).reports

/-- Any input at its stop level sets the latch (R147). -/
def State.settleInput (s : State) (i : DIn) : State := if s.atStopLevel i then s.setStop (.input i) else s

theorem State.settlingTest_eq (s : State) : s.settlingTest = (List.finRange 16).foldl State.settleInput s := rfl

theorem Acts.settleInput (s : State) (i : DIn) : Acts 31 s (s.settleInput i) := by
  unfold State.settleInput
  split
  · exact Acts.setStop ..
  · exact (Acts.refl s).mono (by omega)

theorem Reports.settleInput (s : State) (i : DIn) : Reports 31 s (s.settleInput i) := by
  unfold State.settleInput
  split
  · exact Reports.setStop ..
  · exact (Reports.refl s).mono (by omega)

theorem Acts.settlingTest (s : State) : Acts 496 s s.settlingTest := by
  rw [State.settlingTest_eq]
  exact (Acts.foldl Acts.settleInput (List.finRange 16) s).mono (by simp)

theorem Reports.foldl {α : Type} {n : Nat} {f : State → α → State} (h : ∀ s a, Reports n s (f s a)) (l : List α) (s : State) :
    Reports (l.length * n) s (l.foldl f s) := by
  induction l generalizing s with
  | nil => exact (Reports.refl s).mono (by omega)
  | cons a l ih =>
    exact ((h s a).trans (ih _)).mono (by simp only [List.length_cons, Nat.add_mul, Nat.one_mul]; omega)

theorem Reports.settlingTest (s : State) : Reports 496 s s.settlingTest := by
  rw [State.settlingTest_eq]
  exact (Reports.foldl Reports.settleInput (List.finRange 16) s).mono (by simp)

/-! ## Filtered inputs (R146, R147) -/

theorem Kept.cartSensor (s : State) (c : Channel) (level : Bool) : Kept 6 s (s.cartSensor c level) := by
  unfold State.cartSensor
  split
  · split
    · exact (Charges.beginInsertion s c).toKept.mono (by omega)
    · exact (Charges.refl s).toKept.mono (by omega)
  · split
    · exact (Charges.refl s).toKept.mono (by omega)
    · exact Kept.removeCartridge s c

theorem Senses.pathSensor (s : State) (level settling : Bool) : Senses 1 s (s.pathSensor level settling) := by
  unfold State.pathSensor
  split
  · exact Senses.pathSensorClears s
  · split
    · exact .of_same (Feeds.setFeed (Feeds.refl s) _ (by exact id) (by exact id)) (by simp) (.of_eq (by simp))
    · exact (Senses.refl s).mono (by omega)

theorem Reported.pathSensor (s : State) (level settling : Bool) : Reported 1 s (s.pathSensor level settling) := by
  unfold State.pathSensor
  split
  · exact Reported.pathSensorClears s
  · split
    · exact Reported.setFeed ..
    · exact ((Reports.refl s).mono (by omega)).reported

/-- What the feed unit does with an input (R117, R119, R124, R129). -/
def State.feedSensed (s : State) (i : DIn) (level settling : Bool) : State :=
  if i = 0 then s.loadSensor true level
  else if i = 1 then s.loadSensor false level
  else if i = 2 then s.pathSensor level settling
  else if i = 3 ∨ i = 4 then (if level then s.rollEnds i else s)
  else if i = 8 then s.cutterSensor level
  else s

theorem State.sensed_of_some {i : DIn} {c : Channel} (h : cartInput i = some c) (s : State) (level settling : Bool) :
    s.sensed i level settling = s.cartSensor c level := by
  unfold State.sensed; rw [h]

theorem State.sensed_of_none {i : DIn} (h : cartInput i = none) (s : State) (level settling : Bool) :
    s.sensed i level settling = s.feedSensed i level settling := by
  unfold State.sensed; rw [h]; rfl

theorem Senses.feedSensed (s : State) (i : DIn) (level settling : Bool) : Senses 3 s (s.feedSensed i level settling) := by
  unfold State.feedSensed
  split_ifs
  · exact (Senses.loadSensor ..).mono (by omega)
  · exact (Senses.loadSensor ..).mono (by omega)
  · exact (Senses.pathSensor ..).mono (by omega)
  · exact (Senses.rollEnds ..).mono (by omega)
  · exact (Senses.refl s).mono (by omega)
  · exact (Senses.cutterSensor ..).mono (by omega)
  · exact (Senses.refl s).mono (by omega)

theorem Reported.feedSensed (s : State) (i : DIn) (level settling : Bool) : Reported 3 s (s.feedSensed i level settling) := by
  unfold State.feedSensed
  split_ifs
  · exact ((Reports.loadSensor ..).mono (by omega)).reported
  · exact ((Reports.loadSensor ..).mono (by omega)).reported
  · exact (Reported.pathSensor ..).mono (by omega)
  · exact (Reported.rollEnds ..).mono (by omega)
  · exact ((Reports.refl s).mono (by omega)).reported
  · exact (Reported.cutterSensor ..).mono (by omega)
  · exact ((Reports.refl s).mono (by omega)).reported

theorem Acts.sensed (s : State) (i : DIn) (level settling : Bool) : Acts 6 s (s.sensed i level settling) := by
  cases h : cartInput i with
  | some c => rw [State.sensed_of_some h]; exact (Kept.cartSensor s c level).acts
  | none => rw [State.sensed_of_none h]; exact (Senses.feedSensed ..).toFeeds.acts.mono (by omega)

theorem Reported.sensed (s : State) (i : DIn) (level settling : Bool) : Reported 6 s (s.sensed i level settling) := by
  cases h : cartInput i with
  | some c => rw [State.sensed_of_some h]; exact (Kept.cartSensor s c level).toInks.reports.reported
  | none => rw [State.sensed_of_none h]; exact (Reported.feedSensed ..).mono (by omega)

/-- The filtered level set and INPUT EDGE queued (R146, R147). -/
def State.levelSet (s : State) (i : DIn) (level : Bool) : State :=
  if !s.inputs[i].level.isNone && s.tables.input[i].edge.matchesLevel level then
    ({ s with inputs := setAt s.inputs i ⟨some level, none⟩ } : State).raise (.inputEdge i level s.now)
  else { s with inputs := setAt s.inputs i ⟨some level, none⟩ }

/-- Besides, the stop latch set where the routing matches (R147). -/
def State.levelRouted (s : State) (i : DIn) (level : Bool) : State :=
  if s.tables.input[i].routing.matchesLevel level then (s.levelSet i level).setStop (.input i) else s.levelSet i level

theorem State.acceptInput_eq (s : State) (i : DIn) (level : Bool) :
    s.acceptInput i level = (s.levelRouted i level).sensed i level s.inputs[i].level.isNone := rfl

theorem Acts.levelSet (s : State) (i : DIn) (level : Bool) : Acts 1 s (s.levelSet i level) := by
  unfold State.levelSet
  split
  · exact Acts.raise (Acts.write (Acts.refl s)) _
  · exact (Acts.write (Acts.refl s)).mono (by omega)

theorem Acts.levelRouted (s : State) (i : DIn) (level : Bool) : Acts 32 s (s.levelRouted i level) := by
  unfold State.levelRouted
  split
  · exact (Acts.levelSet s i level).trans (Acts.setStop ..)
  · exact (Acts.levelSet s i level).mono (by omega)

theorem Acts.acceptInput (s : State) (i : DIn) (level : Bool) : Acts 38 s (s.acceptInput i level) := by
  rw [State.acceptInput_eq]
  exact (Acts.levelRouted s i level).trans (Acts.sensed ..)

theorem State.rawInput_cases (s : State) (i : DIn) (raw : Bool) :
    (∃ v, s.rawInput i raw = { s with inputs := v }) ∨ s.rawInput i raw = s.acceptInput i raw := by
  unfold State.rawInput
  dsimp only
  split
  · exact .inl ⟨_, rfl⟩
  · split
    · exact .inl ⟨s.inputs, rfl⟩
    · split
      · exact .inr rfl
      · exact .inl ⟨_, rfl⟩

theorem Acts.rawInput (s : State) (i : DIn) (raw : Bool) : Acts 38 s (s.rawInput i raw) := by
  rcases s.rawInput_cases i raw with ⟨v, h⟩ | h <;> rw [h]
  · exact (Acts.write (Acts.refl s)).mono (by omega)
  · exact Acts.acceptInput ..

/-! ## ABORT and ENGINE RESET (R41, R171) -/

/-- The queue emptied and a motion of an entry orphaned (R41, R136). -/
def State.unqueued (s : State) : State :=
  { s with queue := [], holds := {}, wetEdge := none, feed := s.feed.orphaned, service := { s.service with passAsked := false } }

theorem State.abort_eq (s : State) : s.abort = (List.finRange 8).foldl State.freeUnprinted s.abortPass.unqueued := rfl

theorem Acts.freeUnprinted (s : State) (i : SlotIx) : Acts 0 s (s.freeUnprinted i) := by
  unfold State.freeUnprinted
  split
  · exact (Acts.refl s).freeSlot i
  · exact (Acts.refl s).freeSlot i
  · exact Acts.refl s

theorem Acts.abort (s : State) : Acts 13 s s.abort := by
  rw [State.abort_eq]
  exact (Acts.write (t := s.abortPass.unqueued) (Acts.abortPass s)).trans (Acts.foldl (n := 0) Acts.freeUnprinted _ _)

/-- The pass and the operation ended, the slots freed and the station reset (R171). -/
def State.emptiedOut (s : State) : State := s.abortPass.abandonOp.freeAll.resetService

/-- Besides, the queue, the hold set and the wet-edge timer empty and the head drive low. -/
def State.queueCleared (s : State) : State := { s with queue := [], holds := {}, wetEdge := none, driveEnable := false }

/-- ENGINE RESET up to the feed record (R171). -/
def State.blocksReset (s : State) : State := (channels.foldl State.resetLadder s.emptiedOut.queueCleared).resetNeeds

/-- The stop latch CLEAR. -/
def State.unlatched (s : State) : State := { s with stop := ⟨false, none⟩ }

theorem State.engineReset_eq (s : State) : s.engineReset =
    (channels.foldl State.replaceSupplyRequests s.blocksReset.resetFeed.unlatched.settlingTest).wearTests := rfl

theorem Acts.freeAll {n : Nat} {s u : State} (h : Acts n s u) : Acts n s u.freeAll := Acts.dropRetained (Acts.write h)

theorem Kept.resetNeeds (s : State) : Kept 12 s s.resetNeeds := (Kept.setSupply s _).trans (Quiet.reformAll _).charges.toKept

theorem Acts.emptiedOut (s : State) : Acts 30 s s.emptiedOut :=
  (Acts.freeAll ((Acts.abortPass s).trans (Kept.abandonOp _).acts)).trans (Kept.resetService _).acts

theorem Acts.blocksReset (s : State) : Acts 48 s s.blocksReset :=
  ((Acts.write (t := s.emptiedOut.queueCleared) (Acts.emptiedOut s)).trans (Quiet.foldl Quiet.resetLadder channels _).acts).trans
    (Kept.resetNeeds _).acts

end Sys2Proof.Machine
end

section
/-!
PROOFS. Grants, conversions, table writes, checks and map edits: what they leave; and that each effect keeps the bounds of the lane, the form of the
store and the ranges of the carries.
-/

-- One declaration at a time: side by side, the threads' stacks come near the memory limit of the check.
set_option Elab.async false

namespace Sys2Proof.Machine

/-! ## Release and the arbiter (R29, R108) -/

/-- The heads uncapped for a pass where they are CAPPED (R95). -/
def State.headsUncapped (s : State) : State := if s.service.capped then s.uncap else s

/-- The release of R29 after BAND RISK: carriage, estimates, slot, entry, pass context, head drive and scan trigger. -/
def State.passReleased (s : State) (i : SlotIx) (capRep : Bool) (rest : List Entry) : State :=
  { s.headsUncapped with
    service := { s.headsUncapped.service with holder := .pass, docked := false, passAsked := false }
    accounts := s.reserveAll s.slots[i] (s.passContext i).temps
    slots := modifyAt s.headsUncapped.slots i fun sl => { sl with state := .printing }
    queue := ⟨.swath i capRep, .active⟩ :: rest
    pass := some (s.passContext i)
    driveEnable := true
    scan := s.headsUncapped.scan.trigger
    out := { s.headsUncapped.out with
      carriage := .pass s.service.capped (s.passContext i).dir (s.passContext i).colA (s.passContext i).colB } }

theorem State.release_eq (s : State) (i : SlotIx) (capRep : Bool) (rest : List Entry) :
    s.release i capRep rest = (s.bandRisk i).passReleased i capRep rest := rfl

theorem Quiet.bandRisk (s : State) (i : SlotIx) : Quiet 1 s (s.bandRisk i) := by
  unfold State.bandRisk
  split
  · split
    · exact Quiet.raise ..
    · exact (Quiet.refl s).mono (by omega)
  · exact (Quiet.refl s).mono (by omega)

theorem Charges.headsUncapped (s : State) : Charges 0 s s.headsUncapped := by
  unfold State.headsUncapped
  split
  · exact Charges.uncap s
  · exact Charges.refl s

theorem State.reserveAll_carry (s : State) (sl : Slot) (temps : Vector Int 3) (c : Channel) :
    (s.reserveAll sl temps)[c].carry = s.accounts[c].carry := by
  simp [State.reserveAll, Account.reserve]

theorem Acts.passReleased (s : State) (i : SlotIx) (capRep : Bool) (rest : List Entry) : Acts 0 s (s.passReleased i capRep rest) := by
  have h := Charges.headsUncapped s
  refine Acts.trans (u := s.passReleased i capRep rest) h.acts (Acts.write (Acts.refl s.headsUncapped) (carry := fun hc => ?_))
  refine ⟨fun c => ⟨?_, (hc.1 c).2⟩, hc.2⟩
  show (s.reserveAll _ _)[c].carry < _
  rw [State.reserveAll_carry]
  have same : s.headsUncapped.accounts = s.accounts := by unfold State.headsUncapped; split <;> rfl
  rw [← same]
  exact (hc.1 c).1

theorem Acts.release (s : State) (i : SlotIx) (capRep : Bool) (rest : List Entry) : Acts 1 s (s.release i capRep rest) := by
  rw [State.release_eq]
  exact (Quiet.bandRisk s i).acts.trans (Acts.passReleased ..)

/-- The pass flag cleared at the grant of the carriage to it (R108). -/
def State.passTaken (s : State) : State := { s with service := { s.service with passAsked := false } }

theorem State.grantPass_cases (s : State) :
    (∃ i rep rest, s.queue = ⟨.swath i rep, .waiting⟩ :: rest ∧ (s.passTaken.swathHolds s.slots[i]).isEmpty = true ∧
      s.grantPass = s.passTaken.release i rep rest) ∨
    (∃ i rep rest, s.queue = ⟨.swath i rep, .waiting⟩ :: rest ∧ s.grantPass = s.passTaken.evaluateSwath i rep rest) ∨
    s.grantPass = s.passTaken := by
  unfold State.grantPass
  dsimp only
  split
  next i rep rest hq =>
    split
    next h => exact .inl ⟨i, rep, rest, hq, h, rfl⟩
    next => exact .inr (.inl ⟨i, rep, rest, hq, rfl⟩)
  next => exact .inr (.inr rfl)

/-- What the gate's evaluation of a WAITING SWATH entry changes besides supply, requests, ladders and events: its entry's flag, the hold set, the
pass flag and the time of a withdrawn CAP. -/
structure Evaluates (n : Nat) (s t : State) : Prop extends Orderly n s t where
  frame : t = { s with
    lane := t.lane, supply := t.supply, queue := t.queue, holds := t.holds
    service := { s.service with
      pending := t.service.pending, ladders := t.service.ladders, passAsked := t.service.passAsked
      capWithdrawnAt := t.service.capWithdrawnAt } }
  refills : ∀ c : Channel, t.supply[c].refill = s.supply[c].refill ∧ t.supply[c].faultMark = s.supply[c].faultMark
  queue : t.queue.map Entry.bare = s.queue.map Entry.bare

theorem Evaluates.acts {n : Nat} {s t : State} (h : Evaluates n s t) : Acts n s t where
  toOrderly := h.toOrderly
  now := by rw [h.frame]
  store := by rw [h.frame]
  tables := by rw [h.frame]
  waiting := by rw [h.frame]
  current := by rw [h.frame]; exact ⟨rfl, rfl⟩
  next := by rw [h.frame]
  retained := by rw [h.frame]; exact .inl rfl
  carry hc := by rw [h.frame]; exact hc

theorem Evaluates.trans {m n : Nat} {s t u : State} (h : Evaluates m s t) (k : Evaluates n t u) : Evaluates (m + n) s u where
  toOrderly := h.toOrderly.trans k.toOrderly
  frame := by rw [k.frame, h.frame]
  refills c := ⟨(k.refills c).1.trans (h.refills c).1, (k.refills c).2.trans (h.refills c).2⟩
  queue := k.queue.trans h.queue

theorem Quiet.evaluates {n : Nat} {s t : State} (h : Quiet n s t) : Evaluates n s t where
  toOrderly := h.toOrderly
  frame := by rw [h.frame]
  refills := h.refills
  queue := by rw [h.queue]

/-- The hold set and the pass flag written (R24). -/
theorem Evaluates.write {n : Nat} {s u t : State} (h : Evaluates n s u)
    (frame : t = { u with holds := t.holds, service := { u.service with
      passAsked := t.service.passAsked, capWithdrawnAt := t.service.capWithdrawnAt } } := by rfl) : Evaluates n s t := by
  refine h.trans (n := 0) ⟨.of_eq ?_ ?_ ?_, ?_, fun c => ?_, ?_⟩ <;> rw [frame]
  exact ⟨rfl, rfl⟩

/-- The entry's capacity flag set (R28). -/
def State.flagged (s : State) (i : SlotIx) (rest : List Entry) : State := { s with queue := ⟨.swath i true, .waiting⟩ :: rest }

theorem Evaluates.reportCapacity {s : State} (sl : Slot) {i : SlotIx} {rep : Bool} {rest : List Entry}
    (hq : s.queue = ⟨.swath i rep, .waiting⟩ :: rest) : Evaluates 1 s (s.reportCapacity sl i rep rest) := by
  unfold State.reportCapacity
  split
  · exact ⟨(Quiet.raiseCondition (s.flagged i rest) _).toOrderly.before rfl rfl rfl, rfl, fun _ => ⟨rfl, rfl⟩, by rw [hq]; rfl⟩
  · exact (Quiet.refl s).evaluates.trans (n := 1) ((Quiet.refl s).mono (by omega)).evaluates

/-- The gate's evaluation of a WAITING SWATH entry up to the hold set. -/
def State.inkSent (s : State) (i : SlotIx) (rep : Bool) (rest : List Entry) : State :=
  channels.foldl (fun t c => t.gateRequest (s.inkTest s.slots[i] c) c) (s.reportCapacity s.slots[i] i rep rest)

/-- The hold set of a WAITING SWATH entry written (R24). -/
def State.held (s : State) (h : Holds) : State := { s with holds := h }

theorem State.evaluateSwath_eq (s : State) (i : SlotIx) (rep : Bool) (rest : List Entry) : s.evaluateSwath i rep rest =
    if (s.swathHolds s.slots[i]).isEmpty then ((s.inkSent i rep rest).held (s.swathHolds s.slots[i])).askPass
    else ((s.inkSent i rep rest).held (s.swathHolds s.slots[i])).passTaken := rfl

theorem Evaluates.inkSent {s : State} {i : SlotIx} {rep : Bool} {rest : List Entry}
    (hq : s.queue = ⟨.swath i rep, .waiting⟩ :: rest) : Evaluates 13 s (s.inkSent i rep rest) :=
  (Evaluates.reportCapacity _ hq).trans (Quiet.foldl (fun t c => Quiet.gateRequest t _ c) channels _).evaluates

theorem Evaluates.held {n : Nat} {s u : State} (h : Evaluates n s u) (x : Holds) : Evaluates n s (u.held x) := h.write

theorem Evaluates.passTaken {n : Nat} {s u : State} (h : Evaluates n s u) : Evaluates n s u.passTaken := h.write

theorem Evaluates.askPass {n : Nat} {s u : State} (h : Evaluates n s u) : Evaluates n s u.askPass :=
  Evaluates.write (h.trans (Quiet.withdraw u fun op => op = .cap).evaluates)

theorem Evaluates.evaluateSwath {s : State} {i : SlotIx} {rep : Bool} {rest : List Entry}
    (hq : s.queue = ⟨.swath i rep, .waiting⟩ :: rest) : Evaluates 13 s (s.evaluateSwath i rep rest) := by
  rw [State.evaluateSwath_eq]
  split
  · exact ((Evaluates.inkSent hq).held _).askPass
  · exact ((Evaluates.inkSent hq).held _).passTaken

theorem Acts.passTaken (s : State) : Acts 0 s s.passTaken := Acts.write (Acts.refl s)

theorem Acts.grantPass (s : State) : Acts 13 s s.grantPass := by
  rcases s.grantPass_cases with ⟨i, rep, rest, hq, -, h⟩ | ⟨i, rep, rest, hq, h⟩ | h <;> rw [h]
  · exact Acts.mono (m := 0 + 1) ((Acts.passTaken s).trans (Acts.release _ i rep rest)) (by omega)
  · exact Acts.mono (m := 0 + 13) ((Acts.passTaken s).trans (Evaluates.evaluateSwath (s := s.passTaken) hq).acts) (by omega)
  · exact (Acts.passTaken s).mono (by omega)

theorem State.arbitrate_cases (s : State) : let u := State.arbitratePrimes channels s
    s.arbitrate = u ∨ (u.service.passAsked = true ∧ s.arbitrate = u.grantPass) ∨ ∃ r, u.firstRequest = some r ∧ s.arbitrate = u.grantOp r := by
  unfold State.arbitrate
  dsimp only
  split
  next r hr =>
    split
    next h => exact .inr (.inl ⟨by simp only [Bool.and_eq_true] at h; exact h.1, rfl⟩)
    next => exact .inr (.inr ⟨r, hr, rfl⟩)
  next =>
    split
    next h => exact .inr (.inl ⟨h, rfl⟩)
    next => exact .inl rfl

theorem Acts.arbitrate (s : State) : Acts 37 s s.arbitrate := by
  have primes : Acts 24 s (State.arbitratePrimes channels s) := (Quiet.arbitratePrimes channels s).acts
  rcases s.arbitrate_cases with h | ⟨-, h⟩ | ⟨r, -, h⟩ <;> rw [h]
  · exact primes.mono (by omega)
  · exact primes.trans (Acts.grantPass _)
  · exact (primes.trans (Kept.grantOp _ r).acts).mono (by omega)

/-! ## Conversions (R140, R141) -/

theorem Kept.watchMark (s : State) (i : AIn) (v : Int) : Kept 0 s (s.watchMark i v) := by
  unfold State.watchMark
  split
  · exact Kept.setSupply ..
  · exact (Charges.refl s).toKept

theorem State.guardPressure_cases (s : State) (i : AIn) (v : Int) :
    s.guardPressure i v = s ∨ ∃ c, s.pass.isSome = true ∧ s.guardPressure i v = s.setStop (.pressure c) := by
  unfold State.guardPressure
  split
  next c hc =>
    split
    next h => simp only [Bool.and_eq_true] at h; exact .inr ⟨c, h.1, rfl⟩
    next => exact .inl rfl
  next => exact .inl rfl

theorem Acts.guardPressure (s : State) (i : AIn) (v : Int) : Acts 31 s (s.guardPressure i v) := by
  rcases s.guardPressure_cases i v with h | ⟨c, -, h⟩ <;> rw [h]
  · exact (Acts.refl s).mono (by omega)
  · exact Acts.setStop ..

/-- The result stored and the sweep moved on (R140, R142). -/
def State.resultStored (s : State) (i : AIn) (v : Int) : State :=
  { s with scan := { s.scan with results := setAt s.scan.results i ⟨v, some s.now, true⟩, sweep := s.scan.after i } }

theorem State.converted_eq (s : State) (i : AIn) (raw : Nat) : s.converted i raw =
    ((s.resultStored i (scaled s.tables.scan[i] raw)).watchMark i (scaled s.tables.scan[i] raw)).guardPressure i
      (scaled s.tables.scan[i] raw) := rfl

theorem Acts.resultStored (s : State) (i : AIn) (v : Int) : Acts 0 s (s.resultStored i v) := Acts.write (Acts.refl s)

theorem Acts.converted (s : State) (i : AIn) (raw : Nat) : Acts 31 s (s.converted i raw) := by
  rw [State.converted_eq]
  exact ((Acts.resultStored ..).trans (Kept.watchMark ..).acts).trans (Acts.guardPressure ..)

/-- The result marked stale (R141). -/
def State.resultStale (s : State) (i : AIn) : State :=
  { s with scan := { s.scan with results := setAt s.scan.results i { s.scan.results[i] with valid := false } } }

theorem State.makeStale_eq (s : State) (i : AIn) : s.makeStale i =
    ((s.resultStale i).raise (.sensorStale i s.scan.results[i].value (s.now - s.scan.results[i].convertedAt.getD 0))).raiseCondition
      (.sensorStale i) := rfl

theorem Acts.makeStale (s : State) (i : AIn) : Acts 2 s (s.makeStale i) := by
  rw [State.makeStale_eq]
  exact (Acts.raise (Acts.write (t := s.resultStale i) (Acts.refl s)) _).raiseCondition _

/-! ## ENGINE RESET, loads and slots -/

theorem Quiet.replaceSupplyRequests (s : State) (c : Channel) : Quiet 0 s (s.replaceSupplyRequests c) := by
  unfold State.replaceSupplyRequests
  split_ifs
  · exact Quiet.refl s
  · exact Quiet.place ..
  · exact Quiet.place ..
  · exact Quiet.refl s

/-- The supply and wear requests placed once more (R59, R104). -/
def State.requestsReplaced (s : State) : State := (channels.foldl State.replaceSupplyRequests s).wearTests

theorem Quiet.requestsReplaced (s : State) : Quiet 0 s s.requestsReplaced :=
  (Quiet.foldl (n := 0) Quiet.replaceSupplyRequests channels s).trans (Quiet.wearTests _)

theorem Acts.unlatched {n : Nat} {s u : State} (h : Acts n s u) : Acts n s u.unlatched := Acts.write h

theorem Acts.engineReset (s : State) : Acts 545 s s.engineReset :=
  (((Acts.blocksReset s).trans (Feeds.resetFeed (Feeds.refl _)).acts).unlatched.trans (Acts.settlingTest _)).trans
    (Quiet.requestsReplaced _).acts

/-- The record as a load begins (R118, R119). -/
def State.loadFeed (s : State) (src : Source) (p : Fin 16) (mm : Nat) : Feed :=
  { s.feed with
    path := .loading, source := some src, profile := some p
    rollRemaining := if decide (src ≠ .sheet) && decide (mm ≠ 0) then some (mm * 1000) else none
    rollLow := if decide (src ≠ .sheet) && decide (mm ≠ 0) then false else s.feed.rollLow
    residue := 0, window := [], attempt := 1
    motion := some (s.beginAttempt (newMotion s.now (.load .forward 0 none none none) .request) none) }

theorem State.startLoad_eq (s : State) (src : Source) (p : Fin 16) (mm : Nat) :
    s.startLoad src p mm = ((s.setFeed (s.loadFeed src p mm)).sheetEnds).redrive := rfl

theorem Feeds.startLoad (s : State) (src : Source) (p : Fin 16) (mm : Nat) : Feeds 1 s (s.startLoad src p mm) := by
  rw [State.startLoad_eq]
  exact Feeds.redrive (Feeds.write (Feeds.setFeed (Feeds.refl s) (s.loadFeed src p mm) (fun _ => by show 0 < 3000000; omega)
    fun _ => by show 0 ≤ 4; omega))

theorem Reported.startLoad (s : State) (src : Source) (p : Fin 16) (mm : Nat) : Reported 1 s (s.startLoad src p mm) := by
  rw [State.startLoad_eq]
  exact Reported.redrive (Reported.write (Reported.setFeed s (s.loadFeed src p mm)))

theorem Acts.damageByCount (s : State) (i : SlotIx) (n : Nat) : Acts 1 s (s.damageByCount i n) := by
  rw [State.damageByCount_eq]
  exact (Acts.write (t := s.damaged i) (Acts.refl s)).dropRetained.raise _

/-! ## What keeps the ranges -/

/-- From s to t at most n events were raised, the store keeps its form and the carries stay in their ranges. -/
structure Ranges (n : Nat) (s t : State) : Prop extends Orderly n s t where
  store : s.StoreInv → t.StoreInv
  carry : s.CarryInv → t.CarryInv

theorem Acts.ranges {n : Nat} {s t : State} (h : Acts n s t) : Ranges n s t :=
  ⟨h.toOrderly, fun hs => by rw [State.StoreInv, h.store]; exact hs, h.carry⟩

theorem Ranges.trans {m n : Nat} {s t u : State} (h : Ranges m s t) (k : Ranges n t u) : Ranges (m + n) s u :=
  ⟨h.toOrderly.trans k.toOrderly, k.store ∘ h.store, k.carry ∘ h.carry⟩

/-- Writing what the relation does not read. -/
theorem Ranges.of_eq {s t : State} (lane : t.lane = s.lane := by rfl) (ladders : t.service.ladders = s.service.ladders := by rfl)
    (requests : t.service.pending = s.service.pending := by rfl) (store : s.StoreInv → t.StoreInv := by exact id)
    (carry : s.CarryInv → t.CarryInv := by exact id) : Ranges 0 s t :=
  ⟨.of_eq lane ladders requests, store, carry⟩

/-- The maps switched, with MAP COMMITTED (R91). -/
def State.mapsSwitched (s : State) : State := { s with maps := s.maps.switch }

theorem Ranges.offerCommit (s : State) : Ranges 1 s s.offerCommit := by
  unfold State.offerCommit
  split
  · exact (Ranges.of_eq (t := s.mapsSwitched)).trans ((Acts.refl s.mapsSwitched).raise _).dropRetained.ranges
  · exact ((Acts.refl s).mono (by omega)).ranges

/-- The slot opened over its blanked span, after the commit offered (R4). -/
def State.spanOpened (s : State) (i : SlotIx) (d : PassDir) (first last : Nat) : State :=
  { s with
    slots := setAt s.slots i { blankSlot with
      state := .composing, dir := d, first := first, last := last, gen := some s.maps.currentGen }
    store := Memory.blank (inSpan i first last) s.store }

theorem State.openSlot_eq (s : State) (i : SlotIx) (d : PassDir) (first last : Nat) :
    s.openSlot i d first last = s.offerCommit.spanOpened i d first last := rfl

theorem Ranges.openSlot (s : State) (i : SlotIx) (d : PassDir) (first last : Nat) : Ranges 1 s (s.openSlot i d first last) := by
  rw [State.openSlot_eq]
  exact (Ranges.offerCommit s).trans
    (Ranges.of_eq (t := s.offerCommit.spanOpened i d first last) rfl rfl rfl (Memory.wf_blank (inSpan i first last)) id)

/-- The slice counted in its slot (R5). -/
def State.sliceCounted (s : State) (i : SlotIx) : State :=
  { s with slots := setAt s.slots i { s.slots[i] with slices := min (s.slots[i].slices + 1) 4294967295 } }

/-- The slice stored and its drops counted (R8 to R10). -/
def State.sliceTaken (s : State) (a : SliceArgs) (i : SlotIx) (c : Channel) : State :=
  { s.sliceCounted i with
    slots := setAt (s.sliceCounted i).slots i
      (({ s.slots[i] with slices := min (s.slots[i].slices + 1) 4294967295 } : Slot).take (s.maps.bankFor s.slots[i].gen) c a)
    store := Memory.write (a.cells i c) s.store }

theorem State.admitSlice_cases (s : State) (a : SliceArgs) (i : SlotIx) :
    (∃ why n, s.admitSlice a i = (s.sliceCounted i).refuseSlice a why n) ∨ ∃ c, s.admitSlice a i = s.sliceTaken a i c := by
  unfold State.admitSlice
  dsimp only
  split_ifs
  · exact .inl ⟨_, _, rfl⟩
  · exact .inl ⟨_, _, rfl⟩
  · exact .inr ⟨_, rfl⟩
  · exact .inl ⟨_, _, rfl⟩

theorem State.sliceEffect_cases (s : State) (body : List Byte) :
    (∃ e, s.sliceEffect body = s.raise e) ∨ ∃ a i, s.slots[i].state = .composing ∧ s.sliceEffect body = s.admitSlice a i := by
  unfold State.sliceEffect
  split
  · exact .inl ⟨_, rfl⟩
  · split
    · dsimp only
      split
      next h => exact .inr ⟨_, _, h, rfl⟩
      next => exact .inl ⟨_, rfl⟩
    · exact .inl ⟨_, rfl⟩

theorem Ranges.sliceEffect (s : State) (body : List Byte) : Ranges 1 s (s.sliceEffect body) := by
  rcases s.sliceEffect_cases body with ⟨e, h⟩ | ⟨a, i, -, h⟩ <;> rw [h]
  · exact ((Acts.refl s).raise e).ranges
  · rcases s.admitSlice_cases a i with ⟨why, n, h⟩ | ⟨c, h⟩ <;> rw [h]
    · exact ((Acts.write (t := s.sliceCounted i) (Acts.refl s)).raise _).ranges
    · exact (Ranges.of_eq (s := s) (t := s.sliceTaken a i c) rfl rfl rfl (Memory.wf_write (a.cells_rising i c)) id).trans
        ((Acts.refl _).mono (n := 1) (by omega)).ranges

end Sys2Proof.Machine
end

section
/-!
PROOFS. Settles O54: every step keeps the bounds of the lane, the form of the store and the ranges of the carries. Each effect but seven raises events
alone in the lane; the seven are taken one by one.
-/

-- One declaration at a time: side by side, the threads' stacks come near the memory limit of the check.
set_option Elab.async false

namespace Sys2Proof.Machine

/-! ## Table writes (R153 to R158) -/

/-- Tables and Next bank written. -/
def State.tabled (s : State) (tb : Tables) (next : Bank) : State := { s with tables := tb, maps := { s.maps with next := next } }

/-- The tables after the write of channel record c (R155, R156). -/
def State.channelTables (s : State) (c : Channel) (r : ChannelRec × Int) : Tables :=
  { s.tables with
    channel := setAt s.tables.channel c r.1, reverseShift := setAt s.tables.reverseShift (headOf c) r.2 }

/-- The Next bank after the write of channel record c (R85). -/
def State.channelNext (s : State) (c : Channel) (r : ChannelRec × Int) : Bank :=
  if s.tables.channel[c].policy ≠ r.1.policy ∨ s.tables.channel[c].partner ≠ r.1.partner then
    s.maps.next.reResolve (s.channelTables c r) (channelSingle c)
  else s.maps.next

/-- What a stored write of a channel record does after its record is written (R73, R155). -/
def State.channelFormed (s : State) (c : Channel) (fields : List (Nat × Int)) : State :=
  (if namesCartridge fields then s.respit.reformCart c else s.respit).reformSupply c

theorem State.storeChannel_eq (s : State) (c : Channel) (fields : List (Nat × Int)) (r : ChannelRec × Int) :
    s.storeChannel c fields r = (s.tabled (s.channelTables c r) (s.channelNext c r)).channelFormed c fields := by
  unfold State.storeChannel State.channelFormed State.channelNext
  by_cases h : s.tables.channel[c].policy ≠ r.1.policy ∨ s.tables.channel[c].partner ≠ r.1.partner
  · simp only [if_pos h]; rfl
  · simp only [if_neg h]; rfl

/-- The state that a stored write of a loaded table leaves (R153): the record written, and what its table does besides. -/
inductive TableStored (s : State) : State → Prop
  | plain (tb : Tables) (h : tb.channel = s.tables.channel) : TableStored s (s.tabled tb s.maps.next)
  | ink (tb : Tables) (h : tb.channel = s.tables.channel) : TableStored s (s.tabled tb s.maps.next).respit
  | channel (c : Channel) (fields : List (Nat × Int)) (r : ChannelRec × Int) : TableStored s (s.storeChannel c fields r)
  | service (tb : Tables) (h : tb.channel = s.tables.channel) : TableStored s (s.tabled tb s.maps.next).wearTests
  | stale (tb : Tables) (i : AIn) (h : tb.channel = s.tables.channel) : TableStored s ((s.tabled tb s.maps.next).makeStale i)

theorem writeTable_stored {t i : Nat} {fields clamped : List (Nat × Int)} {s u : State}
    (h : writeTable t i fields s = some (.stored u clamped)) : TableStored s u := by
  unfold writeTable at h
  split at h
  case h_1 =>
    obtain ⟨k, -, hk⟩ := Option.map_eq_some_iff.1 h
    obtain ⟨r, rfl⟩ := writeRecord_stored hk
    exact .ink { s.tables with ink := setAt s.tables.ink k r } rfl
  case h_2 =>
    obtain ⟨c, -, hc⟩ := Option.map_eq_some_iff.1 h
    obtain ⟨r, rfl⟩ := writeRecord_stored hc
    exact .channel c fields r
  case h_3 =>
    obtain ⟨k, -, hk⟩ := Option.map_eq_some_iff.1 h
    obtain ⟨r, rfl⟩ := writeRecord_stored hk
    exact .plain { s.tables with profile := setAt s.tables.profile k r } rfl
  case h_4 =>
    split at h
    · obtain ⟨r, rfl⟩ := writeRecord_stored (Option.some.inj h)
      dsimp only
      split
      · exact .service { s.tables with service := r } rfl
      · exact .plain { s.tables with service := r } rfl
    · cases h
  case h_5 =>
    split at h
    · obtain ⟨r, rfl⟩ := writeRecord_stored (Option.some.inj h)
      exact .plain { s.tables with mode := r } rfl
    · obtain ⟨k, -, hk⟩ := Option.map_eq_some_iff.1 h
      obtain ⟨r, rfl⟩ := writeRecord_stored hk
      dsimp only
      split
      · exact .stale { s.tables with scan := setAt s.tables.scan k r } k rfl
      · exact .plain { s.tables with scan := setAt s.tables.scan k r } rfl
  case h_6 =>
    obtain ⟨k, -, hk⟩ := Option.map_eq_some_iff.1 h
    obtain ⟨r, rfl⟩ := writeRecord_stored hk
    exact .plain { s.tables with input := setAt s.tables.input k r } rfl
  case h_7 => cases h

theorem Kept.channelFormed (s : State) (c : Channel) (fields : List (Nat × Int)) : Kept 5 s (s.channelFormed c fields) := by
  unfold State.channelFormed
  split
  · exact ((Kept.respit s).trans (Charges.reformCart _ c).toKept).trans (Quiet.reformSupply _ c).charges.toKept
  · exact ((Kept.respit s).trans (Quiet.reformSupply _ c).charges.toKept).mono (by omega)

/-- After its record, and the Next bank where the policy changes, a table write changes no table and no bank. -/
theorem TableStored.acts {s u : State} (h : TableStored s u) : ∃ tb next, Acts 5 (s.tabled tb next) u := by
  cases h with
  | plain tb h => exact ⟨tb, s.maps.next, (Acts.refl _).mono (by omega)⟩
  | ink tb h => exact ⟨tb, s.maps.next, (Kept.respit _).acts.mono (by omega)⟩
  | channel c fields r =>
    rw [State.storeChannel_eq]
    exact ⟨_, _, (Kept.channelFormed ..).acts⟩
  | service tb h => exact ⟨tb, s.maps.next, (Quiet.wearTests _).acts.mono (by omega)⟩
  | stale tb i h => exact ⟨tb, s.maps.next, (Acts.makeStale ..).mono (by omega)⟩

theorem Ranges.of_tableStored {s u : State} (h : TableStored s u) : Ranges 5 s u := by
  obtain ⟨tb, next, h⟩ := h.acts
  exact (Ranges.of_eq (t := s.tabled tb next)).trans (n := 5) h.ranges

/-! ## Checks -/

/-- The check charged, its carriage free and its result told (R102). -/
def State.checkTold (s : State) (o : OpInFlight) (set : ChannelSet) (dead : List (Channel × Nat)) (now : Bool) : State :=
  ((s.opCharged o wholeProgress).opDone).raise (.checkResult set (checkFigures set dead) now)

/-- A channel's ladder takes what the check found of it (R102 step 4). -/
def State.ladderTakes (set : ChannelSet) (dead : List (Channel × Nat)) (s : State) (c : Channel) : State :=
  match (checkFigures set dead)[c] with
  | some f => s.ladderResult c f
  | none => s

theorem State.checkDone_eq (s : State) (o : OpInFlight) (set : ChannelSet) (dead : List (Channel × Nat)) :
    s.checkDone o set dead = channels.foldl (State.ladderTakes set dead) ((s.applyCheck set dead).checkTold o set dead
      ((s.applyCheck set dead).maps.commitPending && !s.maps.commitPending)) := rfl

theorem Quiet.ladderTakes (set : ChannelSet) (dead : List (Channel × Nat)) (s : State) (c : Channel) :
    Quiet 1 s (State.ladderTakes set dead s c) := by
  unfold State.ladderTakes
  split
  · exact Quiet.ladderResult ..
  · exact (Quiet.refl s).mono (by omega)

theorem Kept.checkTold (s : State) (o : OpInFlight) (set : ChannelSet) (dead : List (Channel × Nat)) (now : Bool) :
    Kept 15 s (s.checkTold o set dead now) :=
  ((Charges.opCharged s o wholeProgress).toKept.trans (Kept.freeCarriage _)).trans (Quiet.raise _ _).charges.toKept

theorem Kept.checkDone (s : State) (o : OpInFlight) (set : ChannelSet) (dead : List (Channel × Nat)) :
    Kept 21 (s.applyCheck set dead) (s.checkDone o set dead) := by
  rw [State.checkDone_eq]
  exact (Kept.checkTold ..).trans (Quiet.foldl (Quiet.ladderTakes set dead) channels _).charges.toKept

/-! ## The lane's own effects -/

/-- The lane cleared by a lane reset (R172). -/
def Lane.cleared (l : Lane) : Lane :=
  { l with aligned := false, rx := [], hold := false, sending := none, replies := [], events := [], notice := false }

/-- The lane replaced. -/
def State.withLane (s : State) (l : Lane) : State := { s with lane := l }

/-- Every COMPOSING slot DAMAGED by a lane reset, and LANE ERROR raised (R18, R172). -/
def State.laneDamaged (s : State) : State :=
  (((List.finRange 8).foldl State.damageByReset s).dropRetained).raiseCondition (.laneError .alignment)

theorem Acts.damageByReset (s : State) (i : SlotIx) : Acts 1 s (s.damageByReset i) := by
  unfold State.damageByReset
  split
  · exact (Acts.write (t := s.damaged i) (Acts.refl s)).raise _
  · exact (Acts.refl s).mono (by omega)

theorem Acts.laneDamaged (s : State) : Acts 9 s s.laneDamaged :=
  (Acts.dropRetained ((Acts.foldl Acts.damageByReset (List.finRange 8) s).mono (n := 8) (by simp))).raiseCondition _

/-- The conditions named cleared and a notice dropped (R169). -/
theorem State.clearNamed_eq (s : State) (named : List Condition) : s.clearNamed named =
    if s.lane.conditions.stationFault && named.contains .stationFault then (s.withLane (s.lane.clear named)).wearTests.capTest
    else s.withLane (s.lane.clear named) := rfl

theorem Quiet.clearNamed (s : State) (named : List Condition) : Quiet 0 (s.withLane (s.lane.clear named)) (s.clearNamed named) := by
  rw [State.clearNamed_eq]
  split
  · exact (Quiet.wearTests _).trans (Quiet.capTest _)
  · exact Quiet.refl _

/-- The part after power-on, before the raw inputs are given to the filters (R152). -/
def State.atReset (s : State) : State := { State.reset with pending := s.pending }

theorem Acts.powerOn (s : State) (raw : Vector Bool 16) : Acts 608 s.atReset (s.powerOn raw) :=
  (Acts.foldl (fun t i => Acts.rawInput t i raw[i]) (List.finRange 16) s.atReset).mono (by simp)

/-! ## Every effect -/

/-- What an effect makes of the lane: events raised alone, after the lane has been written where the effect is one of seven. -/
inductive Lanewise (s u : State) : Bool → Prop
  | raises (n : Nat) (off : Bool) (h : Ranges n s u) : Lanewise s u off
  | powerOn (n : Nat) (h : Ranges n s.atReset u) : Lanewise s u false
  | aligned (n : Nat) (h : Ranges n (s.withLane { s.lane with aligned := true }) u) : Lanewise s u false
  | reset (n : Nat) (h : Ranges n (s.withLane s.lane.cleared) u) : Lanewise s u false
  | placed (f : Frame) (n : Nat) (ha : s.lane.aligned = true) (hr : s.lane.rx.length < 32)
      (h : Ranges n (s.withLane (s.lane.place f)) u) : Lanewise s u false
  | sent (n : Nat) (h : Ranges n (s.withLane { s.lane with sending := none }) u) : Lanewise s u false
  | popped (n : Nat) (h : Ranges n (s.withLane s.lane.pop) u) : Lanewise s u false
  | cleared (named : List Condition) (n : Nat) (h : Ranges n (s.withLane (s.lane.clear named)) u) : Lanewise s u true

theorem Effect.lanewise {c : Instr} {s u : State} (h : Effect c s u) : Lanewise s u (offLane c) := by
  have acts : ∀ {n : Nat}, Acts n s u → Lanewise s u (offLane c) := fun h => .raises _ _ h.ranges
  cases h with
  | none c s => exact acts (Acts.refl s)
  | powerOn s raw => exact .powerOn _ (Acts.powerOn s raw).ranges
  | engineReset s => exact acts (Acts.engineReset s)
  | engineResetLine s => exact acts (Acts.engineReset s)
  | laneAligned s => exact .aligned _ (Acts.refl _).ranges
  | laneReset s => exact .reset _ (Acts.laneDamaged (s.withLane s.lane.cleared)).ranges
  | frameDiscarded s => exact acts ((Acts.refl s).raiseCondition _)
  | framePlaced s bytes f ha hr => exact .placed f _ ha hr (Acts.refl _).ranges
  | returnFrameSent s => exact .sent _ (Acts.refl _).ranges
  | swathOpen s i d first last => exact .raises _ _ (Ranges.openSlot ..)
  | slice s body => exact .popped _ (Ranges.sliceEffect _ body)
  | swathMismatch s i n => exact acts (Acts.damageByCount ..)
  | swathClose s i => exact acts (Acts.write (Acts.refl s))
  | swathDiscard s i => exact acts ((Acts.refl s).freeSlot i)
  | advance s d => exact acts (Acts.write (Acts.refl s))
  | cut s => exact acts (Acts.write (Acts.refl s))
  | abort s => exact acts (Acts.abort s)
  | resume s => exact acts ((Acts.refl s).unlatched.trans (Pauses.resumeMotion _).toFeeds.acts)
  | loadMedia s src p mm => exact acts (Feeds.startLoad ..).acts
  | clearJam s => exact acts (Feeds.mediaOut s).acts
  | unloadMedia s => exact acts (Feeds.startOut s _ _ _).acts
  | eject s => exact acts (Feeds.startOut s _ _ _).acts
  | wipe s h => exact acts (Quiet.place ..).acts
  | prime s c => exact acts (Quiet.place ..).acts
  | checkNozzles s set => exact acts (Quiet.place ..).acts
  | cap s => exact acts (Quiet.place ..).acts
  | fillToMark s c => exact acts (Quiet.requestRefill ..).acts
  | resetLadder s c => exact acts (Quiet.formatterResetsLadder s c).acts
  | commitMap s => exact .raises _ _ (Ranges.of_eq)
  | tagRead s c => exact acts (Charges.beginInsertion s c).acts
  | scan s v => exact acts (Acts.write (Acts.refl s))
  | tableWrite s u t i fields clamped h => exact .raises _ _ (Ranges.of_tableStored (writeTable_stored h))
  | substitutionAdd s => exact .raises _ _ (Ranges.of_eq)
  | substitutionRemove s => exact .raises _ _ (Ranges.of_eq)
  | substitutionClear s => exact .raises _ _ (Ranges.of_eq)
  | clearConditions s named => exact .cleared named _ (Quiet.clearNamed s named).acts.ranges
  | arbiterGrant s => exact acts (Acts.arbitrate s)
  | advanceStart s d n r short rest => exact acts (Feeds.startAdvance ..).acts
  | cutStart s rest => exact acts (Feeds.startCut ..).acts
  | cutEjects s rest =>
    exact acts ((Acts.write (t := { s with queue := ⟨.cut, .active⟩ :: rest }) (Acts.refl s)).trans (Feeds.startOut _ _ _ _).acts)
  | spittoonStrobe s p => exact acts (Acts.write (Acts.refl s))
  | columnStrobe s p x => exact acts (Acts.write (Acts.refl s))
  | passCompletion s p => exact acts (Acts.endPass ..)
  | strobeTimeout s p => exact acts (Acts.setStop ..)
  | dockReported s => exact acts (Kept.docks s).acts
  | operationFails s o timeout => exact acts (Kept.failOp ..).acts
  | wipeCompletion s o h => exact acts (Kept.wipeDone ..).acts
  | primeCompletion s o c => exact acts (Kept.primeDone ..).acts
  | checkCompletion s dead o set =>
    exact .raises _ _ ((Ranges.of_eq (t := s.applyCheck set dead)).trans (Kept.checkDone s o set dead).acts.ranges)
  | capCompletion s o => exact acts (Acts.freeCarriage (Acts.write (Acts.refl s)))
  | capDelayExpiry s => exact acts (Quiet.capTest s).acts
  | strokeComplete s o c k => exact acts (Kept.strokeDone ..).acts
  | tagAnswered s c a txn => exact acts (Charges.tagAnswered ..).acts
  | tagFaults s c => exact acts (Charges.tagFaults s c).acts
  | lampBlinkToggle s c => exact acts (Acts.write (Acts.refl s))
  | rawInputChange s i b => exact acts (Acts.rawInput ..)
  | inputFilterExpiry s i b => exact acts (Acts.acceptInput ..)
  | feedEncoderCount s d => exact acts (Feeds.encoder s d).acts
  | advanceSettled s m => exact acts (Senses.advanceDone s).toFeeds.acts
  | feedStall s m => exact acts (Senses.jam ..).toFeeds.acts
  | cutTimeout s m => exact acts (Senses.cutFails s).toFeeds.acts
  | loadEdgeSettled s => exact acts (Senses.loadRests s).toFeeds.acts
  | loadBackfeedDone s => exact acts (Senses.retryDone s).toFeeds.acts
  | loadNoEdge s => exact acts (Senses.loadFails ..).toFeeds.acts
  | ejectComplete s m hm => exact acts (Senses.ejectDone hm).toFeeds.acts
  | limit s m => exact acts (Senses.jam ..).toFeeds.acts
  | unloadComplete s m => exact acts (Feeds.mediaOut s).acts
  | conversionEnd s raw i => exact acts (Acts.converted ..)
  | resultStaleExpiry s i => exact acts (Acts.makeStale ..)

/-! ## The bounds of the lane -/

/-- The bounds of the Lane Interface, of the lane alone. -/
def Lane.Bounded (l : Lane) : Prop :=
  l.rx.length ≤ 32 ∧ l.replies.length ≤ 8 ∧ l.events.length ≤ 64 ∧ (l.hold = true → 8 < l.rx.length) ∧
    (l.hold = false → l.rx.length < 24) ∧ (l.notice = true → l.conditions.eventsLost = true) ∧
    (l.aligned = false → l.rx = [] ∧ l.replies = [] ∧ l.sending = none)

theorem State.laneInv_iff (s : State) : s.LaneInv ↔ s.lane.Bounded := Iff.rfl

namespace Lane.Bounded

variable {l l' : Lane}

theorem raised {n : Nat} (h : l.Bounded) (r : l.Raised n l') : l'.Bounded := by
  obtain ⟨h1, h2, h3, h4, h5, h6, h7⟩ := h
  exact ⟨r.rx ▸ h1, r.replies ▸ h2, r.bound h3, by rw [r.hold, r.rx]; exact h4, by rw [r.hold, r.rx]; exact h5, r.notice h6,
    by rw [r.aligned, r.rx, r.replies, r.sending]; exact h7⟩

theorem pop (h : l.Bounded) : l.pop.Bounded := by
  obtain ⟨h1, h2, h3, h4, h5, h6, h7⟩ := h
  have ht : l.rx.tail.length = l.rx.length - 1 := List.length_tail
  refine ⟨by show l.rx.tail.length ≤ 32; omega, h2, h3, fun hh => ?_, fun hh => ?_, h6, fun ha => ?_⟩
  · simp only [Lane.pop, Bool.and_eq_true, decide_eq_true_eq] at hh ⊢
    have := h4 hh.1
    omega
  · simp only [Lane.pop, Bool.and_eq_false_iff, decide_eq_false_iff_not, not_not] at hh ⊢
    rcases hh with hh | hh
    · have := h5 hh; omega
    · omega
  · obtain ⟨r1, r2, r3⟩ := h7 ha
    exact ⟨by show l.rx.tail = []; rw [r1]; rfl, r2, r3⟩

theorem place (h : l.Bounded) (ha : l.aligned = true) (hr : l.rx.length < 32) (f : Frame) : (l.place f).Bounded := by
  obtain ⟨h1, h2, h3, h4, h5, h6, h7⟩ := h
  have hl : (l.place f).rx.length = l.rx.length + 1 := by simp [Lane.place]
  refine ⟨by omega, h2, h3, fun hh => ?_, fun hh => ?_, h6, fun hf => by simp [Lane.place, ha] at hf⟩
  · simp only [Lane.place, Bool.or_eq_true, decide_eq_true_eq] at hh
    rcases hh with hh | hh
    · have := h4 hh; omega
    · omega
  · simp only [Lane.place, Bool.or_eq_false_iff, decide_eq_false_iff_not] at hh
    have := h5 hh.1
    omega

theorem reply (h : l.Bounded) (ha : l.aligned = true) (hr : l.replies.length < 8) (r : Reply) : (l.reply r).Bounded := by
  obtain ⟨h1, h2, h3, h4, h5, h6, h7⟩ := h
  exact ⟨h1, by simp [Lane.reply]; omega, h3, h4, h5, h6, fun hf => by simp [Lane.reply, ha] at hf⟩

theorem choose (h : l.Bounded) (now : Nat) : (l.choose now).Bounded := by
  obtain ⟨h1, h2, h3, h4, h5, h6, h7⟩ := h
  unfold Lane.choose
  split
  next hs =>
    have aligned : ¬ l.aligned = false := by simp [hs.1]
    split
    next r rs hr => exact ⟨h1, by rw [hr] at h2; simp at h2 ⊢; omega, h3, h4, h5, h6, fun hf => absurd hf aligned⟩
    next e es hr he =>
      refine ⟨h1, h2, ?_, h4, h5, by simp, fun hf => absurd hf aligned⟩
      rw [he, List.length_cons] at h3
      dsimp only
      split
      · simp; omega
      · omega
    next => exact ⟨h1, h2, h3, h4, h5, h6, h7⟩
  next => exact ⟨h1, h2, h3, h4, h5, h6, h7⟩

theorem clear (h : l.Bounded) (named : List Condition) : (l.clear named).Bounded := by
  obtain ⟨h1, h2, h3, h4, h5, h6, h7⟩ := h
  refine ⟨h1, h2, h3, h4, h5, fun hn => ?_, h7⟩
  simp only [Lane.clear, Bool.and_eq_true, Bool.not_eq_true', List.contains_eq_mem, decide_eq_false_iff_not] at hn ⊢
  have latched : ∀ (named : List Condition) (v : Conditions), Condition.eventsLost ∉ named → v.eventsLost = true →
      (named.foldl (fun set k => set.put false k) v).eventsLost = true := by
    intro named
    induction named with
    | nil => exact fun v _ hv => hv
    | cons k ks ih =>
      intro v hk hv
      rw [List.mem_cons, not_or] at hk
      refine ih _ hk.2 ?_
      cases k <;> simp_all [Conditions.put]
  exact latched named _ hn.2 (h6 hn.1)

theorem cleared : l.cleared.Bounded := by simp [Lane.Bounded, Lane.cleared]

theorem aligning (h : l.Bounded) : ({ l with aligned := true } : Lane).Bounded := by
  obtain ⟨h1, h2, h3, h4, h5, h6, h7⟩ := h
  exact ⟨h1, h2, h3, h4, h5, h6, fun hf => by simp at hf⟩

theorem sent (h : l.Bounded) : ({ l with sending := none } : Lane).Bounded := by
  obtain ⟨h1, h2, h3, h4, h5, h6, h7⟩ := h
  exact ⟨h1, h2, h3, h4, h5, h6, fun hf => ⟨(h7 hf).1, (h7 hf).2.1, rfl⟩⟩

theorem aligned_of_rx (h : l.Bounded) (hr : l.rx ≠ []) : l.aligned = true := by
  obtain ⟨-, -, -, -, -, -, h7⟩ := h
  cases ha : l.aligned with
  | true => rfl
  | false => exact absurd (h7 ha).1 hr

end Lane.Bounded

theorem reset_bounded (s : State) : s.atReset.lane.Bounded := by
  show initLane.Bounded
  unfold Lane.Bounded
  decide
theorem reset_store (s : State) : s.atReset.StoreInv := ⟨.nil, by simp [State.atReset, State.reset]⟩

theorem reset_carry (s : State) : s.atReset.CarryInv := by
  refine ⟨fun c => ?_, by show initFeed.residue < 3000000; decide, by show initFeed.window.length ≤ 4; decide⟩
  simp [State.atReset, State.reset, initAccount, initCartridge]

/-! ## Steps -/

theorem Effect.laneInv {c : Instr} {s u : State} (h : Effect c s u) (hs : s.lane.Bounded) : u.lane.Bounded := by
  have l := h.lanewise
  generalize offLane c = off at l
  cases l with
  | raises n off h => exact hs.raised h.lane
  | powerOn n h => exact (reset_bounded s).raised h.lane
  | aligned n h => exact hs.aligning.raised h.lane
  | reset n h => exact Lane.Bounded.cleared.raised h.lane
  | placed f n ha hr h => exact (hs.place ha hr f).raised h.lane
  | sent n h => exact hs.sent.raised h.lane
  | popped n h => exact hs.pop.raised h.lane
  | cleared named n h => exact (hs.clear named).raised h.lane

/-- But for the lane and POWER_ON, an effect keeps the ranges. -/
theorem Effect.ranges {c : Instr} {s u : State} (h : Effect c s u) :
    (∃ n l, Ranges n (s.withLane l) u) ∨ ∃ n, Ranges n s.atReset u := by
  have l := h.lanewise
  generalize offLane c = off at l
  cases l with
  | raises n off h => exact .inl ⟨n, s.lane, h⟩
  | powerOn n h => exact .inr ⟨n, h⟩
  | aligned n h => exact .inl ⟨n, _, h⟩
  | reset n h => exact .inl ⟨n, _, h⟩
  | placed f n _ _ h => exact .inl ⟨n, _, h⟩
  | sent n h => exact .inl ⟨n, _, h⟩
  | popped n h => exact .inl ⟨n, _, h⟩
  | cleared named n h => exact .inl ⟨n, _, h⟩

theorem Effect.storeInv {c : Instr} {s u : State} (h : Effect c s u) (hs : s.StoreInv) : u.StoreInv := by
  rcases h.ranges with ⟨n, l, h⟩ | ⟨n, h⟩
  · exact h.store hs
  · exact h.store (reset_store s)

theorem Effect.carryInv {c : Instr} {s u : State} (h : Effect c s u) (hs : s.CarryInv) : u.CarryInv := by
  rcases h.ranges with ⟨n, l, h⟩ | ⟨n, h⟩
  · exact h.carry hs
  · exact h.carry (reset_carry s)

/-- A command off the lane leaves the lane's alignment and its replies. -/
theorem Effect.offLane_lane {c : Instr} {s u : State} (h : Effect c s u) (hc : offLane c = true) :
    u.lane.aligned = s.lane.aligned ∧ u.lane.replies = s.lane.replies := by
  have l := h.lanewise
  rw [hc] at l
  cases l with
  | raises n off h => exact ⟨h.lane.aligned, h.lane.replies⟩
  | cleared named n h => exact ⟨h.lane.aligned, h.lane.replies⟩

theorem Step.laneInv {c : Instr} {s u : State} (h : Step c s u) (hs : s.lane.Bounded) : u.lane.Bounded := by
  rcases h with h | ⟨hc, v, r, hx, hl, h, rfl⟩
  · exact h.laneInv hs
  · obtain ⟨ha, hr⟩ := h.offLane_lane hc
    exact (h.laneInv (s := s.withLane s.lane.pop) hs.pop).reply (ha.trans (hs.aligned_of_rx hx)) (by rw [hr]; exact hl) r

theorem Step.storeInv {c : Instr} {s u : State} (h : Step c s u) (hs : s.StoreInv) : u.StoreInv := by
  rcases h with h | ⟨-, v, r, -, -, h, rfl⟩
  · exact h.storeInv hs
  · exact h.storeInv (s := s.withLane s.lane.pop) hs

theorem Step.carryInv {c : Instr} {s u : State} (h : Step c s u) (hs : s.CarryInv) : u.CarryInv := by
  rcases h with h | ⟨-, v, r, -, -, h, rfl⟩
  · exact h.carryInv hs
  · exact h.carryInv (s := s.withLane s.lane.pop) hs

/-! ## What follows a step -/

theorem finish_laneInv (force : Bool) (s0 : State) {u : State} (h : u.lane.Bounded) : (State.finish force s0 u).lane.Bounded := by
  rw [State.finish_eq]
  exact (h.raised (Orderly.settle force s0 u).lane).choose _

theorem Follows.storeInv {u t : State} (h : Follows u t) (hu : u.StoreInv) : t.StoreInv := by
  rw [State.StoreInv, h.store]; exact hu

theorem Follows.carryInv {u t : State} (h : Follows u t) (hu : u.CarryInv) : t.CarryInv := by
  refine ⟨fun c => ⟨by rw [h.accounts]; exact (hu.1 c).1, ?_⟩, by rw [h.feed]; exact hu.2⟩
  have : t.carts[c].tagCarry = u.carts[c].tagCarry := congrArg (·.tagCarry) (h.carts c)
  rw [this]
  exact (hu.1 c).2

/-- What a step can be: a millisecond, a command that does nothing, or a command's effect with what follows every step. -/
theorem step_cases {s t : State} (h : step s = .next t) : t = { s with now := s.now + 1 } ∨
    ∃ c rest, Took c ({ s with pending := rest } : State) t := by
  unfold step at h
  split at h
  · exact .inl (Host.Outcome.next.inj h).symm
  next c rest hp => exact .inr ⟨c, rest, took_of_exec h⟩

/-- Settles O54. -/
theorem stepsKeepLaneStoreAndCarries : Obligations.StepsKeepLaneStoreAndCarries := by
  intro s t h
  rcases step_cases h with rfl | ⟨c, rest, h⟩
  · exact ⟨id, id, id⟩
  · cases h with
    | idle => exact ⟨id, id, id⟩
    | ran force s0 u k =>
      have follows := Follows.finish force s0 u
      exact ⟨fun hs => finish_laneInv force s0 (k.laneInv hs), fun hs => follows.storeInv (k.storeInv hs),
        fun hs => follows.carryInv (k.carryInv hs)⟩

end Sys2Proof.Machine
end

section
/-!
PROOFS. The agreement of queue, slots, pass and an entry's motion, said of the slots and phases that the entries name; and of slots and map
generations. How each operation moves them.
-/

-- One declaration at a time: side by side, the threads' stacks come near the memory limit of the check.
set_option Elab.async false

namespace Sys2Proof.Machine

/-! ## The queue by its marks -/

/-- The slot that an entry names, if any, and its phase. -/
def Entry.mark (e : Entry) : Option SlotIx × Phase :=
  (match e.job with
    | .swath i _ => some i
    | _ => none, e.phase)

/-- The queue by its marks. -/
def State.marks (s : State) : List (Option SlotIx × Phase) := s.queue.map Entry.mark

/-- A motion of an entry is in flight. -/
def State.entryMoves (s : State) : Prop := ∃ m, s.feed.motion = some m ∧ m.owner = .entry

/-- Queue, slot states, the slot of the pass and an entry's motion agree (R13, R21, R23, R29). -/
structure Ordered (q : List (Option SlotIx × Phase)) (st : SlotIx → SlotState) (pass : Option SlotIx) (moves : Prop) : Prop where
  short : q.length ≤ 16
  waiting : ∀ e ∈ q.tail, e.2 = .waiting
  once : (q.filterMap (·.1)).Nodup
  queued : ∀ i, st i = .queued ↔ (some i, .waiting) ∈ q
  printing : ∀ i, st i = .printing ↔ pass = some i
  active : ∀ i, (some i, .active) ∈ q → pass = some i
  head : ∀ i, pass = some i → ∃ rest, q = (some i, .active) :: rest
  motion : moves → ∃ rest, q = (none, .active) :: rest

/-- The agreement in a state. -/
def State.Orders (s : State) : Prop :=
  Ordered s.marks (fun i => s.slots[i].state) (s.pass.map (·.slot)) s.entryMoves

theorem Entry.mem_marks_swath {q : List Entry} {i : SlotIx} {p : Phase} :
    (some i, p) ∈ q.map Entry.mark ↔ ∃ rep, (⟨.swath i rep, p⟩ : Entry) ∈ q := by
  rw [List.mem_map]
  constructor
  · rintro ⟨⟨j, ph⟩, he, hm⟩
    cases j <;> simp only [Entry.mark, Prod.mk.injEq, Option.some.injEq, reduceCtorEq, false_and] at hm
    obtain ⟨rfl, rfl⟩ := hm
    exact ⟨_, he⟩
  · rintro ⟨rep, he⟩
    exact ⟨_, he, rfl⟩

theorem Entry.marks_eq_swath_cons {q : List Entry} {i : SlotIx} {p : Phase} :
    (∃ rest, q.map Entry.mark = (some i, p) :: rest) ↔ ∃ rep rest, q = ⟨.swath i rep, p⟩ :: rest := by
  constructor
  · rintro ⟨rest, h⟩
    rw [List.map_eq_cons_iff] at h
    obtain ⟨⟨j, ph⟩, l, rfl, hm, -⟩ := h
    cases j <;> simp only [Entry.mark, Prod.mk.injEq, Option.some.injEq, reduceCtorEq, false_and] at hm
    obtain ⟨rfl, rfl⟩ := hm
    exact ⟨_, l, rfl⟩
  · rintro ⟨rep, rest, rfl⟩
    exact ⟨_, rfl⟩

theorem Entry.marks_eq_other_cons {q : List Entry} {p : Phase} :
    (∃ rest, q.map Entry.mark = (none, p) :: rest) ↔ ∃ j rest, q = ⟨j, p⟩ :: rest ∧ ∀ i rep, j ≠ .swath i rep := by
  constructor
  · rintro ⟨rest, h⟩
    rw [List.map_eq_cons_iff] at h
    obtain ⟨⟨j, ph⟩, l, rfl, hm, -⟩ := h
    cases j <;> simp only [Entry.mark, Prod.mk.injEq, reduceCtorEq, false_and, true_and] at hm <;> subst hm
    · exact ⟨_, l, rfl, by simp⟩
    · exact ⟨_, l, rfl, by simp⟩
  · rintro ⟨j, rest, rfl, hj⟩
    refine ⟨rest.map Entry.mark, ?_⟩
    cases j with
    | swath i rep => exact absurd rfl (hj i rep)
    | advance d n r x => rfl
    | cut => rfl

theorem State.filterMap_marks (s : State) : s.marks.filterMap (·.1) = s.queue.filterMap fun e => e.mark.1 := by
  rw [State.marks, List.filterMap_map]
  rfl

theorem State.orders_iff (s : State) : s.Orders ↔ s.QueueInv ∧ s.PassInv := by
  have pass : ∀ i, s.pass.map (·.slot) = some i ↔ ∃ p, s.pass = some p ∧ p.slot = i := fun i => Option.map_eq_some_iff
  have tail : (∀ e ∈ s.marks.tail, e.2 = .waiting) ↔ ∀ e ∈ s.queue.tail, e.phase = .waiting := by
    rw [State.marks, ← List.map_tail, List.forall_mem_map]
    rfl
  constructor
  · rintro ⟨h1, h2, h3, h4, h5, h6, h7, h8⟩
    refine ⟨⟨by simpa [State.marks] using h1, tail.1 h2⟩, by rw [State.filterMap_marks] at h3; exact h3,
      fun i => (h4 i).trans Entry.mem_marks_swath, fun i => (h5 i).trans (pass i),
      fun i rep h => (pass i).1 (h6 i (Entry.mem_marks_swath.2 ⟨rep, h⟩)),
      fun p hp => Entry.marks_eq_swath_cons.1 (h7 p.slot ((pass _).2 ⟨p, hp, rfl⟩)), fun m hm ho => ?_⟩
    exact Entry.marks_eq_other_cons.1 (h8 ⟨m, hm, ho⟩)
  · rintro ⟨⟨h1, h2⟩, h3, h4, h5, h6, h7, h8⟩
    refine ⟨by simpa [State.marks] using h1, tail.2 h2, by rw [State.filterMap_marks]; exact h3,
      fun i => (h4 i).trans Entry.mem_marks_swath.symm, fun i => (h5 i).trans (pass i).symm, fun i h => ?_, fun i h => ?_, ?_⟩
    · obtain ⟨rep, hr⟩ := Entry.mem_marks_swath.1 h
      exact (pass i).2 (h6 i rep hr)
    · obtain ⟨p, hp, rfl⟩ := (pass i).1 h
      exact Entry.marks_eq_swath_cons.2 (h7 p hp)
    · rintro ⟨m, hm, ho⟩
      exact Entry.marks_eq_other_cons.2 (h8 m hm ho)

namespace Ordered

variable {q rest : List (Option SlotIx × Phase)} {st st' : SlotIx → SlotState} {pass : Option SlotIx} {moves moves' : Prop}

theorem slots (h : Ordered q st pass moves) (hq : ∀ i, st' i = .queued ↔ st i = .queued)
    (hp : ∀ i, st' i = .printing ↔ st i = .printing) (hm : moves' → moves) : Ordered q st' pass moves' :=
  { h with
    queued := fun i => (hq i).trans (h.queued i)
    printing := fun i => (hp i).trans (h.printing i)
    motion := fun k => h.motion (hm k) }

/-- An ADVANCE or CUT entry appended in phase WAITING (R21). -/
theorem append (h : Ordered q st pass moves) (hl : q.length < 16) : Ordered (q ++ [(none, .waiting)]) st pass moves where
  short := by simp; omega
  waiting e he := by
    cases q with
    | nil => simp at he
    | cons x xs =>
      rw [List.cons_append, List.tail_cons, List.mem_append, List.mem_singleton] at he
      rcases he with he | rfl
      · exact h.waiting e he
      · rfl
  once := by simpa using h.once
  queued i := by rw [h.queued i]; simp
  printing := h.printing
  active i hi := h.active i (by simpa using hi)
  head i hi := by obtain ⟨rest, rfl⟩ := h.head i hi; exact ⟨_, rfl⟩
  motion k := by obtain ⟨rest, rfl⟩ := h.motion k; exact ⟨_, rfl⟩

theorem not_mem_of_composing (h : Ordered q st pass moves) {i : SlotIx} (hi : st i ≠ .queued) (hp : st i ≠ .printing) (p : Phase) :
    (some i, p) ∉ q := by
  cases p with
  | waiting => exact fun hm => hi ((h.queued i).2 hm)
  | active => exact fun hm => hp ((h.printing i).2 (h.active i hm))

/-- A closed swath's slot QUEUED with its entry (R13). -/
theorem close (h : Ordered q st pass moves) (hl : q.length < 16) {i : SlotIx} (hi : st i ≠ .queued) (hp : st i ≠ .printing)
    (hst : ∀ j, st' j = if j = i then .queued else st j) : Ordered (q ++ [(some i, .waiting)]) st' pass moves where
  short := by simp; omega
  waiting e he := by
    cases q with
    | nil => simp at he
    | cons x xs =>
      rw [List.cons_append, List.tail_cons, List.mem_append, List.mem_singleton] at he
      rcases he with he | rfl
      · exact h.waiting e he
      · rfl
  once := by
    rw [List.filterMap_append, List.nodup_append]
    refine ⟨h.once, by simp, fun a ha b hb => ?_⟩
    obtain ⟨⟨j, p⟩, hj, rfl⟩ := List.mem_filterMap.1 ha
    simp only [List.filterMap_cons, List.filterMap_nil, List.mem_singleton] at hb
    rintro rfl
    subst hb
    exact h.not_mem_of_composing hi hp p hj
  queued j := by
    rw [hst j, List.mem_append, List.mem_singleton, Prod.mk.injEq, Option.some.injEq]
    split
    next e => simp [e]
    next e => simp [e, h.queued j]
  printing j := by
    rw [hst j, ← h.printing j]
    split
    next e => subst e; simp [hp]
    next => rfl
  active j hj := h.active j (by simpa using hj)
  head j hj := by obtain ⟨rest, rfl⟩ := h.head j hj; exact ⟨_, rfl⟩
  motion k := by obtain ⟨rest, rfl⟩ := h.motion k; exact ⟨_, rfl⟩

/-- The pass ends, its entry leaves and its slot becomes FREE (R38, R40). -/
theorem passEnds {i : SlotIx} (h : Ordered q st (some i) moves) (hst : ∀ j, st' j = if j = i then .free else st j) (hm : moves' → moves) :
    Ordered q.tail st' none moves' := by
  obtain ⟨rest, rfl⟩ := h.head i rfl
  have once := h.once
  simp only [List.filterMap_cons, List.nodup_cons] at once
  have gone : ∀ p, (some i, p) ∉ rest := fun p hp => once.1 (List.mem_filterMap.2 ⟨_, hp, rfl⟩)
  refine ⟨by have := h.short; simp at this ⊢; omega, fun e he => h.waiting e (List.mem_of_mem_tail he), once.2, fun j => ?_, fun j => ?_,
    fun j hj => ?_, nofun, fun k => ?_⟩
  · rw [hst j]
    split
    next e => subst e; simpa using gone .waiting
    next e => rw [h.queued j]; simp
  · rw [hst j]
    split
    next e => simp
    next e =>
      simp only [reduceCtorEq, iff_false]
      exact fun hp => e (Option.some.inj ((h.printing j).1 hp)).symm
  · have := h.waiting _ hj
    simp at this
  · obtain ⟨l, hl⟩ := h.motion (hm k)
    simp at hl

/-- The WAITING SWATH head is released (R29). -/
theorem release {i : SlotIx} (h : Ordered ((some i, .waiting) :: rest) st none moves)
    (hst : ∀ j, st' j = if j = i then .printing else st j) (hm : moves' → moves) :
    Ordered ((some i, .active) :: rest) st' (some i) moves' := by
  have once := h.once
  simp only [List.filterMap_cons, List.nodup_cons] at once
  have gone : ∀ p, (some i, p) ∉ rest := fun p hp => once.1 (List.mem_filterMap.2 ⟨_, hp, rfl⟩)
  refine ⟨by have := h.short; simpa using this, h.waiting, h.once, fun j => ?_, fun j => ?_, fun j hj => ?_, fun j hj => ?_, fun k => ?_⟩
  · rw [hst j]
    split
    next e => subst e; simpa using gone .waiting
    next e => rw [h.queued j]; simp [e]
  · rw [hst j]
    split
    next e => simp [e]
    next e =>
      rw [h.printing j]
      simp only [reduceCtorEq, Option.some.injEq, false_iff]
      exact fun he => e he.symm
  · rw [List.mem_cons] at hj
    rcases hj with hj | hj
    · simp only [Prod.mk.injEq, Option.some.injEq, and_true] at hj
      rw [hj]
    · have := h.waiting _ hj
      simp at this
  · cases hj; exact ⟨rest, rfl⟩
  · obtain ⟨l, hl⟩ := h.motion (hm k)
    simp at hl

/-- The WAITING ADVANCE or CUT head becomes ACTIVE (R30, R31). -/
theorem start (h : Ordered ((none, .waiting) :: rest) st pass moves) : Ordered ((none, .active) :: rest) st pass moves' := by
  have noPass : pass = none := by
    cases pass with
    | none => rfl
    | some i => obtain ⟨l, hl⟩ := h.head i rfl; simp at hl
  subst noPass
  exact ⟨by have := h.short; simpa using this, h.waiting, by simpa using h.once, fun j => by rw [h.queued j]; simp, h.printing,
    fun j hj => by
      have := h.waiting _ (List.mem_of_ne_of_mem (by simp) hj)
      simp at this, nofun, fun _ => ⟨rest, rfl⟩⟩

/-- The motion of the head entry ends, and the entry leaves (R23). -/
theorem entryEnds (h : Ordered ((none, .active) :: rest) st pass moves) (hm : ¬ moves') : Ordered rest st pass moves' := by
  have noPass : pass = none := by
    cases pass with
    | none => rfl
    | some i => obtain ⟨l, hl⟩ := h.head i rfl; simp at hl
  subst noPass
  exact ⟨by have := h.short; simp at this; omega, fun e he => h.waiting e (List.mem_of_mem_tail he), by simpa using h.once,
    fun j => by rw [h.queued j]; simp, h.printing, fun j hj => by
      have := h.waiting _ hj
      simp at this, nofun, fun k => absurd k hm⟩

/-- With the queue empty and no pass, no slot QUEUED or PRINTING. -/
theorem empty (hq : ∀ i, st i ≠ .queued) (hp : ∀ i, st i ≠ .printing) (hm : ¬ moves) : Ordered [] st none moves :=
  ⟨by simp, by simp, by simp, fun i => by simp [hq i], fun i => by simp [hp i], by simp, nofun, fun k => absurd k hm⟩

end Ordered

/-! ## Slots and generations (R82, R83) -/

/-- The slot refers to a bank. -/
def Slot.inUse (sl : Slot) : Prop := sl.state = .composing ∨ sl.state = .queued ∨ sl.state = .printing

theorem Slot.refers_iff (sl : Slot) (g : Nat) : sl.refers g = true ↔ sl.gen = some g ∧ sl.inUse := by
  simp [Slot.refers, Slot.inUse, or_assoc]

/-- The slots in use refer to Current or Retained. -/
def BoundTo (slots : Vector Slot 8) (m : Maps) : Prop :=
  ∀ i : SlotIx, slots[i].inUse → slots[i].gen = some m.currentGen ∨ (slots[i].gen ≠ none ∧ slots[i].gen = m.retainedGen)

theorem State.genInv_iff (s : State) : s.GenInv ↔ BoundTo s.slots s.maps ∧ ∀ g, s.maps.retainedGen = some g → s.referenced g = true := Iff.rfl

theorem State.referenced_iff_inUse (s : State) (g : Nat) : s.referenced g = true ↔ ∃ j : SlotIx, s.slots[j].gen = some g ∧ s.slots[j].inUse :=
  s.referenced_iff g

/-- Emptying a Retained that no slot refers to makes the generations agree (R83). -/
theorem State.genInv_dropRetained {s : State} (h : BoundTo s.slots s.maps) : s.dropRetained.GenInv := by
  rw [State.genInv_iff]
  cases hg : s.maps.retainedGen with
  | none =>
    have same : s.dropRetained = s := by unfold State.dropRetained; simp [hg]
    rw [same]
    exact ⟨h, fun g k => by rw [hg] at k; cases k⟩
  | some g =>
    by_cases hr : s.referenced g = true
    · have same : s.dropRetained = s := by unfold State.dropRetained; simp [hg, hr]
      rw [same]
      exact ⟨h, fun g' k => by rw [hg] at k; cases k; exact hr⟩
    · have maps : s.dropRetained.maps = { s.maps with retained := emptyBank, retainedGen := none } := by
        unfold State.dropRetained; simp [hg, hr]
      rw [maps]
      refine ⟨fun i hi => ?_, nofun⟩
      rcases h i hi with k | ⟨-, k⟩
      · exact .inl k
      · exact absurd ((s.referenced_iff_inUse g).2 ⟨i, k.trans hg, hi⟩) hr

/-- Slots that leave use, or none that come into it, keep the binding. -/
theorem BoundTo.of_slots {u v : Vector Slot 8} {m : Maps} (h : BoundTo u m)
    (hs : ∀ i : SlotIx, v[i].inUse → u[i].inUse ∧ v[i].gen = u[i].gen) : BoundTo v m := fun i hi => by
  obtain ⟨hu, hg⟩ := hs i hi
  rw [hg]
  exact h i hu

end Sys2Proof.Machine
end

section
/-!
PROOFS. The carriage: who holds it, which refill record stands, and whether it is docked (R62, R109), through strokes, ends of refills and operations,
grants and docks.
-/

-- One declaration at a time: side by side, the threads' stacks come near the memory limit of the check.
set_option Elab.async false

namespace Sys2Proof.Machine

/-- The carriage invariant reads the pass, the holder, the dock and the refill records alone. -/
theorem carriageInv_congr {s t : State} (hp : t.pass.isSome = s.pass.isSome) (hh : t.service.holder = s.service.holder)
    (hd : t.service.docked = s.service.docked) (hr : ∀ c : Channel, t.supply[c].refill.isSome = s.supply[c].refill.isSome)
    (hs : s.CarriageInv) : t.CarriageInv := by
  unfold State.CarriageInv
  rw [hp, hh, hd]
  exact ⟨hs.1, fun c => by rw [hr c]; exact hs.2.1 c, hs.2.2⟩

/-- From s to t the holder, the dock and the presence of each refill record stand. -/
structure Held (s t : State) : Prop where
  holder : t.service.holder = s.service.holder
  docked : t.service.docked = s.service.docked
  refills : ∀ c : Channel, t.supply[c].refill.isSome = s.supply[c].refill.isSome

/-- The refill of channel c has ended and the carriage is free; the other refill records stand (R64). -/
structure Closed (c : Channel) (s t : State) : Prop where
  holder : t.service.holder = .free
  refill : t.supply[c].refill.isSome = false
  others : ∀ d : Channel, d ≠ c → t.supply[d].refill.isSome = s.supply[d].refill.isSome

theorem Held.refl (s : State) : Held s s := ⟨rfl, rfl, fun _ => rfl⟩

theorem Held.trans {s t u : State} (h : Held s t) (k : Held t u) : Held s u :=
  ⟨k.holder.trans h.holder, k.docked.trans h.docked, fun c => (k.refills c).trans (h.refills c)⟩

theorem Charges.held {n : Nat} {s t : State} (h : Charges n s t) : Held s t :=
  ⟨h.holder, h.docked, fun c => by rw [(h.refills c).1]⟩

theorem Quiet.held {n : Nat} {s t : State} (h : Quiet n s t) : Held s t := h.charges.held

theorem Held.of_eq {s t : State} (holder : t.service.holder = s.service.holder := by rfl)
    (docked : t.service.docked = s.service.docked := by rfl) (supply : t.supply = s.supply := by rfl) : Held s t :=
  ⟨holder, docked, fun c => by rw [supply]⟩

theorem Held.closed {c : Channel} {s t u : State} (h : Held s t) (k : Closed c t u) : Closed c s u :=
  ⟨k.holder, k.refill, fun d hd => (k.others d hd).trans (h.refills d)⟩

theorem Closed.held {c : Channel} {s t u : State} (h : Closed c s t) (k : Held t u) : Closed c s u :=
  ⟨k.holder.trans h.holder, (k.refills c).trans h.refill, fun d hd => (k.refills d).trans (h.others d hd)⟩

theorem Held.carriageInv {s t : State} (h : Held s t) (hp : t.pass.isSome = s.pass.isSome) (hs : s.CarriageInv) : t.CarriageInv :=
  carriageInv_congr hp h.holder h.docked h.refills hs

/-- With the carriage free there is no pass and no refill record. -/
theorem State.CarriageInv.of_free {s : State} (h : s.CarriageInv) (hh : s.service.holder = .free) :
    s.pass.isSome = false ∧ ∀ c : Channel, s.supply[c].refill.isSome = false := by
  obtain ⟨h1, h2, -⟩ := h
  rw [hh] at h1 h2
  refine ⟨Bool.eq_false_iff.2 fun k => (by cases h1.1 k), fun c => Bool.eq_false_iff.2 fun k => ?_⟩
  obtain ⟨o, ho, -⟩ := (h2 c).1 k
  cases ho

theorem State.carriageInv_free {s : State} (hh : s.service.holder = .free) (hp : s.pass.isSome = false)
    (hr : ∀ c : Channel, s.supply[c].refill.isSome = false) : s.CarriageInv := by
  refine ⟨by rw [hp, hh]; simp, fun c => ?_, fun o ho => by rw [hh] at ho; cases ho⟩
  rw [hr c, hh]
  simp

/-- With an operation in flight there is no pass, and a refill record for its refill channel alone. -/
theorem State.CarriageInv.of_op {s : State} (h : s.CarriageInv) {o : OpInFlight} (ho : s.service.holder = .op o) :
    s.pass.isSome = false ∧ ∀ c : Channel, s.supply[c].refill.isSome = decide (o.req.op.refillChannel = some c) := by
  obtain ⟨h1, h2, -⟩ := h
  rw [ho] at h1 h2
  refine ⟨Bool.eq_false_iff.2 fun k => (by cases h1.1 k), fun c => ?_⟩
  rw [Bool.eq_iff_iff, h2 c, decide_eq_true_eq]
  exact ⟨fun ⟨o', ho', k⟩ => by cases ho'; exact k, fun k => ⟨o, rfl, k⟩⟩

/-- A refill that ended leaves no refill record, no pass and a free carriage. -/
theorem Closed.carriageInv {c : Channel} {s t : State} (h : Closed c s t) (hp : t.pass.isSome = s.pass.isSome) (hs : s.CarriageInv)
    (hr : s.supply[c].refill.isSome = true) : t.CarriageInv := by
  obtain ⟨o, ho, hc⟩ := (hs.2.1 c).1 hr
  obtain ⟨noPass, only⟩ := hs.of_op ho
  refine State.carriageInv_free h.holder (hp.trans noPass) fun d => ?_
  by_cases e : d = c
  · rw [e]; exact h.refill
  · rw [h.others d e, only d, hc]
    simp [Ne.symm e]

/-! ## Ends of refills (R64, R66) -/

theorem Closed.closeRefill (s : State) (c : Channel) (k : Refill) : Closed c s (s.closeRefill c k) where
  holder := rfl
  refill := by show ((modifyAt s.supply c _)[c]).refill.isSome = false; rw [getElem_modifyAt, if_pos rfl]; rfl
  others d hd := by show ((modifyAt s.supply c _)[d]).refill.isSome = _; rw [getElem_modifyAt, if_neg hd]

theorem Held.setFaultMark (s : State) (c : Channel) : Held s (s.setFaultMark c) :=
  ⟨rfl, rfl, fun d => by
    show ((modifyAt s.supply c _)[d]).refill.isSome = _
    rw [getElem_modifyAt]; split
    next e => rw [e]
    next => rfl⟩

theorem Closed.endRefill (s : State) (c : Channel) (k : Refill) (why : RefillEnd) : Closed c s (s.endRefill c k why) :=
  ((Closed.closeRefill s c k).held (Quiet.refillDone _ c k why).held).held (Quiet.reformSupply _ c).held

theorem Closed.faultRefill (s : State) (c : Channel) (k : Refill) (why : RefillFaultReason) : Closed c s (s.faultRefill c k why) :=
  ((((Closed.closeRefill s c k).held (Held.setFaultMark _ c)).held (Quiet.raise _ _).held).held (Quiet.raiseCondition _ _).held).held
    (Quiet.reformSupply _ c).held

theorem Held.strokeBegun {s : State} {c : Channel} {k k0 : Refill} (h : s.supply[c].refill = some k0) : Held s (s.strokeBegun c k) :=
  ⟨rfl, rfl, fun d => by
    show ((modifyAt s.supply c _)[d]).refill.isSome = _
    rw [getElem_modifyAt]; split
    next e => rw [e, h]; rfl
    next => rfl⟩

theorem held_or_closed_beginStroke (s : State) (c : Channel) : Held s (s.beginStroke c) ∨ Closed c s (s.beginStroke c) := by
  cases hk : s.supply[c].refill with
  | none => rw [State.beginStroke_of_none hk]; exact .inl (.refl s)
  | some k =>
    rw [State.beginStroke_eq hk]
    split_ifs
    · exact .inr (Closed.endRefill ..)
    · exact .inr ((Charges.emptied s c).held.closed (Closed.endRefill ..))
    · exact .inr (Closed.faultRefill ..)
    · exact .inr (Closed.faultRefill ..)
    · exact .inl (Held.strokeBegun hk)

theorem Closed.markDetected (s : State) (c : Channel) (k : Refill) : Closed c s (s.markDetected c k) := by
  have marked : Held s (s.markReached c k) := ⟨rfl, rfl, fun d => by
    show ((modifyAt s.supply c _)[d]).refill.isSome = _
    rw [getElem_modifyAt]; split
    next e => rw [e]
    next => rfl⟩
  rw [State.markDetected_eq]
  exact (((marked.closed (Closed.closeRefill _ c k)).held (Quiet.refillDone _ c k .mark).held).held (Quiet.raise _ _).held).held
    (Quiet.reformSupply _ c).held

/-! ## What keeps the carriage invariant -/

/-- The step keeps the pass and the carriage invariant. -/
structure Conveys (s t : State) : Prop where
  pass : t.pass.isSome = s.pass.isSome
  inv : s.CarriageInv → t.CarriageInv

theorem Conveys.trans {s t u : State} (h : Conveys s t) (k : Conveys t u) : Conveys s u := ⟨k.pass.trans h.pass, k.inv ∘ h.inv⟩

theorem Held.conveys {s t : State} (h : Held s t) (hp : t.pass = s.pass) : Conveys s t :=
  ⟨by rw [hp], h.carriageInv (by rw [hp])⟩

theorem Charges.conveys {n : Nat} {s t : State} (h : Charges n s t) : Conveys s t := h.held.conveys h.pass
theorem Quiet.conveys {n : Nat} {s t : State} (h : Quiet n s t) : Conveys s t := h.charges.conveys

theorem Conveys.beginStroke (s : State) (c : Channel) : Conveys s (s.beginStroke c) := by
  have pass : (s.beginStroke c).pass.isSome = s.pass.isSome := by rw [(Kept.beginStroke s c).pass]
  refine ⟨pass, fun hs => ?_⟩
  cases hk : s.supply[c].refill with
  | none => rw [State.beginStroke_of_none hk]; exact hs
  | some k =>
    rcases held_or_closed_beginStroke s c with h | h
    · exact h.carriageInv pass hs
    · exact h.carriageInv pass hs (by rw [hk]; rfl)

theorem Conveys.endRefill {s : State} {c : Channel} {k0 : Refill} (hk : s.supply[c].refill = some k0) (k : Refill) (why : RefillEnd) :
    Conveys s (s.endRefill c k why) := by
  have pass : (s.endRefill c k why).pass.isSome = s.pass.isSome := by rw [(Kept.endRefill s c k why).pass]
  exact ⟨pass, fun hs => (Closed.endRefill ..).carriageInv pass hs (by rw [hk]; rfl)⟩

theorem Conveys.endRefillAt (s : State) (c : Channel) (why : RefillEnd) : Conveys s (s.endRefillAt c why) := by
  unfold State.endRefillAt
  split
  next k hk => exact Conveys.endRefill hk k why
  next => exact (Charges.refl s).conveys

theorem Conveys.removeCartridge (s : State) (c : Channel) : Conveys s (s.removeCartridge c) := by
  rw [State.removeCartridge_eq]
  have unlinked : Charges 0 s (s.unlinked c) := Charges.setCarts s c (by exact id)
  exact (unlinked.conveys.trans (Conveys.endRefillAt ..)).trans (Charges.setCart _ c _ _ fun _ => by show 0 < 1000; omega).conveys

theorem Conveys.strokeDone {s : State} {c : Channel} {k : Refill} (hk : s.supply[c].refill = some k) : Conveys s (s.strokeDone c k) := by
  have counted : Held s (s.strokeCounted c k) := ⟨rfl, rfl, fun d => by
    show ((modifyAt s.supply c _)[d]).refill.isSome = _
    rw [getElem_modifyAt]; split
    next e => rw [e, hk]; rfl
    next => rfl⟩
  have formed : Held s ((s.strokeCounted c k).reformCart c) := counted.trans (Charges.reformCart _ c).held
  have pass : ∀ {t : State} {n : Nat}, Kept n ((s.strokeCounted c k).reformCart c) t → t.pass.isSome = s.pass.isSome := fun h => by
    rw [h.pass, (Charges.reformCart _ c).pass]; rfl
  have stands : s.supply[c].refill.isSome = true := by rw [hk]; rfl
  rw [State.strokeDone_eq]
  dsimp only
  split_ifs
  · exact ⟨pass (Kept.markDetected ..), fun hs => (formed.closed (Closed.markDetected ..)).carriageInv (pass (Kept.markDetected ..)) hs stands⟩
  · exact ⟨pass (Kept.endRefill ..), fun hs => (formed.closed (Closed.endRefill ..)).carriageInv (pass (Kept.endRefill ..)) hs stands⟩
  · exact (formed.conveys (by rw [(Charges.reformCart _ c).pass]; rfl)).trans (Conveys.beginStroke ..)

/-! ## Ends of operations (R109 to R112) -/

theorem State.CarriageInv.freeCarriage {s : State} {o : OpInFlight} (hs : s.CarriageInv) (ho : s.service.holder = .op o)
    (hr : o.req.op.refillChannel = none) : s.freeCarriage.CarriageInv := by
  obtain ⟨noPass, only⟩ := hs.of_op ho
  exact State.carriageInv_free rfl noPass fun d => by show s.supply[d].refill.isSome = _; rw [only d, hr]; simp

/-- The refill of an operation in flight, if it is one, has ended: no refill record stands. -/
theorem noRefill_of_closed {s t : State} {o : OpInFlight} (hs : s.CarriageInv) (ho : s.service.holder = .op o)
    (h : ∀ c, o.req.op.refillChannel = some c → Closed c s t) (h' : o.req.op.refillChannel = none → Held s t) (d : Channel) :
    t.supply[d].refill.isSome = false := by
  obtain ⟨-, only⟩ := hs.of_op ho
  cases hc : o.req.op.refillChannel with
  | none => rw [(h' hc).refills d, only d, hc]; simp
  | some c =>
    by_cases e : d = c
    · rw [e]; exact (h c hc).refill
    · rw [(h c hc).others d e, only d, hc]
      simp [Ne.symm e]

theorem State.noRefill_faultRefillOf {s : State} {o : OpInFlight} (hs : s.CarriageInv) (ho : s.service.holder = .op o)
    (why : RefillFaultReason) (d : Channel) : (s.faultRefillOf o.req.op why).supply[d].refill.isSome = false := by
  refine noRefill_of_closed hs ho (fun c hc => ?_) (fun hc => ?_) d
  · have stands : s.supply[c].refill.isSome = true := by rw [(hs.of_op ho).2 c, hc]; simp
    obtain ⟨k, hk⟩ := Option.isSome_iff_exists.1 stands
    unfold State.faultRefillOf
    simp only [hc, hk]
    exact Closed.faultRefill ..
  · unfold State.faultRefillOf
    simp only [hc]
    exact Held.refl s

theorem State.noRefill_endRefillOf {s : State} {o : OpInFlight} (hs : s.CarriageInv) (ho : s.service.holder = .op o)
    (why : RefillEnd) (d : Channel) : (s.endRefillOf o.req.op why).supply[d].refill.isSome = false := by
  refine noRefill_of_closed hs ho (fun c hc => ?_) (fun hc => ?_) d
  · have stands : s.supply[c].refill.isSome = true := by rw [(hs.of_op ho).2 c, hc]; simp
    obtain ⟨k, hk⟩ := Option.isSome_iff_exists.1 stands
    unfold State.endRefillOf
    simp only [hc, hk]
    exact Closed.endRefill ..
  · unfold State.endRefillOf
    simp only [hc]
    exact Held.refl s

theorem State.CarriageInv.released {s : State} (hp : s.pass.isSome = false) (hr : ∀ d : Channel, s.supply[d].refill.isSome = false) :
    s.released.CarriageInv := State.carriageInv_free rfl hp hr

theorem State.CarriageInv.opBroken {s : State} {o : OpInFlight} (hs : s.CarriageInv) (ho : s.service.holder = .op o) (timeout : Bool) :
    (s.opBroken o timeout).released.CarriageInv := by
  have charged := (Charges.opInterrupted s o).trans (Charges.stopStation _)
  have hs' := charged.conveys.inv hs
  have ho' := charged.holder.trans ho
  refine State.CarriageInv.released ?_ fun d => ?_
  · rw [(Kept.opBroken s o timeout).pass]; exact (hs.of_op ho).1
  · rw [State.opBroken, ((Charges.capLost _ _).refills d).1]
    exact State.noRefill_faultRefillOf hs' ho' _ d

theorem State.CarriageInv.opStopped {s : State} {o : OpInFlight} (hs : s.CarriageInv) (ho : s.service.holder = .op o) (why : RefillEnd) :
    (s.opStopped o why).released.CarriageInv := by
  have charged := (Charges.opInterrupted s o).trans (Charges.stopStation _)
  have hs' := charged.conveys.inv hs
  have ho' := charged.holder.trans ho
  refine State.CarriageInv.released ?_ fun d => ?_
  · rw [(Kept.opStopped s o why).pass]; exact (hs.of_op ho).1
  · rw [State.opStopped, ((Charges.capLost _ _).refills d).1]
    exact State.noRefill_endRefillOf hs' ho' _ d

theorem Conveys.failOp {s : State} {o : OpInFlight} (ho : s.service.holder = .op o) (timeout : Bool) : Conveys s (s.failOp o timeout) := by
  refine ⟨by rw [(Kept.failOp s o timeout).pass], fun hs => ?_⟩
  rw [State.failOp_eq]
  exact ((Quiet.suspendWaiting _ _).conveys.inv ((Quiet.raiseCondition _ _).conveys.inv ((Quiet.raise _ _).conveys.inv
    (hs.opBroken ho timeout))))

theorem Conveys.haltOp {s : State} {o : OpInFlight} (ho : s.service.holder = .op o) (why : RefillEnd) : Conveys s (s.haltOp o why) := by
  refine ⟨by rw [(Kept.haltOp s o why).pass], fun hs => ?_⟩
  rw [State.haltOp_eq]
  exact (Charges.setOut _ _).conveys.inv (hs.opStopped ho why)

@[simp] theorem State.haltOp_holder (s : State) (o : OpInFlight) (why : RefillEnd) : (s.haltOp o why).service.holder = .free := rfl
theorem State.haltOp_docked (s : State) (o : OpInFlight) (why : RefillEnd) : (s.haltOp o why).service.docked = false := rfl

theorem State.stopOp_cases (s : State) : (s.service.inFlight = none ∧ s.stopOp = s) ∨
    ∃ o, s.service.holder = .op o ∧ s.stopOp = (s.haltOp o .stopped).replaceRequest o.req := by
  unfold State.stopOp
  split
  next o ho => exact .inr ⟨o, Service.inFlight_eq_some.1 ho, rfl⟩
  next h => exact .inl ⟨h, rfl⟩

theorem State.abandonOp_cases (s : State) : (s.service.inFlight = none ∧ s.abandonOp = s) ∨
    ∃ o, s.service.holder = .op o ∧ s.abandonOp = s.haltOp o .abandoned := by
  unfold State.abandonOp
  split
  next o ho => exact .inr ⟨o, Service.inFlight_eq_some.1 ho, rfl⟩
  next h => exact .inl ⟨h, rfl⟩

theorem Conveys.stopOp (s : State) : Conveys s s.stopOp := by
  rcases s.stopOp_cases with ⟨-, h⟩ | ⟨o, ho, h⟩ <;> rw [h]
  · exact (Charges.refl s).conveys
  · exact (Conveys.haltOp ho _).trans (Quiet.replaceRequest ..).conveys

theorem Conveys.abandonOp (s : State) : Conveys s s.abandonOp := by
  rcases s.abandonOp_cases with ⟨-, h⟩ | ⟨o, ho, h⟩ <;> rw [h]
  · exact (Charges.refl s).conveys
  · exact Conveys.haltOp ho _

theorem Service.inFlight_eq_none_iff {v : Service} : v.inFlight = none ↔ v.holder = .free ∨ v.holder = .pass := by
  unfold Service.inFlight
  cases v.holder <;> simp

theorem State.stopOp_inFlight (s : State) : s.stopOp.service.inFlight = none := by
  rcases s.stopOp_cases with ⟨hn, h⟩ | ⟨o, ho, h⟩ <;> rw [h]
  · exact hn
  · rw [Service.inFlight_eq_none_iff, (Quiet.replaceRequest _ _).holder]
    exact .inl rfl

/-! ## Grants and docks (R109) -/

theorem Conveys.sequenced {s : State} {o : OpInFlight} (ho : s.service.holder = .op o) (hd : s.service.docked = true) :
    Conveys s (s.sequenced o) := by
  refine ⟨rfl, fun hs => ?_⟩
  obtain ⟨noPass, only⟩ := hs.of_op ho
  refine ⟨?_, fun c => ?_, fun _ _ _ => hd⟩
  · show s.pass.isSome = true ↔ _
    rw [noPass]
    simp [State.sequenced]
  · show s.supply[c].refill.isSome = true ↔ _
    rw [only c, decide_eq_true_eq]
    exact ⟨fun h => ⟨_, rfl, h⟩, fun ⟨o', h, k⟩ => by cases h; exact k⟩

theorem Conveys.beginSequence {s : State} {o : OpInFlight} (ho : s.service.holder = .op o) (hd : s.service.docked = true) :
    Conveys s (s.beginSequence o) := by
  have h := (Conveys.sequenced ho hd).trans (Charges.uncappedFor _ o.req.op).conveys
  rw [State.beginSequence_eq]
  split
  · exact h.trans (Conveys.beginStroke ..)
  · exact h

theorem Conveys.dockedNow (s : State) : Conveys s s.dockedNow :=
  ⟨rfl, fun hs => ⟨hs.1, hs.2.1, fun _ _ _ => rfl⟩⟩

theorem Conveys.docks (s : State) : Conveys s s.docks := by
  rw [State.docks_eq]
  split
  next o ho =>
    split
    · exact Conveys.dockedNow s
    · exact (Conveys.dockedNow s).trans (Conveys.beginSequence (Service.inFlight_eq_some.1 ho) rfl)
  next => exact Conveys.dockedNow s

/-- The record of a refill written where none stood for the operation in flight (R62). -/
theorem carriageInv_refillWritten {s : State} {c : Channel} {o : OpInFlight} (ho : s.service.holder = .op o)
    (hc : o.req.op.refillChannel = some c) (hp : s.pass.isSome = false) (hr : ∀ d : Channel, s.supply[d].refill.isSome = false)
    (hd : o.running = true → s.service.docked = true) (kind : RefillKind) (a : Option Nat) : (s.refillWritten c kind a).CarriageInv := by
  refine (Quiet.reformSupply _ c).conveys.inv ⟨?_, fun d => ?_, fun o' h => ?_⟩
  · show s.pass.isSome = true ↔ s.service.holder = .pass
    rw [hp, ho]; simp
  · show ((modifyAt s.supply c _)[d]).refill.isSome = true ↔ ∃ o', s.service.holder = .op o' ∧ _
    rw [getElem_modifyAt, ho]
    split
    next e => subst e; simp [hc]
    next e =>
      simp only [hr d, Bool.false_eq_true, Holder.op.injEq, exists_eq_left', hc, Option.some.injEq, false_iff]
      exact fun k => e k.symm
  · have hh : s.service.holder = .op o' := h
    rw [ho] at hh
    cases hh
    exact hd

theorem carriageInv_startRefill {s : State} {c : Channel} {o : OpInFlight} (ho : s.service.holder = .op o)
    (hc : o.req.op.refillChannel = some c) (hp : s.pass.isSome = false) (hr : ∀ d : Channel, s.supply[d].refill.isSome = false)
    (hd : o.running = true → s.service.docked = true) (kind : RefillKind) (a : Option Nat) : (s.startRefill c kind a).CarriageInv := by
  have written := carriageInv_refillWritten ho hc hp hr hd kind a
  have stands : (s.refillWritten c kind a).supply[c].refill.isSome = true := by
    rw [State.refillWritten, ((Quiet.reformSupply _ c).refills c).1]
    show ((modifyAt s.supply c _)[c]).refill.isSome = true
    rw [getElem_modifyAt, if_pos rfl]
    rfl
  obtain ⟨k, hk⟩ := Option.isSome_iff_exists.1 stands
  rw [State.startRefill_eq]
  dsimp only
  split_ifs
  · exact (Conveys.endRefill hk _ _).inv written
  · exact (Conveys.beginStroke ..).inv written
  · exact written

theorem State.granted_frame (s : State) (r : Request) : (s.granted r).service.holder = .op (s.grantedOp r) ∧
    (s.granted r).service.docked = s.service.docked ∧ (s.granted r).supply = s.supply ∧ (s.granted r).pass = s.pass := by
  unfold State.granted
  dsimp only
  split <;> exact ⟨rfl, rfl, rfl, rfl⟩

theorem carriageInv_granted {s : State} (hs : s.CarriageInv) (hf : s.service.holder = .free) {r : Request}
    (hr : r.op.refillChannel = none) : (s.granted r).CarriageInv := by
  obtain ⟨h1, h2, h3, h4⟩ := s.granted_frame r
  obtain ⟨noPass, none⟩ := hs.of_free hf
  refine ⟨by rw [h4, h1, noPass]; simp, fun c => ?_, fun o ho hrun => ?_⟩
  · rw [h3, none c, h1]
    simp [State.grantedOp, hr]
  · rw [h1] at ho
    cases ho
    simp [State.grantedOp] at hrun

theorem StationOp.refillKind_eq_none {op : StationOp} (h : op.refillChannel = none) : op.refillKind = none := by
  cases op <;> simp_all [StationOp.refillChannel, StationOp.refillKind]

theorem StationOp.refillKind_of_channel {op : StationOp} {c : Channel} (h : op.refillChannel = some c) : ∃ k, op.refillKind = some k := by
  cases op <;> simp_all [StationOp.refillChannel, StationOp.refillKind]

theorem carriageInv_grantOp {s : State} (hs : s.CarriageInv) (hf : s.service.holder = .free) (r : Request) : (s.grantOp r).CarriageInv := by
  obtain ⟨h1, h2, h3, h4⟩ := s.granted_frame r
  obtain ⟨noPass, none⟩ := hs.of_free hf
  rw [State.grantOp_eq]
  cases hc : r.op.refillChannel with
  | none =>
    dsimp only
    have granted := carriageInv_granted hs hf hc
    split
    next hd => exact (Conveys.beginSequence h1 (h2.trans hd)).inv granted
    next => exact granted
  | some c =>
    obtain ⟨k, hk⟩ := StationOp.refillKind_of_channel hc
    simp only [hk]
    split
    next hd =>
      exact carriageInv_startRefill (s := (s.granted r).refillRuns (s.grantedOp r)) (o := { s.grantedOp r with running := true }) rfl hc
        (by show (s.granted r).pass.isSome = _; rw [h4]; exact noPass)
        (fun d => by show (s.granted r).supply[d].refill.isSome = _; rw [h3]; exact none d)
        (fun _ => by show (s.granted r).service.docked = _; rw [h2]; exact hd) k _
    next =>
      exact carriageInv_startRefill h1 hc (by rw [h4]; exact noPass) (fun d => by rw [h3]; exact none d)
        (fun h => by simp [State.grantedOp] at h) k _

/-! ## Table writes -/

theorem Conveys.respit (s : State) : Conveys s s.respit := by
  rcases s.respit_eq with h | ⟨o, b, v, ho, hrun, h⟩ <;> rw [h]
  · exact (Charges.refl s).conveys
  · refine ⟨rfl, fun hs => ?_⟩
    obtain ⟨noPass, only⟩ := hs.of_op ho
    refine ⟨?_, fun c => ?_, fun o' h hr => ?_⟩
    · show s.pass.isSome = true ↔ _
      rw [noPass]; simp
    · show s.supply[c].refill.isSome = true ↔ _
      rw [only c, decide_eq_true_eq]
      exact ⟨fun h => ⟨_, rfl, h⟩, fun ⟨o', h, k⟩ => by cases h; exact k⟩
    · cases h
      exact hs.2.2 o ho hr

end Sys2Proof.Machine
end

section
/-!
PROOFS. One relation for every invariant of the machine that a step must keep, with the operations that keep it.
-/

-- One declaration at a time: side by side, the threads' stacks come near the memory limit of the check.
set_option Elab.async false

namespace Sys2Proof.Machine

/-- From s to t at most n events were raised, and each invariant but that of the stop latch is kept. -/
structure Keeps (n : Nat) (s t : State) : Prop extends Orderly n s t where
  maps : s.MapInv → t.MapInv
  agree : s.Orders → s.GenInv → t.Orders ∧ t.GenInv
  reserve : s.ReserveInv → t.ReserveInv
  carriage : s.CarriageInv → t.CarriageInv

/-- Besides, the engine stands still while the stop latch is set (R148). -/
structure Sound (n : Nat) (s t : State) : Prop extends Keeps n s t where
  still : s.StopInv → t.StopInv

theorem Keeps.trans {m n : Nat} {s t u : State} (h : Keeps m s t) (k : Keeps n t u) : Keeps (m + n) s u where
  toOrderly := h.toOrderly.trans k.toOrderly
  maps hs := k.maps (h.maps hs)
  agree ho hg := k.agree (h.agree ho hg).1 (h.agree ho hg).2
  reserve hs := k.reserve (h.reserve hs)
  carriage hs := k.carriage (h.carriage hs)

theorem Sound.trans {m n : Nat} {s t u : State} (h : Sound m s t) (k : Sound n t u) : Sound (m + n) s u :=
  ⟨h.toKeeps.trans k.toKeeps, k.still ∘ h.still⟩

theorem Keeps.mono {m n : Nat} {s t : State} (h : Keeps m s t) (hmn : m ≤ n) : Keeps n s t := { h with toOrderly := h.toOrderly.mono hmn }
theorem Sound.mono {m n : Nat} {s t : State} (h : Sound m s t) (hmn : m ≤ n) : Sound n s t := { h with toKeeps := h.toKeeps.mono hmn }

theorem Sound.refl (s : State) : Sound 0 s s := ⟨⟨.refl s, id, fun h k => ⟨h, k⟩, id, id⟩, id⟩

theorem Sound.foldl {α : Type} {n : Nat} {f : State → α → State} (h : ∀ s a, Sound n s (f s a)) (l : List α) (s : State) :
    Sound (l.length * n) s (l.foldl f s) := by
  induction l generalizing s with
  | nil => exact (Sound.refl s).mono (by omega)
  | cons a l ih =>
    exact ((h s a).trans (ih _)).mono (by simp only [List.length_cons, Nat.add_mul, Nat.one_mul]; omega)

/-! ## What each invariant reads -/

theorem mapInv_congr {s t : State} (hm : t.maps = s.maps) (ht : t.tables = s.tables) (hs : s.MapInv) : t.MapInv := by
  rw [State.mapInv_iff, hm, ht]
  exact s.mapInv_iff.1 hs

theorem orders_congr {s t : State} (hq : t.marks = s.marks) (hs : t.slots = s.slots) (hp : t.pass.map (·.slot) = s.pass.map (·.slot))
    (hm : t.entryMoves → s.entryMoves) (h : s.Orders) : t.Orders := by
  unfold State.Orders
  rw [hq, hs, hp]
  exact h.slots (fun _ => Iff.rfl) (fun _ => Iff.rfl) hm

theorem genInv_congr {s t : State} (hs : t.slots = s.slots) (hm : t.maps = s.maps) (h : s.GenInv) : t.GenInv := by
  rw [State.genInv_iff] at h ⊢
  rw [hs, hm]
  refine ⟨h.1, fun g hg => ?_⟩
  have := h.2 g hg
  rw [State.referenced] at this ⊢
  rw [hs]; exact this

theorem reserveInv_congr {s t : State} (hp : t.pass.isSome = s.pass.isSome)
    (ha : ∀ c : Channel, t.accounts[c].reserved = s.accounts[c].reserved ∧ t.accounts[c].release = s.accounts[c].release)
    (h : s.ReserveInv) : t.ReserveInv := by
  have none : t.pass = none ↔ s.pass = none := by
    rw [← Option.isSome_eq_false_iff.trans Option.isNone_iff_eq_none, ← Option.isSome_eq_false_iff.trans Option.isNone_iff_eq_none, hp]
  refine ⟨fun hn c => ?_, fun hn c => ?_⟩
  · rw [(ha c).1, (ha c).2]
    exact h.1 (none.1 hn) c
  · obtain ⟨r, h1, h2⟩ := h.2 (fun k => hn (none.2 k)) c
    exact ⟨r, (ha c).2.trans h1, (ha c).1.trans h2⟩

theorem stopInv_congr {s t : State} (hs : t.stop = s.stop) (hd : t.driveEnable = s.driveEnable) (hp : t.pass.isSome = s.pass.isSome)
    (hf : s.service.inFlight = none → t.service.inFlight = none)
    (hm : ∀ m', t.feed.motion = some m' → ∃ m, s.feed.motion = some m ∧ m'.paused = m.paused) (h : s.StopInv) : t.StopInv := fun k => by
  obtain ⟨h1, h2, h3, h4⟩ := h (by rw [← hs]; exact k)
  refine ⟨hd.trans h1, ?_, hf h3, fun m' hm' => ?_⟩
  · rw [h2] at hp
    simpa using hp
  · obtain ⟨m, k1, k2⟩ := hm m' hm'
    rw [k2]
    exact h4 m k1

/-! ## Ink and station operations -/

theorem Kept.keeps {n : Nat} {s t : State} (h : Kept n s t) (c : Conveys s t) : Keeps n s t where
  toOrderly := h.toOrderly
  maps := mapInv_congr h.maps h.tables
  agree ho hg := ⟨orders_congr (by rw [State.marks, h.queue]; rfl) h.slots (by rw [h.pass])
    (fun ⟨m, k, l⟩ => ⟨m, by rw [← h.feed]; exact k, l⟩) ho, genInv_congr h.slots h.maps hg⟩
  reserve := reserveInv_congr c.pass h.reserves
  carriage := c.inv

theorem Kept.still {n : Nat} {s t : State} (h : Kept n s t) (hf : s.service.inFlight = none → t.service.inFlight = none) (hs : s.StopInv) :
    t.StopInv :=
  stopInv_congr h.stop h.driveEnable (by rw [h.pass]) hf (fun m' k => ⟨m', by rw [← h.feed]; exact k, rfl⟩) hs

/-- With an operation in flight the stop latch is clear. -/
theorem stopInv_of_op {s t : State} {o : OpInFlight} (ho : s.service.holder = .op o) (ht : t.stop = s.stop) (hs : s.StopInv) : t.StopInv :=
  fun k => by
    obtain ⟨-, -, h, -⟩ := hs (by rw [← ht]; exact k)
    rw [Service.inFlight_eq_none_iff, ho] at h
    rcases h with h | h <;> cases h

theorem stopInv_of_clear {s t : State} (hc : s.stop.set = false) (ht : t.stop = s.stop) : t.StopInv := fun k => by
  rw [ht, hc] at k
  cases k

theorem Charges.sound {n : Nat} {s t : State} (h : Charges n s t) : Sound n s t :=
  ⟨h.toKept.keeps h.conveys, h.toKept.still fun k => by
    rw [Service.inFlight_eq_none_iff] at k ⊢
    rw [h.holder]; exact k⟩

theorem Quiet.sound {n : Nat} {s t : State} (h : Quiet n s t) : Sound n s t := h.charges.sound

/-- An operation of the station that ends what is in flight. -/
theorem Kept.sound_of_op {n : Nat} {s t : State} (h : Kept n s t) {o : OpInFlight} (ho : s.service.holder = .op o) (c : Conveys s t) :
    Sound n s t := ⟨h.keeps c, stopInv_of_op ho h.stop⟩

/-! ## The feed -/

theorem Feeds.keeps {n : Nat} {s t : State} (h : Feeds n s t) (ho : s.Orders → t.Orders) : Keeps n s t where
  toOrderly := h.orderly
  maps := mapInv_congr (by rw [h.frame]) h.tables
  agree k hg := ⟨ho k, genInv_congr h.slots (by rw [h.frame]) hg⟩
  reserve := reserveInv_congr (by rw [h.pass]) fun c => by rw [h.accounts]; exact ⟨rfl, rfl⟩
  carriage := carriageInv_congr (by rw [h.pass]) (by rw [h.service]) (by rw [h.service]) fun c => by rw [h.frame]

theorem Feeds.still {n : Nat} {s t : State} (h : Feeds n s t)
    (hm : ∀ m', t.feed.motion = some m' → ∃ m, s.feed.motion = some m ∧ m'.paused = m.paused) (hs : s.StopInv) : t.StopInv :=
  stopInv_congr h.stop h.driveEnable (by rw [h.pass]) (by rw [h.service]; exact id) hm hs

theorem orders_of_senses {s t : State} (hs : t.slots = s.slots) (hp : t.pass = s.pass)
    (hm : t.queue = s.queue ∧ SameMotion s t ∨ MotionEnds s t) (h : s.Orders) : t.Orders := by
  rcases hm with ⟨hq, hm⟩ | ⟨hn, m, hm, hq⟩
  · refine orders_congr (by rw [State.marks, hq]; rfl) hs (by rw [hp]) (fun ⟨m', k, l⟩ => ?_) h
    obtain ⟨m, h1, h2, -⟩ := hm m' k
    exact ⟨m, h1, h2 ▸ l⟩
  · have none : ¬ t.entryMoves := fun ⟨m', k, _⟩ => by rw [hn] at k; cases k
    unfold State.Orders at h ⊢
    rw [State.marks, hq, hs, hp]
    split
    next ho =>
      obtain ⟨rest, hr⟩ := h.motion ⟨m, hm, ho⟩
      rw [hr] at h
      rw [List.map_tail, show List.map Entry.mark s.queue = _ from hr]
      exact h.entryEnds none
    next => exact h.slots (fun _ => Iff.rfl) (fun _ => Iff.rfl) fun k => absurd k none

theorem Senses.sound {n : Nat} {s t : State} (h : Senses n s t) : Sound n s t := by
  refine ⟨h.toFeeds.keeps (orders_of_senses h.slots h.pass h.motion), h.toFeeds.still fun m' hm' => ?_⟩
  rcases h.motion with ⟨-, hm⟩ | ⟨hn, -⟩
  · obtain ⟨m, h1, -, h3⟩ := hm m' hm'
    exact ⟨m, h1, h3⟩
  · rw [hn] at hm'; cases hm'

/-- A motion of no entry that starts with the stop latch clear. -/
theorem Feeds.sound_of_start {n : Nat} {s t : State} (h : Feeds n s t) (hc : s.stop.set = false) (hq : t.queue = s.queue)
    (hm : ∀ m, t.feed.motion = some m → m.owner ≠ .entry) : Sound n s t :=
  ⟨h.keeps (orders_congr (by rw [State.marks, hq]; rfl) h.slots (by rw [h.pass]) fun ⟨m, k, l⟩ => absurd l (hm m k)),
    fun _ => stopInv_of_clear hc h.stop⟩

/-- The WAITING ADVANCE or CUT head starts with the stop latch clear. -/
theorem Feeds.sound_of_entry {n : Nat} {s t : State} (h : Feeds n s t) (hc : s.stop.set = false) {j j' : Job} {rest : List Entry}
    (hj : ∀ i rep, j ≠ .swath i rep) (hj' : ∀ i rep, j' ≠ .swath i rep) (hq : s.queue = ⟨j, .waiting⟩ :: rest)
    (hq' : t.queue = ⟨j', .active⟩ :: rest) : Sound n s t := by
  have mark : ∀ {j : Job} {p : Phase}, (∀ i rep, j ≠ .swath i rep) → (⟨j, p⟩ : Entry).mark = (none, p) := by
    intro j p hj
    cases j with
    | swath i rep => exact absurd rfl (hj i rep)
    | advance d n r x => rfl
    | cut => rfl
  refine ⟨h.keeps fun ho => ?_, fun _ => stopInv_of_clear hc h.stop⟩
  unfold State.Orders at ho ⊢
  rw [State.marks, hq, List.map_cons, mark hj] at ho
  rw [State.marks, hq', List.map_cons, mark hj', h.slots, h.pass]
  exact ho.start

/-! ## The gate -/

theorem Entry.mark_bare (e : Entry) : e.bare.mark = e.mark := by
  obtain ⟨j, p⟩ := e
  cases j <;> rfl

theorem State.marks_of_bare {s t : State} (h : t.queue.map Entry.bare = s.queue.map Entry.bare) : t.marks = s.marks := by
  have marks : ∀ q : List Entry, q.map Entry.mark = (q.map Entry.bare).map Entry.mark := fun q => by
    rw [List.map_map]
    exact List.map_congr_left fun e _ => (Entry.mark_bare e).symm
  rw [State.marks, State.marks, marks, marks s.queue, h]

theorem Evaluates.sound {n : Nat} {s t : State} (h : Evaluates n s t) : Sound n s t where
  toOrderly := h.toOrderly
  maps := mapInv_congr (by rw [h.frame]) (by rw [h.frame])
  agree ho hg := ⟨orders_congr (State.marks_of_bare h.queue) (by rw [h.frame]) (by rw [h.frame]) (by rw [h.frame]; exact id) ho,
    genInv_congr (by rw [h.frame]) (by rw [h.frame]) hg⟩
  reserve := reserveInv_congr (by rw [h.frame]) fun c => by rw [h.frame]; exact ⟨rfl, rfl⟩
  carriage := carriageInv_congr (by rw [h.frame]) (by rw [h.frame]) (by rw [h.frame]) fun c => by rw [(h.refills c).1]
  still := stopInv_congr (by rw [h.frame]) (by rw [h.frame]) (by rw [h.frame]) (by rw [h.frame]; exact id)
    fun m' k => ⟨m', by rw [h.frame] at k; exact k, rfl⟩

/-! ## Writing what no invariant reads -/

theorem Sound.write {n : Nat} {s u t : State} (h : Sound n s u) (lane : t.lane = u.lane := by rfl)
    (service : t.service = u.service := by rfl) (maps : t.maps = u.maps := by rfl) (tables : t.tables = u.tables := by rfl)
    (queue : t.queue = u.queue := by rfl) (slots : t.slots = u.slots := by rfl)
    (pass : t.pass.map (·.slot) = u.pass.map (·.slot) := by rfl) (motion : t.feed.motion = u.feed.motion := by rfl)
    (accounts : t.accounts = u.accounts := by rfl)
    (refills : ∀ c : Channel, t.supply[c].refill.isSome = u.supply[c].refill.isSome := by exact fun _ => rfl)
    (stop : t.stop = u.stop := by rfl) (drive : t.driveEnable = u.driveEnable := by rfl) : Sound n s t := by
  have some : t.pass.isSome = u.pass.isSome := by
    have := congrArg Option.isSome pass
    simpa using this
  refine h.trans (n := 0) ⟨⟨.of_eq lane (by rw [service]) (by rw [service]), mapInv_congr maps tables, fun ho hg =>
    ⟨orders_congr (by rw [State.marks, queue]; rfl) slots pass (fun ⟨m, k, l⟩ => ⟨m, by rw [← motion]; exact k, l⟩) ho,
      genInv_congr slots maps hg⟩, reserveInv_congr some fun c => by rw [accounts]; exact ⟨rfl, rfl⟩,
    carriageInv_congr some (by rw [service]) (by rw [service]) refills⟩, ?_⟩
  exact stopInv_congr stop drive some (by rw [service]; exact id) fun m' k => ⟨m', by rw [← motion]; exact k, rfl⟩

end Sys2Proof.Machine
end

section
/-!
PROOFS. The operations that reach several blocks keep every invariant: the end of a pass, the stop latch, inputs, release, ABORT, ENGINE RESET, and
the slots' own commands.
-/

-- One declaration at a time: side by side, the threads' stacks come near the memory limit of the check.
set_option Elab.async false

namespace Sys2Proof.Machine

/-! ## Accounts channel by channel -/

theorem State.setAccount_accounts (s : State) (c : Channel) (a : Account) : (s.setAccount c a).accounts = setAt s.accounts c a :=
  (Quiet.setAccount s c a).accounts

/-- A fold over channels that writes each channel's account by its own figures does so for every channel of the list. -/
theorem foldl_accounts {f : State → Channel → State} {g : Channel → Account → Account} {P : State → Prop}
    (hf : ∀ t c, P t → (f t c).accounts = setAt t.accounts c (g c t.accounts[c])) (hP : ∀ t c, P t → P (f t c))
    {l : List Channel} (hl : l.Nodup) {s : State} (hs : P s) (d : Channel) :
    (l.foldl f s).accounts[d] = if d ∈ l then g d s.accounts[d] else s.accounts[d] := by
  induction l generalizing s with
  | nil => simp
  | cons c l ih =>
    rw [List.nodup_cons] at hl
    rw [List.foldl_cons, ih hl.2 (hP s c hs), hf s c hs, getElem_setAt]
    by_cases e : d = c
    · subst e; simp [hl.1]
    · simp [e]

theorem nodup_channels : channels.Nodup := by decide

theorem State.chargePass_accounts (s : State) (p : PassContext) (c : Channel) :
    (s.chargePass p).accounts[c] = s.accounts[c].settle (p.counts c) := by
  have h := foldl_accounts (P := fun _ => True) (f := State.settleChannel p) (g := fun c a => a.settle (p.counts c))
    (fun t c _ => State.setAccount_accounts ..) (fun _ _ _ => trivial) nodup_channels (s := s) trivial c
  rw [State.chargePass_eq, h, if_pos (mem_channels c)]

/-! ## The end of a pass (R38, R40) -/

theorem Held.settleChannel (p : PassContext) (s : State) (c : Channel) : Held s (s.settleChannel p c) :=
  (Held.of_eq (t := { s with accounts := setAt s.accounts c (s.accounts[c].settle (p.counts c)) })).trans (Quiet.setAccount s c _).held

theorem Held.foldl {α : Type} {f : State → α → State} (h : ∀ s a, Held s (f s a)) (l : List α) (s : State) : Held s (l.foldl f s) := by
  induction l generalizing s with
  | nil => exact Held.refl s
  | cons a l ih => exact (h s a).trans (ih _)

theorem Held.passSettled (s : State) (p : PassContext) : Held s (s.passSettled p) :=
  (Held.foldl (Held.settleChannel p) channels s).trans (Charges.countPass _ p).held

/-- What the end of a pass leaves of queue, slots, pass, carriage, accounts, maps and motion (R38, R40). -/
structure PassOver (s t : State) (p : PassContext) : Prop where
  slots : t.slots = setAt s.slots p.slot blankSlot
  maps : t.maps = ({ s with slots := setAt s.slots p.slot blankSlot } : State).dropRetained.maps
  queue : t.queue = s.queue.tail
  pass : t.pass = none
  driveEnable : t.driveEnable = false
  motion : t.feed.motion = s.feed.motion
  stop : t.stop = s.stop
  holder : t.service.holder = .free
  refills : ∀ c : Channel, t.supply[c].refill.isSome = s.supply[c].refill.isSome
  accounts : ∀ c : Channel, t.accounts[c] = s.accounts[c].settle (p.counts c)

theorem dropRetained_maps_congr {s u : State} (hs : u.slots = s.slots) (hm : u.maps = s.maps) : u.dropRetained.maps = s.dropRetained.maps := by
  unfold State.dropRetained State.referenced
  dsimp only
  rw [hm, hs]

theorem dropRetained_maps_withSlots {s u : State} (hm : u.maps = s.maps) (v : Vector Slot 8) :
    ({ u with slots := v } : State).dropRetained.maps = ({ s with slots := v } : State).dropRetained.maps :=
  dropRetained_maps_congr rfl hm

/-- What the last steps of a pass's end leave of the state in which its event has been queued. -/
theorem State.passLeft_frame (u : State) (i : SlotIx) (now : Nat) (complete : Bool) :
    (((u.freeSlot i).passGone now complete).freeCarriage).slots = setAt u.slots i blankSlot ∧
    (((u.freeSlot i).passGone now complete).freeCarriage).maps = ({ u with slots := setAt u.slots i blankSlot } : State).dropRetained.maps ∧
    (((u.freeSlot i).passGone now complete).freeCarriage).queue = u.queue.tail ∧
    (((u.freeSlot i).passGone now complete).freeCarriage).feed = u.feed ∧
    (((u.freeSlot i).passGone now complete).freeCarriage).stop = u.stop ∧
    (((u.freeSlot i).passGone now complete).freeCarriage).supply = u.supply ∧
    (((u.freeSlot i).passGone now complete).freeCarriage).accounts = u.accounts ∧
    (((u.freeSlot i).passGone now complete).freeCarriage).pass = none ∧
    (((u.freeSlot i).passGone now complete).freeCarriage).driveEnable = false ∧
    (((u.freeSlot i).passGone now complete).freeCarriage).service.holder = .free :=
  ⟨rfl, rfl, rfl, rfl, rfl, rfl, rfl, rfl, rfl, rfl⟩

theorem State.dried_frame (u : State) (x : Nat) (e : Event) :
    ((u.startDrying x).raise e).slots = u.slots ∧ ((u.startDrying x).raise e).maps = u.maps ∧
    ((u.startDrying x).raise e).queue = u.queue ∧ ((u.startDrying x).raise e).feed.motion = u.feed.motion ∧
    ((u.startDrying x).raise e).stop = u.stop ∧ ((u.startDrying x).raise e).supply = u.supply ∧
    ((u.startDrying x).raise e).accounts = u.accounts := by
  rw [State.startDrying_eq]
  exact ⟨rfl, rfl, rfl, rfl, rfl, rfl, rfl⟩

/-- What the charging, the drying and the event of a pass's end leave. -/
theorem State.passTold_frame (s : State) (p : PassContext) (complete : Bool) :
    (s.passTold p complete).slots = s.slots ∧ (s.passTold p complete).maps = s.maps ∧ (s.passTold p complete).queue = s.queue ∧
    (s.passTold p complete).feed.motion = s.feed.motion ∧ (s.passTold p complete).stop = s.stop ∧
    (s.passTold p complete).supply = (s.passSettled p).supply ∧
    (s.passTold p complete).accounts = (s.passSettled p).accounts := by
  obtain ⟨d1, d2, d3, d4, d5, d6, d7⟩ := (s.passSettled p).dried_frame (s.passDebits p).toList.sum (s.passEvent p complete)
  have settled := Inks.passSettled s p
  unfold State.passTold
  rw [d1, d2, d3, d4, d5, d6, d7, settled.slots, settled.maps, settled.queue, settled.feed, settled.stop]
  exact ⟨rfl, rfl, rfl, rfl, rfl, rfl, rfl⟩

theorem State.addDrops_accounts (s : State) (h : Head) (n : Nat) : (s.addDrops h n).accounts = s.accounts := (Quiet.wearTest _ h).accounts

theorem State.countPass_accounts (s : State) (p : PassContext) : (s.countPass p).accounts = s.accounts := by
  unfold State.countPass
  rw [List.foldl_cons, List.foldl_cons, List.foldl_cons, List.foldl_nil, State.addDrops_accounts, State.addDrops_accounts,
    State.addDrops_accounts]
  rfl

theorem State.passSettled_accounts (s : State) (p : PassContext) (c : Channel) :
    (s.passSettled p).accounts[c] = s.accounts[c].settle (p.counts c) := by
  rw [State.passSettled, State.countPass_accounts, State.chargePass_accounts]

theorem State.passOver (s : State) (p : PassContext) (complete : Bool) : PassOver s (s.endPass p complete) p := by
  obtain ⟨t1, t2, t3, t4, t5, t6, t7⟩ := s.passTold_frame p complete
  obtain ⟨l1, l2, l3, l4, l5, l6, l7, l8, l9, l10⟩ := (s.passTold p complete).passLeft_frame p.slot s.now complete
  have held := Held.passSettled s p
  rw [State.endPass_eq]
  refine ⟨by rw [l1, t1], ?_, by rw [l3, t3], l8, l9, by rw [l4, t4], by rw [l5, t5], l10, fun c => ?_, fun c => ?_⟩
  · rw [l2, t1]
    exact dropRetained_maps_withSlots t2 _
  · rw [l6, t6]
    exact held.refills c
  · rw [l7, t7]
    exact s.passSettled_accounts p c

theorem Account.settle_reserved (a : Account) (n : Counts) (r : ReleaseRec) (h : a.release = some r) (hr : a.reserved = r.estimate) :
    (a.settle n).reserved = 0 ∧ (a.settle n).release = none := by
  unfold Account.settle
  simp [h, hr]

theorem State.genInv_of_dropped {s t : State} {v : Vector Slot 8} (h : BoundTo v s.maps) (hs : t.slots = v)
    (hm : t.maps = ({ s with slots := v } : State).dropRetained.maps) : t.GenInv := by
  have dropped := State.genInv_dropRetained (s := { s with slots := v }) h
  exact genInv_congr (s := ({ s with slots := v } : State).dropRetained) hs hm dropped

theorem blank_inUse {v : Vector Slot 8} {i j : SlotIx} (h : (setAt v i blankSlot)[j].inUse) :
    v[j].inUse ∧ (setAt v i blankSlot)[j].gen = v[j].gen := by
  rw [getElem_setAt] at h ⊢
  split at h
  next => simp [Slot.inUse, blankSlot] at h
  next e => rw [if_neg e]; exact ⟨h, rfl⟩

theorem setAt_blank_state (v : Vector Slot 8) (i j : SlotIx) :
    (setAt v i blankSlot)[j].state = if j = i then .free else v[j].state := by
  rw [getElem_setAt]; split <;> rfl

theorem dropped_mapInv {s t : State} (hc : t.maps.current = s.maps.current) (hn : t.maps.next = s.maps.next)
    (hr : t.maps.retained = s.maps.retained ∨ t.maps.retained = emptyBank) (ht : t.tables = s.tables) (hs : s.MapInv) : t.MapInv := by
  obtain ⟨h1, h2, h3, h4⟩ := hs
  refine ⟨hc ▸ h1, ?_, hn ▸ h3, by rw [hn, ht]; exact h4⟩
  rcases hr with e | e <;> rw [e]
  · exact h2
  · intro c; simp [emptyBank]

theorem Acts.mapInv {n : Nat} {s t : State} (h : Acts n s t) : s.MapInv → t.MapInv :=
  dropped_mapInv h.current.1 h.next h.retained h.tables

theorem Sound.endPass {s : State} {p : PassContext} (hp : s.pass = some p) (complete : Bool) : Sound 13 s (s.endPass p complete) := by
  have h := s.passOver p complete
  have acts := Acts.endPass s p complete
  refine ⟨⟨acts.toOrderly, acts.mapInv, fun ho hg => ⟨?_, ?_⟩, fun hr => ?_, fun hc => ?_⟩, fun _ _ => ?_⟩
  · unfold State.Orders at ho ⊢
    rw [hp] at ho
    rw [State.marks, h.queue, h.pass, List.map_tail, h.slots]
    exact ho.passEnds (i := p.slot) (fun j => setAt_blank_state ..) fun ⟨m, k, l⟩ => ⟨m, by rw [← h.motion]; exact k, l⟩
  · exact State.genInv_of_dropped (BoundTo.of_slots hg.1 fun j => blank_inUse) h.slots h.maps
  · refine ⟨fun _ c => ?_, fun k => absurd h.pass k⟩
    obtain ⟨r, h1, h2⟩ := hr.2 (by rw [hp]; simp) c
    rw [h.accounts c]
    exact Account.settle_reserved _ _ r h1 h2
  · refine State.carriageInv_free h.holder (by rw [h.pass]; rfl) fun c => ?_
    rw [h.refills c, Bool.eq_false_iff]
    intro k
    obtain ⟨o, hh, -⟩ := (hc.2.1 c).1 k
    have := hc.1.1 (by rw [hp]; rfl)
    rw [this] at hh
    cases hh
  · exact ⟨h.driveEnable, h.pass, by rw [Service.inFlight_eq_none_iff]; exact .inl h.holder, fun m hm => by
      rename_i hs k
      obtain ⟨-, hn, -⟩ := hs (by rw [← h.stop]; exact k)
      rw [hp] at hn; cases hn⟩

theorem Sound.abortPass (s : State) : Sound 13 s s.abortPass := by
  cases h : s.pass with
  | none => rw [State.abortPass_of_none h]; exact (Sound.refl s).mono (by omega)
  | some p => rw [State.abortPass_of_some h]; exact Sound.endPass h false

theorem State.abortPass_frame (s : State) : s.abortPass.pass = none ∧ (s.driveEnable = false → s.abortPass.driveEnable = false) ∧
    s.abortPass.stop = s.stop ∧ (s.pass = none → s.abortPass = s) := by
  cases h : s.pass with
  | none => rw [State.abortPass_of_none h]; exact ⟨h, id, rfl, fun _ => rfl⟩
  | some p =>
    rw [State.abortPass_of_some h]
    have ended := s.passOver p false
    exact ⟨ended.pass, fun _ => ended.driveEnable, ended.stop, nofun⟩

/-! ## The stop latch (R148) -/

theorem Sound.stopOp (s : State) : Sound 17 s s.stopOp :=
  ⟨(Kept.stopOp s).keeps (Conveys.stopOp s), (Kept.stopOp s).still fun _ => s.stopOp_inFlight⟩

theorem Pauses.keeps {b : Bool} {s t : State} (h : Pauses b s t) : Keeps 0 s t :=
  h.toFeeds.keeps (orders_congr (by rw [State.marks, h.queue]; rfl) h.slots (by rw [h.pass]) fun ⟨m', k, l⟩ => by
    obtain ⟨m, h1, h2, -⟩ := h.motion m' k
    exact ⟨m, h1, h2 ▸ l⟩)

/-- Setting the latch and lowering the head drive touch no other invariant. -/
theorem Keeps.latched (s : State) (cause : StopCause) : Keeps 1 s (s.latched cause) := by
  have acts := Acts.latched s cause
  exact ⟨acts.toOrderly, acts.mapInv, fun ho hg => ⟨orders_congr (by rfl) rfl rfl id ho, genInv_congr rfl rfl hg⟩,
    reserveInv_congr rfl fun _ => ⟨rfl, rfl⟩, carriageInv_congr rfl rfl rfl fun _ => rfl⟩

theorem State.setStop_still (s : State) (cause : StopCause) (h : s.stop.set = false) : (s.setStop cause).StopInv := fun _ => by
  rw [State.setStop_eq, h]
  obtain ⟨noPass, low, -, -⟩ := (s.latched cause).abortPass_frame
  have stopped := Kept.stopOp (s.latched cause).abortPass
  have paused := Pauses.pauseMotion (s.latched cause).abortPass.stopOp
  refine ⟨?_, ?_, ?_, fun m hm => ?_⟩
  · show (State.pauseMotion _).driveEnable = false
    rw [paused.driveEnable, stopped.driveEnable]
    exact low rfl
  · show (State.pauseMotion _).pass = none
    rw [paused.toFeeds.pass, stopped.pass]
    exact noPass
  · show (State.pauseMotion _).service.inFlight = none
    rw [paused.service]
    exact State.stopOp_inFlight _
  · obtain ⟨-, -, -, hp⟩ := paused.motion m hm
    exact hp

theorem Sound.setStop (s : State) (cause : StopCause) : Sound 31 s (s.setStop cause) := by
  by_cases h : s.stop.set = true
  · rw [State.setStop_eq, if_pos h]
    exact (Sound.refl s).mono (by omega)
  · have clear : s.stop.set = false := by simpa using h
    refine ⟨?_, fun _ => s.setStop_still cause clear⟩
    rw [State.setStop_eq, if_neg h]
    exact (((Keeps.latched s cause).trans (Sound.abortPass _).toKeeps).trans (Sound.stopOp _).toKeeps).trans (Pauses.pauseMotion _).keeps

theorem Sound.settleInput (s : State) (i : DIn) : Sound 31 s (s.settleInput i) := by
  unfold State.settleInput
  split
  · exact Sound.setStop ..
  · exact (Sound.refl s).mono (by omega)

theorem Sound.settlingTest (s : State) : Sound 496 s s.settlingTest := by
  rw [State.settlingTest_eq]
  exact (Sound.foldl Sound.settleInput (List.finRange 16) s).mono (by simp)

/-! ## Filtered inputs (R146, R147) -/

theorem State.removeCartridge_inFlight {s : State} (c : Channel) (h : s.service.inFlight = none) :
    (s.removeCartridge c).service.inFlight = none := by
  rw [Service.inFlight_eq_none_iff] at h ⊢
  rw [State.removeCartridge_eq]
  dsimp only
  rw [(Charges.setCart _ c _ _ fun _ => by show 0 < 1000; omega).holder]
  unfold State.endRefillAt
  split
  · exact .inl (Closed.endRefill ..).holder
  · exact h

theorem Sound.cartSensor (s : State) (c : Channel) (level : Bool) : Sound 6 s (s.cartSensor c level) := by
  unfold State.cartSensor
  split
  · split
    · exact (Charges.beginInsertion s c).sound.mono (by omega)
    · exact (Sound.refl s).mono (by omega)
  · split
    · exact (Sound.refl s).mono (by omega)
    · exact ⟨(Kept.removeCartridge s c).keeps (Conveys.removeCartridge s c), (Kept.removeCartridge s c).still (State.removeCartridge_inFlight c)⟩

theorem Sound.sensed (s : State) (i : DIn) (level settling : Bool) : Sound 6 s (s.sensed i level settling) := by
  cases h : cartInput i with
  | some c => rw [State.sensed_of_some h]; exact Sound.cartSensor s c level
  | none => rw [State.sensed_of_none h]; exact (Senses.feedSensed ..).sound.mono (by omega)

theorem Sound.raise {n : Nat} {s u : State} (h : Sound n s u) (e : Event) : Sound (n + 1) s (u.raise e) := h.trans (Quiet.raise u e).sound

theorem Sound.raiseCondition {n : Nat} {s u : State} (h : Sound n s u) (r : CondRaise) : Sound (n + 1) s (u.raiseCondition r) :=
  h.trans (Quiet.raiseCondition u r).sound

/-- The filtered level written. -/
def State.levelWritten (s : State) (i : DIn) (level : Bool) : State := { s with inputs := setAt s.inputs i ⟨some level, none⟩ }

theorem Sound.levelSet (s : State) (i : DIn) (level : Bool) : Sound 1 s (s.levelSet i level) := by
  have written : Sound 0 s (s.levelWritten i level) := (Sound.refl s).write
  unfold State.levelSet
  split
  · exact written.raise _
  · exact written.mono (by omega)

theorem Sound.acceptInput (s : State) (i : DIn) (level : Bool) : Sound 38 s (s.acceptInput i level) := by
  rw [State.acceptInput_eq]
  refine Sound.trans (m := 32) ?_ (Sound.sensed ..)
  unfold State.levelRouted
  split
  · exact (Sound.levelSet s i level).trans (Sound.setStop ..)
  · exact (Sound.levelSet s i level).mono (by omega)

theorem Sound.rawInput (s : State) (i : DIn) (raw : Bool) : Sound 38 s (s.rawInput i raw) := by
  rcases s.rawInput_cases i raw with ⟨v, h⟩ | h <;> rw [h]
  · have written : Sound 0 s { s with inputs := v } := (Sound.refl s).write
    exact written.mono (by omega)
  · exact Sound.acceptInput ..

/-! ## Slots (R3 to R20) -/

theorem Sound.of_slots {n : Nat} {s t : State} (a : Acts n s t) (ho : s.Orders → t.Orders) (hg : s.GenInv → t.GenInv)
    (service : t.service = s.service := by rfl) (pass : t.pass = s.pass := by rfl) (accounts : t.accounts = s.accounts := by rfl)
    (supply : t.supply = s.supply := by rfl) (stop : t.stop = s.stop := by rfl) (drive : t.driveEnable = s.driveEnable := by rfl)
    (feed : t.feed = s.feed := by rfl) : Sound n s t :=
  ⟨⟨a.toOrderly, a.mapInv, fun h k => ⟨ho h, hg k⟩, reserveInv_congr (by rw [pass]) fun c => by rw [accounts]; exact ⟨rfl, rfl⟩,
    carriageInv_congr (by rw [pass]) (by rw [service]) (by rw [service]) fun c => by rw [supply]⟩,
    stopInv_congr stop drive (by rw [pass]) (by rw [service]; exact id) fun m' k => ⟨m', by rw [← feed]; exact k, rfl⟩⟩

/-- Slots that keep their state where it is QUEUED or PRINTING, and do not come into it. -/
theorem orders_of_slots {s t : State} (hq : t.queue = s.queue) (hp : t.pass = s.pass) (hf : t.feed = s.feed)
    (hs : ∀ i : SlotIx, (t.slots[i].state = .queued ↔ s.slots[i].state = .queued) ∧ (t.slots[i].state = .printing ↔ s.slots[i].state = .printing))
    (h : s.Orders) : t.Orders := by
  unfold State.Orders State.entryMoves State.marks at h ⊢
  rw [hq, hp, hf]
  exact h.slots (fun i => (hs i).1) (fun i => (hs i).2) id

theorem Sound.freeSlot {s : State} {i : SlotIx} (h1 : s.slots[i].state ≠ .queued) (h2 : s.slots[i].state ≠ .printing) :
    Sound 0 s (s.freeSlot i) := by
  refine .of_slots ((Acts.refl s).freeSlot i) (orders_of_slots rfl rfl rfl fun j => ?_)
    fun hg => State.genInv_of_dropped (BoundTo.of_slots hg.1 fun j => blank_inUse) rfl rfl
  show ((setAt s.slots i blankSlot)[j].state = _ ↔ _) ∧ ((setAt s.slots i blankSlot)[j].state = _ ↔ _)
  rw [setAt_blank_state]
  split
  next e => subst e; exact ⟨iff_of_false (by simp) h1, iff_of_false (by simp) h2⟩
  next => exact ⟨Iff.rfl, Iff.rfl⟩

theorem setAt_damage_state (v : Vector Slot 8) (i j : SlotIx) :
    (setAt v i v[i].damage)[j].state = if j = i then .damaged else v[j].state := by
  rw [getElem_setAt]; split <;> rfl

theorem damage_inUse {v : Vector Slot 8} {i j : SlotIx} (h : (setAt v i v[i].damage)[j].inUse) :
    v[j].inUse ∧ (setAt v i v[i].damage)[j].gen = v[j].gen := by
  rw [getElem_setAt] at h ⊢
  split at h
  next => simp [Slot.inUse, Slot.damage] at h
  next e => rw [if_neg e]; exact ⟨h, rfl⟩

theorem orders_damaged {s t : State} {i : SlotIx} (hc : s.slots[i].state = .composing) (hq : t.queue = s.queue) (hp : t.pass = s.pass)
    (hf : t.feed = s.feed) (hs : t.slots = setAt s.slots i s.slots[i].damage) : s.Orders → t.Orders := by
  refine orders_of_slots hq hp hf fun j => ?_
  rw [hs, setAt_damage_state]
  split
  next e => subst e; exact ⟨iff_of_false (by simp) (by rw [hc]; simp), iff_of_false (by simp) (by rw [hc]; simp)⟩
  next => exact ⟨Iff.rfl, Iff.rfl⟩

theorem Sound.damageByCount {s : State} {i : SlotIx} (hc : s.slots[i].state = .composing) (n : Nat) : Sound 1 s (s.damageByCount i n) :=
  .of_slots (Acts.damageByCount s i n) (orders_damaged hc rfl rfl rfl rfl)
    fun hg => State.genInv_of_dropped (v := setAt s.slots i s.slots[i].damage) (BoundTo.of_slots hg.1 fun j => damage_inUse) rfl rfl

end Sys2Proof.Machine
end

section
/-!
PROOFS. ABORT, ENGINE RESET, release, the opening of a swath and the map bank's own commands keep every invariant.
-/

-- One declaration at a time: side by side, the threads' stacks come near the memory limit of the check.
set_option Elab.async false

namespace Sys2Proof.Machine

/-! ## Slots one by one -/

theorem setAt_same {α : Type} {n : Nat} (v : Vector α n) (i : Fin n) : setAt v i v[i] = v := by
  unfold setAt
  exact Vector.set_getElem_self ..

/-- A fold over slots that writes each slot by its own record does so for every slot of the list. -/
theorem foldl_slots {f : State → SlotIx → State} {g : Slot → Slot} (hf : ∀ t i, (f t i).slots = setAt t.slots i (g t.slots[i]))
    {l : List SlotIx} (hl : l.Nodup) (s : State) (j : SlotIx) : (l.foldl f s).slots[j] = if j ∈ l then g s.slots[j] else s.slots[j] := by
  induction l generalizing s with
  | nil => simp
  | cons i l ih =>
    rw [List.nodup_cons] at hl
    rw [List.foldl_cons, ih hl.2, hf, getElem_setAt]
    by_cases e : j = i
    · subst e; simp [hl.1]
    · simp [e]

/-- What ABORT makes of a slot record (R17, R19). -/
def Slot.unprinted (sl : Slot) : Slot :=
  match sl.state with
  | .composing | .queued => blankSlot
  | _ => sl

theorem State.freeUnprinted_slots (s : State) (i : SlotIx) : (s.freeUnprinted i).slots = setAt s.slots i s.slots[i].unprinted := by
  unfold State.freeUnprinted Slot.unprinted
  cases h : s.slots[i].state <;> simp only [State.freeSlot, setAt_same] <;> rfl

/-- From s to t the slots and the banks alone have changed. -/
def SlotsOnly (s t : State) : Prop := t = { s with slots := t.slots, maps := t.maps }

theorem SlotsOnly.refl (s : State) : SlotsOnly s s := rfl

theorem SlotsOnly.trans {s t u : State} (h : SlotsOnly s t) (k : SlotsOnly t u) : SlotsOnly s u := by
  unfold SlotsOnly at h k ⊢
  rw [k, h]

theorem SlotsOnly.foldl {α : Type} {f : State → α → State} (h : ∀ s a, SlotsOnly s (f s a)) (l : List α) (s : State) :
    SlotsOnly s (l.foldl f s) := by
  induction l generalizing s with
  | nil => exact .refl s
  | cons a l ih => exact (h s a).trans (ih _)

theorem SlotsOnly.freeSlot (s : State) (i : SlotIx) : SlotsOnly s (s.freeSlot i) := rfl

theorem SlotsOnly.freeUnprinted (s : State) (i : SlotIx) : SlotsOnly s (s.freeUnprinted i) := by
  unfold State.freeUnprinted
  split
  · exact .freeSlot s i
  · exact .freeSlot s i
  · exact .refl s

theorem State.genInv_freeSlot {s : State} (h : s.GenInv) (i : SlotIx) : (s.freeSlot i).GenInv :=
  State.genInv_of_dropped (BoundTo.of_slots h.1 fun _ => blank_inUse) rfl rfl

theorem State.genInv_freeUnprinted {s : State} (i : SlotIx) (h : s.GenInv) : (s.freeUnprinted i).GenInv := by
  unfold State.freeUnprinted
  split
  · exact State.genInv_freeSlot h i
  · exact State.genInv_freeSlot h i
  · exact h

/-! ## ABORT (R41) -/

/-- The slots freed that no pass prints. -/
def State.slotsFreed (s : State) : State := (List.finRange 8).foldl State.freeUnprinted s

theorem State.slotsFreed_slots (s : State) (j : SlotIx) : s.slotsFreed.slots[j] = s.slots[j].unprinted := by
  rw [State.slotsFreed, foldl_slots State.freeUnprinted_slots (List.nodup_finRange 8), if_pos (List.mem_finRange j)]

theorem Feed.orphaned_motion {f : Feed} {m' : Motion} (h : f.orphaned.motion = some m') :
    m'.owner ≠ .entry ∧ ∃ m, f.motion = some m ∧ m'.paused = m.paused := by
  simp only [Feed.orphaned, Option.map_eq_some_iff] at h
  obtain ⟨m, hm, rfl⟩ := h
  split
  · exact ⟨by simp, m, hm, rfl⟩
  next e => exact ⟨e, m, hm, rfl⟩

theorem Slot.unprinted_state (sl : Slot) : sl.unprinted.state ≠ .queued ∧ (sl.unprinted.state = .printing ↔ sl.state = .printing) := by
  unfold Slot.unprinted
  cases h : sl.state <;> simp [blankSlot, h]

theorem SlotsOnly.frame {s t : State} (h : SlotsOnly s t) : t.queue = s.queue ∧ t.pass = s.pass ∧ t.feed = s.feed ∧ t.service = s.service ∧
    t.supply = s.supply ∧ t.accounts = s.accounts ∧ t.stop = s.stop ∧ t.driveEnable = s.driveEnable := by
  rw [SlotsOnly] at h
  rw [h]
  exact ⟨rfl, rfl, rfl, rfl, rfl, rfl, rfl, rfl⟩

theorem State.slotsFreed_only (s : State) : SlotsOnly s s.slotsFreed := by
  unfold State.slotsFreed
  exact SlotsOnly.foldl (f := State.freeUnprinted) SlotsOnly.freeUnprinted _ _

theorem State.unqueued_frame (s : State) : s.unqueued.queue = [] ∧ s.unqueued.pass = s.pass ∧ s.unqueued.feed = s.feed.orphaned ∧
    s.unqueued.service.inFlight = s.service.inFlight ∧ Held s s.unqueued ∧ s.unqueued.accounts = s.accounts ∧ s.unqueued.stop = s.stop ∧
    s.unqueued.driveEnable = s.driveEnable ∧ s.unqueued.slots = s.slots ∧ s.unqueued.maps = s.maps :=
  ⟨rfl, rfl, rfl, rfl, .of_eq, rfl, rfl, rfl, rfl, rfl⟩

theorem Sound.unqueued {s : State} (hp : s.pass = none) : Sound 0 s s.unqueued.slotsFreed := by
  have acts : Acts 0 s s.unqueued.slotsFreed :=
    (Acts.write (t := s.unqueued) (Acts.refl s)).trans (Acts.foldl (n := 0) Acts.freeUnprinted _ _)
  obtain ⟨tq, tp, tf, tv, tu, ta, tc, td⟩ := s.unqueued.slotsFreed_only.frame
  obtain ⟨uq, up, uf, uv, held, ua, uc, ud, us, um⟩ := s.unqueued_frame
  have still_held : Held s.unqueued s.unqueued.slotsFreed := .of_eq (congrArg (·.holder) tv) (congrArg (·.docked) tv) tu
  have pass : s.unqueued.slotsFreed.pass = none := tp.trans (up.trans hp)
  have feed : s.unqueued.slotsFreed.feed = s.feed.orphaned := tf.trans uf
  refine ⟨⟨acts.toOrderly, acts.mapInv, fun ho hg => ⟨?_, ?_⟩, reserveInv_congr (by rw [pass, hp]) fun c => ?_,
    (held.trans still_held).carriageInv (by rw [pass, hp])⟩, stopInv_congr (tc.trans uc) (td.trans ud) (by rw [pass, hp]) ?_ fun m' hm' => ?_⟩
  · unfold State.Orders State.marks State.entryMoves
    rw [pass, feed, show s.unqueued.slotsFreed.queue = [] from tq.trans uq]
    refine Ordered.empty (fun i => ?_) (fun i => ?_) fun ⟨m', k, l⟩ => (Feed.orphaned_motion k).1 l
    · rw [State.slotsFreed_slots]
      exact (Slot.unprinted_state _).1
    · rw [State.slotsFreed_slots, ne_eq, (Slot.unprinted_state _).2, us]
      intro k
      have := (ho.printing i).1 k
      rw [hp] at this
      cases this
  · exact foldl_keeps (P := State.GenInv) (fun _ i h => State.genInv_freeUnprinted i h) (genInv_congr us um hg) _
  · rw [show s.unqueued.slotsFreed.accounts = s.accounts from ta.trans ua]
    exact ⟨rfl, rfl⟩
  · intro k
    rw [show s.unqueued.slotsFreed.service = s.unqueued.service from tv, uv, k]
  · rw [feed] at hm'
    exact (Feed.orphaned_motion hm').2

theorem Sound.abort (s : State) : Sound 13 s s.abort := by
  rw [State.abort_eq]
  exact (Sound.abortPass s).trans (Sound.unqueued s.abortPass_frame.1)

/-! ## ENGINE RESET (R171) -/

theorem Slot.not_inUse_of_free {sl : Slot} (h : sl.state = .free) : ¬ sl.inUse := by
  simp [Slot.inUse, h]

theorem State.orders_of_rest {s : State} (hq : s.queue = []) (hp : s.pass = none) (hs : ∀ i : SlotIx, s.slots[i].state = .free)
    (hm : s.feed.motion = none) : s.Orders := by
  unfold State.Orders State.marks State.entryMoves
  rw [hq, hp, hm]
  exact Ordered.empty (fun i => by rw [hs i]; simp) (fun i => by rw [hs i]; simp) (by simp)

theorem State.genInv_of_rest {s : State} (hs : ∀ i : SlotIx, s.slots[i].state = .free) (hr : s.maps.retainedGen = none) : s.GenInv := by
  rw [State.genInv_iff, hr]
  exact ⟨fun i hi => absurd hi (Slot.not_inUse_of_free (hs i)), nofun⟩

theorem State.freeAll_frame (s : State) : (∀ i : SlotIx, s.freeAll.slots[i].state = .free) ∧ s.freeAll.maps.retainedGen = none ∧
    s.freeAll.service = s.service ∧ s.freeAll.supply = s.supply ∧ s.freeAll.accounts = s.accounts ∧ s.freeAll.pass = s.pass := by
  refine ⟨fun i => ?_, ?_, rfl, rfl, rfl, rfl⟩
  · show ((Vector.replicate 8 blankSlot)[i]).state = _
    simp [blankSlot]
  · cases hg : s.maps.retainedGen with
    | none => unfold State.freeAll State.dropRetained; simp [hg]
    | some g =>
      have none_refers : ∀ j, ¬ ({ s with slots := Vector.replicate 8 blankSlot } : State).refersTo j g := fun j h => by
        have := h.2
        simp [blankSlot] at this
      rw [State.freeAll, State.dropRetained_maps_of_unreferenced (s := { s with slots := Vector.replicate 8 blankSlot }) hg none_refers]

theorem State.resetService_frame (s : State) : s.resetService.pass = s.pass ∧ s.resetService.slots = s.slots ∧ s.resetService.maps = s.maps ∧
    s.resetService.service.holder = .free ∧ s.resetService.supply = s.supply ∧ s.resetService.accounts = s.accounts :=
  ⟨rfl, rfl, rfl, rfl, rfl, rfl⟩

theorem State.queueCleared_frame (s : State) : s.queueCleared.queue = [] ∧ s.queueCleared.pass = s.pass ∧ s.queueCleared.slots = s.slots ∧
    s.queueCleared.maps = s.maps ∧ s.queueCleared.service = s.service ∧ s.queueCleared.supply = s.supply ∧
    s.queueCleared.accounts = s.accounts :=
  ⟨rfl, rfl, rfl, rfl, rfl, rfl, rfl⟩

theorem Held.resetNeeds (s : State) : Held s s.resetNeeds := by
  have cleared : Held s { s with supply := s.supply.map fun r => { r with need := none } } :=
    ⟨rfl, rfl, fun c => by simp⟩
  exact cleared.trans (Quiet.reformAll _).held

/-- Up to the feed record, ENGINE RESET leaves slots, banks, queue and pass as its first steps made them, and the refills as they were. -/
theorem State.blocksReset_frame (s : State) : s.blocksReset.queue = [] ∧ s.blocksReset.pass = none ∧
    (∀ i : SlotIx, s.blocksReset.slots[i].state = .free) ∧ s.blocksReset.maps.retainedGen = none ∧
    s.blocksReset.service.holder = .free ∧
    (∀ c : Channel, s.blocksReset.supply[c].refill.isSome = s.abortPass.abandonOp.supply[c].refill.isSome) ∧
    (∀ c : Channel, s.blocksReset.accounts[c].reserved = s.abortPass.accounts[c].reserved ∧
      s.blocksReset.accounts[c].release = s.abortPass.accounts[c].release) := by
  have ladders : Quiet 6 s.emptiedOut.queueCleared (channels.foldl State.resetLadder s.emptiedOut.queueCleared) :=
    Quiet.foldl Quiet.resetLadder channels _
  have kept : Kept 18 s.emptiedOut.queueCleared s.blocksReset := ladders.charges.toKept.trans (Kept.resetNeeds _)
  have held : Held s.emptiedOut.queueCleared s.blocksReset := ladders.held.trans (Held.resetNeeds _)
  obtain ⟨f1, f2, f3, f4, f5, f6⟩ := s.abortPass.abandonOp.freeAll_frame
  obtain ⟨r1, r2, r3, r4, r5, r6⟩ := s.abortPass.abandonOp.freeAll.resetService_frame
  obtain ⟨q1, q2, q3, q4, q5, q6, q7⟩ := s.emptiedOut.queueCleared_frame
  have abandoned := Kept.abandonOp s.abortPass
  refine ⟨kept.queue.trans q1, ?_, fun i => ?_, ?_, ?_, fun c => ?_, fun c => ?_⟩
  · rw [kept.pass, q2, State.emptiedOut, r1, f6, abandoned.pass]
    exact s.abortPass_frame.1
  · rw [kept.slots, q3, State.emptiedOut, r2]; exact f1 i
  · rw [kept.maps, q4, State.emptiedOut, r3]; exact f2
  · rw [held.holder, q5, State.emptiedOut]; exact r4
  · rw [held.refills c, q6, State.emptiedOut, r5, f4]
  · obtain ⟨k1, k2⟩ := kept.reserves c
    obtain ⟨k3, k4⟩ := abandoned.reserves c
    rw [k1, k2, q7, State.emptiedOut, r6, f5]
    exact ⟨k3, k4⟩

theorem State.abandonOp_inFlight (s : State) : s.abandonOp.service.inFlight = none := by
  rcases s.abandonOp_cases with ⟨hn, h⟩ | ⟨o, ho, h⟩ <;> rw [h]
  · exact hn
  · rw [Service.inFlight_eq_none_iff]
    exact .inl rfl

theorem State.noRefill_of_inFlight {s : State} (h : s.CarriageInv) (hn : s.service.inFlight = none) (c : Channel) :
    s.supply[c].refill.isSome = false := by
  rw [Bool.eq_false_iff]
  intro k
  obtain ⟨o, ho, -⟩ := (h.2.1 c).1 k
  rw [Service.inFlight_eq_none_iff, ho] at hn
  rcases hn with hn | hn <;> cases hn

theorem State.unlatched_frame (s : State) : s.unlatched.queue = s.queue ∧ s.unlatched.pass = s.pass ∧ s.unlatched.slots = s.slots ∧
    s.unlatched.feed = s.feed ∧ s.unlatched.maps = s.maps ∧ s.unlatched.accounts = s.accounts ∧ s.unlatched.service = s.service ∧
    s.unlatched.supply = s.supply ∧ s.unlatched.stop.set = false := ⟨rfl, rfl, rfl, rfl, rfl, rfl, rfl, rfl, rfl⟩

/-- ENGINE RESET up to the settling test (R171). -/
theorem Sound.engineResting (s : State) : Sound 49 s s.blocksReset.resetFeed.unlatched := by
  have acts : Acts 49 s s.blocksReset.resetFeed.unlatched :=
    ((Acts.blocksReset s).trans (Feeds.resetFeed (Feeds.refl _)).acts).unlatched
  have fed := Feeds.resetFeed (Feeds.refl s.blocksReset)
  obtain ⟨b1, b2, b3, b4, b5, b6, b7⟩ := s.blocksReset_frame
  obtain ⟨u1, u2, u3, u4, u5, u6, u7, u8, u9⟩ := s.blocksReset.resetFeed.unlatched_frame
  have pass : s.blocksReset.resetFeed.unlatched.pass = none := by rw [u2, fed.pass, b2]
  have maps : s.blocksReset.resetFeed.maps = s.blocksReset.maps := by rw [fed.frame]
  have supply : s.blocksReset.resetFeed.supply = s.blocksReset.supply := by rw [fed.frame]
  have free : ∀ i : SlotIx, s.blocksReset.resetFeed.unlatched.slots[i].state = .free := fun i => by rw [u3, fed.slots]; exact b3 i
  refine ⟨⟨acts.toOrderly, acts.mapInv, fun _ _ => ⟨State.orders_of_rest ?_ pass free ?_, State.genInv_of_rest free ?_⟩,
    fun hr => ?_, fun hc => State.carriageInv_free ?_ ?_ fun c => ?_⟩, fun _ k => ?_⟩
  · rw [u1, State.resetFeed_queue, b1]
  · rw [u4, State.resetFeed_feed]; rfl
  · rw [u5, maps, b4]
  · refine reserveInv_congr (s := s.abortPass) (by rw [pass, s.abortPass_frame.1]) (fun c => ?_) ((Sound.abortPass s).reserve hr)
    rw [u6, fed.accounts]
    exact b7 c
  · rw [u7, fed.service, b5]
  · rw [pass]; rfl
  · rw [u8, supply, b6 c]
    exact State.noRefill_of_inFlight ((Conveys.abandonOp _).inv ((Sound.abortPass s).carriage hc)) (State.abandonOp_inFlight _) c
  · rw [u9] at k; cases k

theorem Sound.engineReset (s : State) : Sound 545 s s.engineReset :=
  ((Sound.engineResting s).trans (Sound.settlingTest _)).trans (Quiet.requestsReplaced _).sound

/-! ## Release (R29, R50) -/

theorem setAt_printing_state (v : Vector Slot 8) (i j : SlotIx) :
    (modifyAt v i fun sl => { sl with state := .printing })[j].state = if j = i then .printing else v[j].state := by
  rw [getElem_modifyAt]; split <;> rfl

theorem State.passReleased_frame (s : State) (i : SlotIx) (capRep : Bool) (rest : List Entry) :
    (s.passReleased i capRep rest).slots = (modifyAt s.headsUncapped.slots i fun sl => { sl with state := .printing }) ∧
    (s.passReleased i capRep rest).pass = some (s.passContext i) ∧ (s.passReleased i capRep rest).maps = s.headsUncapped.maps ∧
    (s.passReleased i capRep rest).feed = s.headsUncapped.feed ∧ (s.passReleased i capRep rest).supply = s.headsUncapped.supply ∧
    (s.passReleased i capRep rest).accounts = s.reserveAll s.slots[i] (s.passContext i).temps ∧
    (s.passReleased i capRep rest).stop = s.headsUncapped.stop := ⟨rfl, rfl, rfl, rfl, rfl, rfl, rfl⟩

theorem Sound.passReleased {s : State} {i : SlotIx} {rep : Bool} {rest : List Entry} (hq : s.queue = ⟨.swath i rep, .waiting⟩ :: rest)
    (hf : s.service.holder = .free) (hp : s.pass = none) (hs : s.stop.set = false) : Sound 0 s (s.passReleased i rep rest) := by
  have heads := Charges.headsUncapped s
  have acts := Acts.passReleased s i rep rest
  obtain ⟨f1, f2, f3, f4, f5, f6, f7⟩ := s.passReleased_frame i rep rest
  rw [heads.slots] at f1
  rw [heads.maps] at f3
  have queued : s.Orders → s.slots[i].state = .queued := fun ho => by
    refine (ho.queued i).2 ?_
    rw [State.marks, hq]
    exact List.mem_cons_self
  refine ⟨⟨acts.toOrderly, acts.mapInv, fun ho hg => ⟨?_, ?_⟩, fun hr => ⟨fun k => ?_, fun _ c => ?_⟩, fun hc => ?_⟩,
    fun _ => stopInv_of_clear hs (f7.trans heads.stop)⟩
  · unfold State.Orders at ho ⊢
    rw [State.marks, hq, hp] at ho
    rw [f1, f2]
    refine ho.release (fun j => setAt_printing_state ..) fun ⟨m, k, l⟩ => ⟨m, ?_, l⟩
    rw [← heads.feed, ← f4]; exact k
  · rw [State.genInv_iff] at hg ⊢
    have inUse : s.slots[i].inUse := .inr (.inl (queued ho))
    rw [f1, f3]
    refine ⟨BoundTo.of_slots hg.1 fun j hj => ?_, fun g hr => ?_⟩
    · rw [getElem_modifyAt]
      rw [getElem_modifyAt] at hj
      split at hj
      next e => subst e; rw [if_pos rfl]; exact ⟨inUse, rfl⟩
      next e => rw [if_neg e]; exact ⟨hj, rfl⟩
    · obtain ⟨j, hj, hu⟩ := (s.referenced_iff_inUse g).1 (hg.2 g hr)
      refine (State.referenced_iff_inUse _ g).2 ⟨j, ?_⟩
      rw [f1, getElem_modifyAt]
      split
      next e => subst e; exact ⟨hj, .inr (.inr rfl)⟩
      next => exact ⟨hj, hu⟩
  · rw [f2] at k; cases k
  · rw [f6]
    have zero := (hr.1 hp c).1
    refine ⟨releaseRecord (s.tables.kindOf c) (s.passContext i).temps[headOf c] ((s.estimate s.slots[i] c).getD 0), ?_, ?_⟩
    · simp only [State.reserveAll, Fin.getElem_fin, Vector.getElem_ofFn, Account.reserve]
    rw [Fin.getElem_fin] at zero
    · simp [State.reserveAll, Account.reserve, zero]
  · obtain ⟨-, none⟩ := hc.of_free hf
    refine ⟨by rw [f2]; exact ⟨fun _ => rfl, fun _ => rfl⟩, fun c => ?_, fun o h => by cases h⟩
    rw [f5, (heads.refills c).1, none c]
    simp [State.passReleased]

theorem Sound.passTaken (s : State) : Sound 0 s s.passTaken := (Evaluates.passTaken (Quiet.refl s).evaluates).sound

theorem Sound.release {s : State} {i : SlotIx} {rep : Bool} {rest : List Entry} (hq : s.queue = ⟨.swath i rep, .waiting⟩ :: rest)
    (hf : s.service.holder = .free) (hp : s.pass = none) (hs : s.stop.set = false) : Sound 1 s (s.release i rep rest) := by
  have risk := Quiet.bandRisk s i
  rw [State.release_eq]
  exact risk.sound.trans (Sound.passReleased (by rw [risk.queue, hq]) (by rw [risk.holder, hf]) (by rw [risk.pass, hp])
    (by rw [risk.stop, hs]))

theorem Sound.grantPass {s : State} (hf : s.service.holder = .free) (hp : s.pass = none) (hs : s.stop.set = false) :
    Sound 13 s s.grantPass := by
  rcases s.grantPass_cases with ⟨i, rep, rest, hq, -, h⟩ | ⟨i, rep, rest, hq, h⟩ | h <;> rw [h]
  · exact Sound.mono (m := 0 + 1) ((Sound.passTaken s).trans (Sound.release (s := s.passTaken) hq hf hp hs)) (by omega)
  · exact Sound.mono (m := 0 + 13) ((Sound.passTaken s).trans (Evaluates.evaluateSwath (s := s.passTaken) hq).sound) (by omega)
  · exact (Sound.passTaken s).mono (by omega)

theorem Sound.grantOp {s : State} (hf : s.service.holder = .free) (hs : s.stop.set = false) (r : Request) : Sound 8 s (s.grantOp r) :=
  have kept := Kept.grantOp s r
  ⟨⟨kept.toOrderly, kept.acts.mapInv, fun ho hg =>
    ⟨orders_congr (by rw [State.marks, kept.queue]; rfl) kept.slots (by rw [kept.pass]) (by rw [State.entryMoves, kept.feed]; exact id) ho,
      genInv_congr kept.slots kept.maps hg⟩, reserveInv_congr (by rw [kept.pass]) kept.reserves,
    fun hc => carriageInv_grantOp hc hf r⟩, fun _ => stopInv_of_clear hs kept.stop⟩

theorem State.mayGrant_iff (s : State) : s.mayGrant = true ↔ s.service.holder = .free ∧ s.pass = none ∧ s.stop.set = false := by
  simp [State.mayGrant, and_assoc]

theorem Sound.arbitrate {s : State} (h : s.mayGrant = true) : Sound 37 s s.arbitrate := by
  obtain ⟨hf, hp, hs⟩ := s.mayGrant_iff.1 h
  have primes := Quiet.arbitratePrimes channels s
  have sound : Sound 24 s (State.arbitratePrimes channels s) := primes.sound
  rcases s.arbitrate_cases with h | ⟨-, h⟩ | ⟨r, -, h⟩ <;> rw [h]
  · exact sound.mono (by omega)
  · exact sound.trans (Sound.grantPass (by rw [primes.holder, hf]) (by rw [primes.pass, hp]) (by rw [primes.stop, hs]))
  · exact (sound.trans (Sound.grantOp (by rw [primes.holder, hf]) (by rw [primes.stop, hs]) r)).mono (by omega)

end Sys2Proof.Machine
end

section
/-!
PROOFS. What opens, fills and closes a swath, what edits the map banks and what writes a table keeps every invariant.
-/

-- One declaration at a time: side by side, the threads' stacks come near the memory limit of the check.
set_option Elab.async false

namespace Sys2Proof.Machine

/-- What writes slots, maps, tables, store and lane alone keeps every invariant where it keeps those of maps and slots. -/
theorem Sound.of_blocks {n : Nat} {s t : State} (o : Orderly n s t) (maps : s.MapInv → t.MapInv)
    (agree : s.Orders → s.GenInv → t.Orders ∧ t.GenInv)
    (service : t.service = s.service := by rfl) (pass : t.pass = s.pass := by rfl) (accounts : t.accounts = s.accounts := by rfl)
    (supply : t.supply = s.supply := by rfl) (stop : t.stop = s.stop := by rfl) (drive : t.driveEnable = s.driveEnable := by rfl)
    (feed : t.feed = s.feed := by rfl) : Sound n s t :=
  ⟨⟨o, maps, agree, reserveInv_congr (by rw [pass]) fun c => by rw [accounts]; exact ⟨rfl, rfl⟩,
    carriageInv_congr (by rw [pass]) (by rw [service]) (by rw [service]) fun c => by rw [supply]⟩,
    stopInv_congr stop drive (by rw [pass]) (by rw [service]; exact id) fun m' k => ⟨m', by rw [← feed]; exact k, rfl⟩⟩

/-! ## Opening a swath (R4, R91) -/

theorem State.dropRetained_slots_maps (s : State) : s.dropRetained.slots = s.slots ∧ s.dropRetained.queue = s.queue ∧
    s.dropRetained.pass = s.pass ∧ s.dropRetained.feed = s.feed ∧ s.dropRetained.tables = s.tables ∧
    s.dropRetained.maps.current = s.maps.current ∧ s.dropRetained.maps.next = s.maps.next ∧
    (s.dropRetained.maps.retained = s.maps.retained ∨ s.dropRetained.maps.retained = emptyBank) := by
  unfold State.dropRetained
  split
  · exact ⟨rfl, rfl, rfl, rfl, rfl, rfl, rfl, .inl rfl⟩
  · dsimp only
    split
    · exact ⟨rfl, rfl, rfl, rfl, rfl, rfl, rfl, .inl rfl⟩
    · exact ⟨rfl, rfl, rfl, rfl, rfl, rfl, rfl, .inr rfl⟩

/-- The switch before Retained is emptied again. -/
def State.switchTold (s : State) (e : Event) : State := s.mapsSwitched.raise e

theorem State.offerCommit_cases (s : State) : s.offerCommit = s ∨
    s.retainedReferenced = false ∧ ∃ e, s.offerCommit = (s.switchTold e).dropRetained := by
  unfold State.offerCommit
  split
  next h => simp only [Bool.and_eq_true, Bool.not_eq_true'] at h; exact .inr ⟨h.2, _, rfl⟩
  next => exact .inl rfl

theorem State.switchTold_frame (s : State) (e : Event) : (s.switchTold e).maps = s.maps.switch ∧ (s.switchTold e).slots = s.slots ∧
    (s.switchTold e).queue = s.queue ∧ (s.switchTold e).pass = s.pass ∧ (s.switchTold e).feed = s.feed ∧
    (s.switchTold e).tables = s.tables := ⟨rfl, rfl, rfl, rfl, rfl, rfl⟩

theorem State.offerCommit_slots (s : State) : s.offerCommit.slots = s.slots := by
  rcases s.offerCommit_cases with h | ⟨-, e, h⟩ <;> rw [h]
  rw [(State.dropRetained_slots_maps _).1]
  rfl

/-- With Retained in no slot's use, the switch leaves each slot bound to Retained or Current (R91). -/
theorem boundTo_switch {s : State} (h : s.GenInv) (hr : s.retainedReferenced = false) : BoundTo s.slots s.maps.switch := fun i hi => by
  rcases (s.genInv_iff.1 h).1 i hi with k | ⟨k1, k2⟩
  · exact .inr ⟨by rw [k]; simp, k⟩
  · cases hg : s.maps.retainedGen with
    | none => rw [hg] at k2; exact absurd k2 k1
    | some g =>
      have := (s.genInv_iff.1 h).2 g hg
      simp [State.retainedReferenced, hg, this] at hr

theorem Sound.offerCommit (s : State) : Sound 1 s s.offerCommit := by
  have orderly := (Ranges.offerCommit s).toOrderly
  rcases s.offerCommit_cases with h | ⟨hr, e, h⟩
  · rw [h]; exact (Sound.refl s).mono (by omega)
  rw [h] at orderly ⊢
  obtain ⟨d1, d2, d3, d4, d5, d6, d7, d8⟩ := (s.switchTold e).dropRetained_slots_maps
  obtain ⟨u1, u2, u3, u4, u5, u6⟩ := s.switchTold_frame e
  refine .of_blocks orderly (fun hm => ?_) fun ho hg => ⟨?_, ?_⟩
  · obtain ⟨h1, h2, h3, h4⟩ := s.mapInv_iff.1 hm
    refine dropped_mapInv (s := s.switchTold e) d6 d7 d8 d5 ((State.mapInv_iff _).2 ?_)
    rw [u1, u6]
    exact ⟨h3, h1, h3, h4⟩
  · exact orders_of_slots (d2.trans u3) (d3.trans u4) (d4.trans u5) (fun i => by rw [d1, u2]; exact ⟨Iff.rfl, Iff.rfl⟩) ho
  · exact State.genInv_dropRetained (s := s.switchTold e) (by rw [u1, u2]; exact boundTo_switch hg hr)

/-- A slot record replaced by one that is neither QUEUED nor PRINTING, as the old one was not. -/
theorem orders_of_setAt {s t : State} {i : SlotIx} {sl : Slot} (hs : t.slots = setAt s.slots i sl)
    (old : s.slots[i].state ≠ .queued ∧ s.slots[i].state ≠ .printing) (new : sl.state ≠ .queued ∧ sl.state ≠ .printing)
    (hq : t.queue = s.queue := by rfl) (hp : t.pass = s.pass := by rfl) (hf : t.feed = s.feed := by rfl) : s.Orders → t.Orders := by
  refine orders_of_slots hq hp hf fun j => ?_
  rw [hs, getElem_setAt]
  split
  next e => subst e; exact ⟨iff_of_false new.1 old.1, iff_of_false new.2 old.2⟩
  next => exact ⟨Iff.rfl, Iff.rfl⟩

/-- A slot record replaced in the use of Current, where the old one's binding is not lost. -/
theorem genInv_of_setAt {s t : State} {i : SlotIx} {sl : Slot} (hs : t.slots = setAt s.slots i sl) (hm : t.maps = s.maps)
    (new : sl.inUse → sl.gen = some s.maps.currentGen ∨ s.slots[i].inUse ∧ sl.gen = s.slots[i].gen)
    (old : s.slots[i].inUse → sl.inUse ∧ sl.gen = s.slots[i].gen) (h : s.GenInv) : t.GenInv := by
  rw [State.genInv_iff] at h ⊢
  rw [hs, hm]
  refine ⟨fun j hj => ?_, fun g hg => ?_⟩
  · rw [getElem_setAt] at hj ⊢
    split at hj
    next e =>
      subst e
      rw [if_pos rfl]
      rcases new hj with k | ⟨k1, k2⟩
      · exact .inl k
      · rw [k2]; exact h.1 j k1
    next e => rw [if_neg e]; exact h.1 j hj
  · obtain ⟨j, hg, hj⟩ := (s.referenced_iff_inUse g).1 (h.2 g hg)
    refine (State.referenced_iff_inUse _ g).2 ⟨j, ?_⟩
    rw [hs, getElem_setAt]
    split
    next e => subst e; exact ⟨(old hj).2.trans hg, (old hj).1⟩
    next => exact ⟨hg, hj⟩

theorem Sound.spanOpened {s : State} {i : SlotIx} (h : s.slots[i].state = .free) (d : PassDir) (first last : Nat) :
    Sound 0 s (s.spanOpened i d first last) :=
  .of_blocks (.of_eq rfl rfl rfl) id fun ho hg =>
    ⟨orders_of_setAt (t := s.spanOpened i d first last) rfl (by rw [h]; decide) ⟨nofun, nofun⟩ rfl rfl rfl ho,
      genInv_of_setAt (t := s.spanOpened i d first last) rfl rfl (fun _ => .inl rfl)
        (fun k => absurd k (Slot.not_inUse_of_free h)) hg⟩

theorem Sound.openSlot {s : State} {i : SlotIx} (h : s.slots[i].state = .free) (d : PassDir) (first last : Nat) :
    Sound 1 s (s.openSlot i d first last) := by
  rw [State.openSlot_eq]
  exact (Sound.offerCommit s).trans (n := 0) (Sound.spanOpened (by rw [State.offerCommit_slots]; exact h) ..)

/-! ## Slices (R5 to R10) -/

/-- Count n drops of a size of nozzle x of channel c where the bank sends them, or withhold them (R9, R10). -/
def Slot.countDrops (b : Bank) (c : Channel) (n : Nat) (sl : Slot) (x : Nat × DropSize) : Slot :=
  match b.route c x.1 with
  | some (d, m) => { sl with
      arrival := modifyAt sl.arrival d fun k => (k.add n x.2).clip
      groups := modifyAt sl.groups d fun set => GroupSet.insert (m / 32) set }
  | none => { sl with withheld := modifyAt sl.withheld c fun k => min (k + n) 44236800 }

/-- The slot record after an accepted slice whose drops the function count counts. -/
def Slot.takeBy (count : Slot → Nat × DropSize → Slot) (sl : Slot) (c : Channel) (a : SliceArgs) : Slot :=
  let counted := (a.columns.flatMap groupDrops).foldl count sl
  { counted with lastWritten := setAt counted.lastWritten c (some a.endColumn) }

/-- The model's count of a slice's drops, nozzle by nozzle, is the one by `Bank.route`. -/
theorem Slot.take_eq (b : Bank) (sl : Slot) (c : Channel) (a : SliceArgs) : sl.take b c a = sl.takeBy (Slot.countDrops b c a.repeats) c a := by
  have same {f : Slot → Nat × DropSize → Slot} (h : ∀ sl x, f sl x = Slot.countDrops b c a.repeats sl x) :
      sl.takeBy f c a = sl.takeBy (Slot.countDrops b c a.repeats) c a := by rw [funext₂ h]
  refine same fun sl x => ?_
  unfold Slot.countDrops Bank.route
  conv_lhs => whnf
  cases b.lookup c x.1 with
  | none => rfl
  | some y => cases y <;> rfl

theorem Slot.countDrops_state_gen (b : Bank) (c : Channel) (n : Nat) (sl : Slot) (x : Nat × DropSize) :
    (sl.countDrops b c n x).state = sl.state ∧ (sl.countDrops b c n x).gen = sl.gen := by
  unfold Slot.countDrops
  split <;> exact ⟨rfl, rfl⟩

theorem Slot.take_state_gen (b : Bank) (sl : Slot) (c : Channel) (a : SliceArgs) :
    (sl.take b c a).state = sl.state ∧ (sl.take b c a).gen = sl.gen := by
  have fold : ∀ (l : List (Nat × DropSize)) (sl : Slot), (l.foldl (Slot.countDrops b c a.repeats) sl).state = sl.state ∧
      (l.foldl (Slot.countDrops b c a.repeats) sl).gen = sl.gen := by
    intro l
    induction l with
    | nil => exact fun _ => ⟨rfl, rfl⟩
    | cons x l ih =>
      intro sl
      obtain ⟨h1, h2⟩ := ih (sl.countDrops b c a.repeats x)
      obtain ⟨k1, k2⟩ := sl.countDrops_state_gen b c a.repeats x
      exact ⟨h1.trans k1, h2.trans k2⟩
  rw [Slot.take_eq]
  exact fold _ sl

/-- A COMPOSING slot record replaced by a COMPOSING one of the same generation, whatever is stored. -/
theorem Sound.of_composing {s t : State} {i : SlotIx} {sl : Slot} (hc : s.slots[i].state = .composing) (h1 : sl.state = .composing)
    (h2 : sl.gen = s.slots[i].gen) (hs : t.slots = setAt s.slots i sl) (o : Orderly 0 s t) (maps : t.maps = s.maps := by rfl)
    (tables : t.tables = s.tables := by rfl) (queue : t.queue = s.queue := by rfl)
    (service : t.service = s.service := by rfl) (pass : t.pass = s.pass := by rfl) (accounts : t.accounts = s.accounts := by rfl)
    (supply : t.supply = s.supply := by rfl) (stop : t.stop = s.stop := by rfl) (drive : t.driveEnable = s.driveEnable := by rfl)
    (feed : t.feed = s.feed := by rfl) : Sound 0 s t :=
  .of_blocks o (mapInv_congr maps tables) (fun ho hg =>
    ⟨orders_of_setAt hs (by rw [hc]; decide) (by rw [h1]; decide) queue pass feed ho,
      genInv_of_setAt hs maps (fun _ => .inr ⟨.inl hc, h2⟩) (fun _ => ⟨.inl h1, h2⟩) hg⟩) service pass accounts supply stop drive feed

theorem setAt_setAt {α : Type} {n : Nat} (v : Vector α n) (i : Fin n) (x y : α) : setAt (setAt v i x) i y = setAt v i y := by
  unfold setAt
  exact Vector.set_set ..

theorem Sound.sliceEffect (s : State) (body : List Byte) : Sound 1 s (s.sliceEffect body) := by
  rcases s.sliceEffect_cases body with ⟨e, h⟩ | ⟨a, i, hc, h⟩ <;> rw [h]
  · exact (Sound.refl s).raise e
  · have counted : Sound 0 s (s.sliceCounted i) := .of_composing (sl := { s.slots[i] with slices := min (s.slots[i].slices + 1) 4294967295 }) hc hc rfl rfl (.of_eq rfl rfl rfl)
    rcases s.admitSlice_cases a i with ⟨why, n, h⟩ | ⟨c, h⟩ <;> rw [h]
    · exact counted.raise _
    · obtain ⟨h1, h2⟩ := Slot.take_state_gen (s.maps.bankFor s.slots[i].gen)
        { s.slots[i] with slices := min (s.slots[i].slices + 1) 4294967295 } c a
      exact (Sound.of_composing (t := s.sliceTaken a i c) hc (h1.trans hc) h2 (setAt_setAt ..) (.of_eq rfl rfl rfl)).mono (by omega)

/-! ## Closing a swath and the queue (R13, R21) -/

theorem State.append_marks (s : State) (j : Job) : (s.append j).marks = s.marks ++ [(⟨j, .waiting⟩ : Entry).mark] := by
  simp [State.marks, State.append]

/-- A slot QUEUED by the close of its swath. -/
def State.slotQueued (s : State) (i : SlotIx) : State := { s with slots := setAt s.slots i { s.slots[i] with state := .queued } }

theorem Sound.close {s : State} {i : SlotIx} (hc : s.slots[i].state = .composing) (hq : s.queue.length < 16) :
    Sound 0 s ((s.slotQueued i).append (.swath i false)) := by
  refine .of_blocks (.of_eq rfl rfl rfl) id fun ho hg => ⟨?_, ?_⟩
  · unfold State.Orders at ho ⊢
    rw [State.append_marks]
    refine ho.close (by simpa [State.marks] using hq) (i := i) (by rw [hc]; decide) (by rw [hc]; decide) fun j => ?_
    show (setAt s.slots i { s.slots[i] with state := .queued })[j].state = _
    rw [getElem_setAt]
    split <;> rfl
  · exact genInv_of_setAt (t := (s.slotQueued i).append (.swath i false)) (i := i) rfl rfl (fun _ => .inr ⟨.inl hc, rfl⟩)
      (fun _ => ⟨.inr (.inl rfl), rfl⟩) hg

theorem Sound.append {s : State} {j : Job} (hj : (⟨j, .waiting⟩ : Entry).mark = (none, .waiting)) (hq : s.queue.length < 16) :
    Sound 0 s (s.append j) := by
  refine .of_blocks (.of_eq rfl rfl rfl) id fun ho hg => ⟨?_, genInv_congr (s := s) rfl rfl hg⟩
  unfold State.Orders at ho ⊢
  rw [State.append_marks, hj]
  exact ho.append (by simpa [State.marks] using hq)

/-! ## The map banks (R84 to R88) -/

/-- The Next bank replaced by a sound and resolved one. -/
theorem State.MapInv.of_next {s t : State} (h : s.MapInv) (current : t.maps.current = s.maps.current := by rfl)
    (retained : t.maps.retained = s.maps.retained := by rfl) (sound : t.maps.next.Sound) (resolved : t.maps.next.Resolved t.tables) :
    t.MapInv := by
  obtain ⟨h1, h2, -, -⟩ := s.mapInv_iff.1 h
  exact (State.mapInv_iff t).2 ⟨current ▸ h1, retained ▸ h2, sound, resolved⟩

/-- What writes the Next bank and the pending flag alone. -/
theorem Sound.of_maps {s t : State} (maps : s.MapInv → t.MapInv) (currentGen : t.maps.currentGen = s.maps.currentGen := by rfl)
    (retainedGen : t.maps.retainedGen = s.maps.retainedGen := by rfl) (slots : t.slots = s.slots := by rfl)
    (lane : t.lane = s.lane := by rfl) (queue : t.queue = s.queue := by rfl)
    (service : t.service = s.service := by rfl) (pass : t.pass = s.pass := by rfl) (accounts : t.accounts = s.accounts := by rfl)
    (supply : t.supply = s.supply := by rfl) (stop : t.stop = s.stop := by rfl) (drive : t.driveEnable = s.driveEnable := by rfl)
    (feed : t.feed = s.feed := by rfl) : Sound 0 s t := by
  refine .of_blocks (.of_eq lane (by rw [service]) (by rw [service])) maps (fun ho hg => ⟨?_, ?_⟩) service pass accounts supply stop drive feed
  · exact orders_of_slots queue pass feed (fun i => by rw [slots]; exact ⟨Iff.rfl, Iff.rfl⟩) ho
  · rw [State.genInv_iff, BoundTo] at hg ⊢
    rw [slots, currentGen, retainedGen]
    refine ⟨hg.1, fun g h => ?_⟩
    rw [State.referenced_iff_inUse, slots]
    exact (s.referenced_iff_inUse g).1 (hg.2 g h)

theorem Sound.setNext_editList {s : State} {b : Bank} (hb : b.lists = s.maps.next.lists) (c : Channel) {l : List SubEntry}
    (good : s.MapInv → Listable (l.map (·.dead))) : Sound 0 s (s.setNext (b.editList s.tables c l)) :=
  .of_maps fun h => State.mapInv_setNext_editList h hb c (good h)

theorem State.setNext_next (s : State) : s.setNext s.maps.next = s := rfl

theorem Sound.substitutionAdd (s : State) (c : Channel) {n : Nat} (hn : n ≤ 767) :
    Sound 0 s (s.setNext (s.maps.next.add s.tables c n).1) := by
  by_cases listed : n ∈ s.maps.next.deadList c
  · rw [Bank.add_of_listed listed]; exact .refl s
  · by_cases full : 48 ≤ (s.maps.next.deadList c).length
    · rw [Bank.add_of_full listed full]; exact .refl s
    · rw [Bank.add_of_room listed (by omega)]
      refine .setNext_editList rfl c fun h => ?_
      rw [map_dead_insertEntry ⟨n, .suppress⟩ s.maps.next.lists[c] listed]
      exact (h.next_listable c).orderedInsert listed (by omega) hn

theorem Sound.substitutionRemove (s : State) (c : Channel) (n : Nat) : Sound 0 s (s.setNext (s.maps.next.remove s.tables c n)) := by
  by_cases listed : n ∈ s.maps.next.deadList c
  · rw [Bank.remove_of_listed listed]
    refine .setNext_editList rfl c fun h => ?_
    rw [Bank.map_dead_filter]
    exact (h.next_listable c).filter _
  · rw [Bank.remove_of_not_listed listed]; exact .refl s

theorem Sound.substitutionClear (s : State) (c : Channel) : Sound 0 s (s.setNext (s.maps.next.clear s.tables c)) :=
  .setNext_editList (b := { s.maps.next with overflow := setAt s.maps.next.overflow c false }) rfl c (l := []) fun _ => Listable.nil

theorem listable_foundDead (dead : List (Channel × Nat)) (c : Channel) : Listable ((foundDead dead c).take 48) := by
  refine ⟨List.length_take_le .., ?_, fun n hn => ?_⟩
  · have ascending : (foundDead dead c).Pairwise (· < ·) := List.Pairwise.filter _ List.pairwise_lt_range
    exact ascending.sublist (List.take_sublist ..)
  · have := List.mem_of_mem_take hn
    simp only [foundDead, List.mem_filter, List.mem_range] at this
    omega

/-- The lists of a check's results before they are resolved. -/
def Bank.checked (b : Bank) (set : ChannelSet) (dead : List (Channel × Nat)) : Bank where
  lists := Vector.ofFn fun c : Fin 6 => if set[c] then ((foundDead dead c).take 48).map fun n => ⟨n, .suppress⟩ else b.lists[c]
  overflow := Vector.ofFn fun c : Fin 6 => if set[c] then decide (48 < (foundDead dead c).length) else b.overflow[c]

theorem Bank.applyCheck_eq (t : Tables) (b : Bank) (set : ChannelSet) (dead : List (Channel × Nat)) :
    b.applyCheck t set dead = (b.checked set dead).reResolve t (t.reached set) := rfl

theorem Bank.getElem_checked (b : Bank) (set : ChannelSet) (dead : List (Channel × Nat)) (c : Channel) :
    (b.checked set dead).lists[c] = if set[c] then ((foundDead dead c).take 48).map fun n => ⟨n, .suppress⟩ else b.lists[c] := by
  simp [Bank.checked]

/-- After a check, the dead nozzles of each checked channel are the lowest 48 found (R88). -/
theorem Bank.deadList_applyCheck (t : Tables) (b : Bank) (set : ChannelSet) (dead : List (Channel × Nat)) (c : Channel) :
    (b.applyCheck t set dead).deadList c = if set[c] then (foundDead dead c).take 48 else b.deadList c := by
  rw [Bank.applyCheck_eq, Bank.deadList_reResolve, Bank.deadList, Bank.getElem_checked]
  split
  · simp [Function.comp_def]
  · rfl

theorem Sound.applyCheck (s : State) (set : ChannelSet) (dead : List (Channel × Nat)) : Sound 0 s (s.applyCheck set dead) := by
  refine .of_maps fun h => ?_
  obtain ⟨h1, h2, h3, h4⟩ := s.mapInv_iff.1 h
  have resolved : (s.maps.next.applyCheck s.tables set dead).Resolved s.tables := by
    rw [Bank.applyCheck_eq]
    exact Bank.resolved_reResolve h4 fun d hd => by rw [Bank.getElem_checked, if_neg (by simp [hd])]
  refine (State.mapInv_iff _).2 ⟨h1, h2, resolved.sound fun c => ?_, resolved⟩
  rw [Bank.deadList_applyCheck]
  split
  · exact listable_foundDead ..
  · exact h3.listable c

/-! ## Table writes (R153 to R158) -/

theorem resolve_tables {t t' : Tables} {c : Channel} (hp : t'.channel[c].policy = t.channel[c].policy)
    (hq : t'.channel[c].partner = t.channel[c].partner) (b : Bank) (n : Nat) : resolve t' b c n = resolve t b c n := by
  unfold resolve
  rw [hp, hq]

theorem Bank.Resolved.of_channel {t t' : Tables} {b : Bank} (h : b.Resolved t) (hc : t'.channel = t.channel) : b.Resolved t' :=
  fun c e he => (h c e he).trans (resolve_tables (by rw [hc]) (by rw [hc]) b e.dead).symm

/-- A channel's record written, its list resolved again where the policy or partner changes (R85). -/
theorem resolved_channelNext {s : State} (h : s.maps.next.Resolved s.tables) (c : Channel) (r : ChannelRec × Int) :
    (s.channelNext c r).Resolved (s.channelTables c r) := by
  have other : ∀ d : Channel, d ≠ c → (s.channelTables c r).channel[d] = s.tables.channel[d] := fun d hd => by
    show (setAt s.tables.channel c r.1)[d] = _
    rw [getElem_setAt, if_neg hd]
  have own : (s.channelTables c r).channel[c] = r.1 := by
    show (setAt s.tables.channel c r.1)[c] = _
    rw [getElem_setAt, if_pos rfl]
  unfold State.channelNext
  split
  · intro d e he
    rw [Bank.getElem_reResolve, getElem_channelSingle] at he
    rw [Bank.resolve_reResolve]
    split at he
    · obtain ⟨e, -, rfl⟩ := List.mem_map.1 he
      rfl
    next hd =>
      simp only [decide_eq_true_eq] at hd
      exact (h d e he).trans (resolve_tables (by rw [other d hd]) (by rw [other d hd]) ..).symm
  next same =>
    simp only [not_or, ne_eq, not_not] at same
    intro d e he
    rw [h d e he]
    by_cases hd : d = c
    · subst hd
      exact (resolve_tables (by rw [own, same.1]) (by rw [own, same.2]) ..).symm
    · exact (resolve_tables (by rw [other d hd]) (by rw [other d hd]) ..).symm

theorem deadList_channelNext (s : State) (c : Channel) (r : ChannelRec × Int) (d : Channel) :
    (s.channelNext c r).deadList d = s.maps.next.deadList d := by
  unfold State.channelNext
  split
  · exact Bank.deadList_reResolve ..
  · rfl

theorem Sound.tabled (s : State) {tb : Tables} (h : tb.channel = s.tables.channel) : Sound 0 s (s.tabled tb s.maps.next) :=
  .of_maps fun hm => by
    obtain ⟨h1, h2, h3, h4⟩ := s.mapInv_iff.1 hm
    exact (State.mapInv_iff _).2 ⟨h1, h2, h3, h4.of_channel h⟩

theorem Sound.channelTabled (s : State) (c : Channel) (r : ChannelRec × Int) :
    Sound 0 s (s.tabled (s.channelTables c r) (s.channelNext c r)) :=
  .of_maps fun hm => by
    obtain ⟨h1, h2, h3, h4⟩ := s.mapInv_iff.1 hm
    have resolved := resolved_channelNext h4 c r
    exact (State.mapInv_iff _).2 ⟨h1, h2, resolved.sound fun d => by rw [deadList_channelNext]; exact h3.listable d, resolved⟩

end Sys2Proof.Machine
end

section
/-!
PROOFS. Every effect keeps queue, slots, maps, reservations, carriage and stop in agreement: one case split over the effects, and from it the
rules that every step keeps.
-/

-- One declaration at a time: side by side, the threads' stacks come near the memory limit of the check.
set_option Elab.async false

namespace Sys2Proof.Machine

/-! ## Operations that end -/

/-- An operation other than a refill ends and frees the carriage. -/
theorem Sound.opEnds {n : Nat} {s u : State} {o : OpInFlight} (h : Charges n s u) (ho : s.service.holder = .op o)
    (hr : o.req.op.refillChannel = none) : Sound n s u.freeCarriage := by
  have hu : u.service.holder = .op o := h.holder.trans ho
  have kept : Kept n s u.freeCarriage := h.toKept.trans (Kept.freeCarriage u)
  exact kept.sound_of_op ho ⟨by rw [kept.pass], fun hc => (h.conveys.inv hc).freeCarriage hu hr⟩

theorem Sound.wipeDone {s : State} {o : OpInFlight} {h : Head} (ho : s.service.holder = .op o) (hw : o.req.op = .wipe h) :
    Sound 20 s (s.wipeDone o h) := by
  have ends := Sound.opEnds ((Charges.opCharged s o wholeProgress).trans (Charges.wiped _ h)) ho (by rw [hw]; rfl)
  exact (ends.trans (Quiet.serveLadders _ (channels.filter fun c => headOf c = h) fun _ => [.wipeCheck]).sound).mono
    (by have := length_filter_channels fun c => headOf c = h; omega)

theorem Sound.primeDone {s : State} {o : OpInFlight} {c : Channel} (ho : s.service.holder = .op o) (hw : o.req.op = .prime c) :
    Sound 20 s (s.primeDone o c) := by
  have ends := Sound.opEnds (((Charges.opCharged s o wholeProgress).trans (Charges.wiped _ (headOf c))).trans
    (Quiet.withdraw _ fun op => op = .wipe (headOf c)).charges) ho (by rw [hw]; rfl)
  exact (ends.trans (Quiet.serveLadders _ (channels.filter fun d => headOf d = headOf c)
    fun d => if d = c then [.wipeCheck, .primeCheck, .prime2Check] else [.wipeCheck]).sound).mono
    (by have := length_filter_channels fun d => headOf d = headOf c; omega)

theorem Sound.checkDone {s : State} {o : OpInFlight} {set : ChannelSet} (ho : s.service.holder = .op o) (hw : o.req.op = .check set)
    (dead : List (Channel × Nat)) : Sound 21 s (s.checkDone o set dead) := by
  have ends := Sound.opEnds (Charges.opCharged (s.applyCheck set dead) o wholeProgress) (o := o) ho (by rw [hw]; rfl)
  rw [State.checkDone_eq]
  exact ((Sound.applyCheck s set dead).trans (n := 15) (ends.raise _)).trans
    (Quiet.foldl (Quiet.ladderTakes set dead) channels _).sound

/-- The heads CAPPED (R103). -/
def State.headsCapped (s : State) : State := { s with service := { s.service with capped := true } }

theorem Sound.capDone {s : State} {o : OpInFlight} (ho : s.service.holder = .op o) (hw : o.req.op = .cap) :
    Sound 0 s s.headsCapped.freeCarriage := by
  have kept : Kept 0 s s.headsCapped.freeCarriage := Kept.trans (m := 0) (n := 0) (t := s.headsCapped) (Kept.setService s rfl rfl) (Kept.freeCarriage _)
  exact kept.sound_of_op ho ⟨rfl, fun hc => hc.freeCarriage (s := s) ho (by rw [hw]; rfl) |> fun h => ⟨h.1, h.2.1, h.2.2⟩⟩

theorem Sound.docks (s : State) : Sound 6 s s.docks := by
  refine ⟨(Kept.docks s).keeps (Conveys.docks s), fun hs => ?_⟩
  cases ho : s.service.inFlight with
  | some o => exact stopInv_of_op (Service.inFlight_eq_some.1 ho) (Kept.docks s).stop hs
  | none =>
    have h : s.docks = s.dockedNow := by rw [State.docks_eq, ho]
    rw [h]
    exact (Kept.dockedNow s).still id hs

theorem Sound.respit (s : State) : Sound 0 s s.respit := by
  refine ⟨(Kept.respit s).keeps (Conveys.respit s), fun hs => ?_⟩
  rcases s.respit_eq with h | ⟨o, b, v, ho, -, -⟩
  · rw [h]; exact hs
  · exact stopInv_of_op ho (Kept.respit s).stop hs

/-! ## Motions -/

theorem Holds.stop_of_isEmpty {h : Holds} (hh : h.isEmpty = true) : h.stop = false := by
  simp only [Holds.isEmpty, Bool.not_eq_true', Bool.or_eq_false_iff] at hh
  exact hh.1.1.1.1.1.1.1.1

theorem Sound.startAdvance {s : State} {d : Nat} {n r : Option Nat} {short : Bool} {rest : List Entry}
    (hq : s.queue = ⟨.advance d n r short, .waiting⟩ :: rest) (hs : s.stop.set = false) : Sound 2 s (s.startAdvance d short rest) := by
  have set : Sound 1 s (s.advanceSet d short rest) := (Feeds.advanceSet s d short rest).sound_of_entry hs
    (j' := .advance d (some (s.advanceFigures d).1) (some (s.advanceFigures d).1) short) (fun _ _ => by simp) (fun _ _ => by simp) hq
    (by rw [State.advanceSet, State.useRoll_queue])
  rw [State.startAdvance_eq]
  split
  · exact set.trans (Senses.advanceDone _).sound
  · rw [State.redrive_eq]
    exact set.write.mono (by omega)

/-- A CUT entry ACTIVE. -/
def State.cutActive (s : State) (rest : List Entry) : State := { s with queue := ⟨.cut, .active⟩ :: rest }

theorem Sound.cutEjects {s : State} {rest : List Entry} (hq : s.queue = ⟨.cut, .waiting⟩ :: rest) (hs : s.stop.set = false) :
    Sound 1 s ((s.cutActive rest).startEject .entry) := by
  have feeds : Feeds 1 s ((s.cutActive rest).startEject .entry) :=
    (Feeds.write (t := s.cutActive rest) (Feeds.refl s)).trans (n := 1) (Feeds.startOut (s.cutActive rest) _ _ _)
  exact feeds.sound_of_entry hs (fun _ _ => by simp) (fun _ _ => by simp) hq (State.startOut_queue (s.cutActive rest) _ _ _)

theorem Sound.mediaOut (s : State) : Sound 1 s s.mediaOut := (Senses.mediaOut s).sound

theorem State.startLoad_motion {s : State} {src : Source} {p : Fin 16} {mm : Nat} {m : Motion}
    (h : (s.startLoad src p mm).feed.motion = some m) : m.owner ≠ .entry := by
  rw [State.startLoad_eq, State.redrive_feed] at h
  obtain rfl : s.beginAttempt (newMotion s.now (.load .forward 0 none none none) .request) none = m := by
    simpa [State.loadFeed] using h
  simp [State.beginAttempt, newMotion]

theorem State.startLoad_queue (s : State) (src : Source) (p : Fin 16) (mm : Nat) : (s.startLoad src p mm).queue = s.queue := by
  rw [State.startLoad_eq, State.redrive_queue, State.sheetEnds_queue, State.setFeed_queue]

theorem State.trackEntry_marks (s : State) : s.trackEntry.marks = s.marks := by
  unfold State.trackEntry
  split
  next h _ _ => simp [State.marks, h, Entry.mark]
  next => rfl

theorem State.encoder_marks (s : State) (delta : Int) : (s.encoder delta).marks = s.marks := by
  have queue : (s.encoder delta).queue = ({ s with feed := s.encoded delta } : State).trackEntry.queue := by
    rw [State.encoder_eq, State.redrive_queue]
  rw [State.marks, queue]
  exact State.trackEntry_marks { s with feed := s.encoded delta }

theorem Sound.encoder (s : State) (delta : Int) : Sound 0 s (s.encoder delta) := by
  have feeds := Feeds.encoder s delta
  have same := SameMotion.encoder s delta
  refine ⟨feeds.keeps (orders_congr (State.encoder_marks s delta) feeds.slots (by rw [feeds.pass]) fun ⟨m', k, l⟩ => ?_),
    feeds.still fun m' hm' => ?_⟩
  · obtain ⟨m, h1, h2, -⟩ := same m' k
    exact ⟨m, h1, h2 ▸ l⟩
  · obtain ⟨m, h1, -, h3⟩ := same m' hm'
    exact ⟨m, h1, h3⟩

theorem Sound.resume (s : State) : Sound 0 s s.unlatched.resumeMotion := by
  have p := Pauses.resumeMotion s.unlatched
  have cleared : Keeps 0 s s.unlatched := ⟨(Acts.refl s).unlatched.toOrderly, id, fun h k => ⟨h, k⟩, id, id⟩
  exact ⟨cleared.trans p.keeps, fun _ => stopInv_of_clear (s := s.unlatched) rfl p.stop⟩

/-! ## Conversions and lane -/

theorem Sound.guardPressure (s : State) (i : AIn) (v : Int) : Sound 31 s (s.guardPressure i v) := by
  rcases s.guardPressure_cases i v with h | ⟨c, -, h⟩ <;> rw [h]
  · exact (Sound.refl s).mono (by omega)
  · exact Sound.setStop ..

theorem State.watchMark_supply (s : State) (i : AIn) (v : Int) (c : Channel) :
    (s.watchMark i v).supply[c].refill.isSome = s.supply[c].refill.isSome := by
  unfold State.watchMark
  split
  · simp
  · rfl

theorem Sound.watchMark (s : State) (i : AIn) (v : Int) : Sound 0 s (s.watchMark i v) := by
  have k := Kept.watchMark s i v
  have service : (s.watchMark i v).service = s.service := by unfold State.watchMark; split <;> rfl
  have held : Held s (s.watchMark i v) :=
    ⟨by rw [service], by rw [service], State.watchMark_supply s i v⟩
  exact ⟨k.keeps (held.conveys k.pass), k.still (by rw [service]; exact id)⟩

theorem Sound.converted (s : State) (i : AIn) (raw : Nat) : Sound 31 s (s.converted i raw) := by
  rw [State.converted_eq]
  have stored : Sound 0 s (s.resultStored i (scaled s.tables.scan[i] raw)) := Sound.write (Sound.refl s)
  exact (stored.trans (Sound.watchMark ..)).trans (Sound.guardPressure ..)

theorem Sound.makeStale (s : State) (i : AIn) : Sound 2 s (s.makeStale i) := by
  rw [State.makeStale_eq]
  exact (Sound.raise (Sound.write (t := s.resultStale i) (Sound.refl s)) _).raiseCondition _

/-- A lane reset may leave Retained without a slot until it is emptied: what holds before that. -/
structure Damages (n : Nat) (s t : State) : Prop extends Acts n s t where
  only : t = { s with lane := t.lane, slots := t.slots }
  orders : s.Orders → t.Orders
  bound : BoundTo s.slots s.maps → BoundTo t.slots t.maps

theorem Damages.refl (s : State) : Damages 0 s s := ⟨Acts.refl s, rfl, id, id⟩

theorem Damages.trans {m n : Nat} {s t u : State} (h : Damages m s t) (k : Damages n t u) : Damages (m + n) s u :=
  ⟨h.toActs.trans k.toActs, by have := k.only; have := h.only; grind, k.orders ∘ h.orders, k.bound ∘ h.bound⟩

theorem Damages.damageByReset (s : State) (i : SlotIx) : Damages 1 s (s.damageByReset i) := by
  refine ⟨Acts.damageByReset s i, ?_, ?_, ?_⟩
  all_goals unfold State.damageByReset; split
  · rfl
  · rfl
  next hc => exact orders_damaged hc rfl rfl rfl rfl
  · exact id
  next => exact fun h => BoundTo.of_slots h fun j => damage_inUse
  · exact id

theorem Damages.foldl (l : List SlotIx) (s : State) : Damages l.length s (l.foldl State.damageByReset s) := by
  induction l generalizing s with
  | nil => exact .refl s
  | cons i l ih =>
    have := (Damages.damageByReset s i).trans (ih (s.damageByReset i))
    rw [Nat.add_comm] at this
    exact this

theorem Sound.laneDamaged (s : State) : Sound 9 s s.laneDamaged := by
  have d : Damages 8 s ((List.finRange 8).foldl State.damageByReset s) := by
    have := Damages.foldl (List.finRange 8) s
    simpa using this
  unfold State.laneDamaged
  refine Sound.raiseCondition ?_ _
  generalize (List.finRange 8).foldl State.damageByReset s = u at d
  obtain ⟨d1, d2, d3, d4, -⟩ := u.dropRetained_slots_maps
  have acts : Acts 8 s u.dropRetained := d.toActs.dropRetained
  have only := d.only
  have frame : u.service = s.service ∧ u.pass = s.pass ∧ u.accounts = s.accounts ∧ u.supply = s.supply ∧ u.stop = s.stop ∧
      u.driveEnable = s.driveEnable ∧ u.feed = s.feed := by
    rw [only]; exact ⟨rfl, rfl, rfl, rfl, rfl, rfl, rfl⟩
  obtain ⟨f1, f2, f3, f4, f5, f6, f7⟩ := frame
  exact .of_blocks acts.toOrderly acts.mapInv (fun ho hg =>
    ⟨orders_of_slots d2 d3 d4 (fun i => by rw [d1]; exact ⟨Iff.rfl, Iff.rfl⟩) (d.orders ho), State.genInv_dropRetained (d.bound hg.1)⟩)
    f1 (d3.trans f2) f3 f4 f5 f6 (d4.trans f7)

/-! ## Table writes and power-on -/

theorem Sound.channelFormed (s : State) (c : Channel) (fields : List (Nat × Int)) : Sound 5 s (s.channelFormed c fields) := by
  unfold State.channelFormed
  split
  · exact ((Sound.respit s).trans (Charges.reformCart _ c).sound).trans (Quiet.reformSupply _ c).sound
  · exact ((Sound.respit s).trans (Quiet.reformSupply _ c).sound).mono (by omega)

theorem Sound.tableStored {s u : State} (h : TableStored s u) : Sound 5 s u := by
  cases h with
  | plain tb h => exact (Sound.tabled s h).mono (by omega)
  | ink tb h => exact ((Sound.tabled s h).trans (Sound.respit _)).mono (by omega)
  | channel c fields r =>
    rw [State.storeChannel_eq]
    exact (Sound.channelTabled s c r).trans (Sound.channelFormed ..)
  | service tb h => exact ((Sound.tabled s h).trans (Quiet.wearTests _).sound).mono (by omega)
  | stale tb i h => exact ((Sound.tabled s h).trans (Sound.makeStale ..)).mono (by omega)

theorem Sound.powerOn (s : State) (raw : Vector Bool 16) : Sound 608 s.atReset (s.powerOn raw) :=
  (Sound.foldl (fun t i => Sound.rawInput t i raw[i]) (List.finRange 16) s.atReset).mono (by simp)

/-! ## Every effect -/

/-- What an effect keeps, whatever it makes of the lane first. -/
inductive Soundly (s u : State) : Prop
  | lane (l : Lane) (n : Nat) (h : Sound n (s.withLane l) u)
  | reset (n : Nat) (h : Sound n s.atReset u)

theorem Effect.soundly {c : Instr} {s u : State} (h : Effect c s u) : Soundly s u := by
  have keeps : ∀ {n : Nat}, Sound n s u → Soundly s u := fun h => .lane s.lane _ h
  cases h with
  | none c s => exact keeps (.refl s)
  | powerOn s raw => exact .reset _ (Sound.powerOn s raw)
  | engineReset s => exact keeps (Sound.engineReset s)
  | engineResetLine s => exact keeps (Sound.engineReset s)
  | laneAligned s => exact .lane { s.lane with aligned := true } _ (Sound.refl _)
  | laneReset s => exact .lane s.lane.cleared _ (Sound.laneDamaged (s.withLane s.lane.cleared))
  | frameDiscarded s => exact keeps ((Sound.refl s).raiseCondition _)
  | framePlaced s bytes f ha hr => exact .lane (s.lane.place f) _ (Sound.refl _)
  | returnFrameSent s => exact .lane { s.lane with sending := .none } _ (Sound.refl _)
  | swathOpen s i d first last h => exact keeps (Sound.openSlot h ..)
  | slice s body => exact .lane s.lane.pop _ (Sound.sliceEffect _ body)
  | swathMismatch s i n h => exact keeps (Sound.damageByCount h n)
  | swathClose s i h hq => exact keeps (Sound.close h hq)
  | swathDiscard s i h => exact keeps (Sound.freeSlot (by rcases h with h | h <;> rw [h] <;> decide) (by rcases h with h | h <;> rw [h] <;> decide))
  | advance s d hq => exact keeps (Sound.append rfl hq)
  | cut s hq => exact keeps (Sound.append rfl hq)
  | abort s => exact keeps (Sound.abort s)
  | resume s => exact keeps (Sound.resume s)
  | loadMedia s src p mm hp hs =>
    exact keeps ((Feeds.startLoad s src p mm).sound_of_start hs (s.startLoad_queue src p mm) fun m hm => State.startLoad_motion hm)
  | clearJam s => exact keeps (Sound.mediaOut s)
  | unloadMedia s hp hs =>
    exact keeps ((Feeds.startOut s _ _ _).sound_of_start hs (State.startOut_queue ..) fun m hm => by rw [(State.startOut_motion _ _ _ _ hm).1]; decide)
  | eject s he hs =>
    exact keeps ((Feeds.startOut s _ _ _).sound_of_start hs (State.startOut_queue ..) fun m hm => by rw [(State.startOut_motion _ _ _ _ hm).1]; decide)
  | wipe s h => exact keeps (Quiet.place ..).sound
  | prime s c => exact keeps (Quiet.place ..).sound
  | checkNozzles s set => exact keeps (Quiet.place ..).sound
  | cap s => exact keeps (Quiet.place ..).sound
  | fillToMark s c => exact keeps (Quiet.requestRefill ..).sound
  | resetLadder s c => exact keeps (Quiet.formatterResetsLadder s c).sound
  | commitMap s => exact keeps (Sound.of_maps id)
  | tagRead s c => exact keeps (Charges.beginInsertion s c).sound
  | scan s v => exact keeps (Sound.write (Sound.refl s))
  | tableWrite s u t i fields clamped h => exact keeps (Sound.tableStored (writeTable_stored h))
  | substitutionAdd s c n hn => exact keeps (Sound.substitutionAdd s c hn)
  | substitutionRemove s c n => exact keeps (Sound.substitutionRemove s c n)
  | substitutionClear s c => exact keeps (Sound.substitutionClear s c)
  | clearConditions s named => exact .lane (s.lane.clear named) _ (Quiet.clearNamed s named).sound
  | arbiterGrant s h => exact keeps (Sound.arbitrate h)
  | advanceStart s d n r short rest hq h => exact keeps (Sound.startAdvance hq (Holds.stop_of_isEmpty h))
  | cutStart s rest hq h =>
    exact keeps ((Feeds.startCut s rest).sound_of_entry (Holds.stop_of_isEmpty h) (fun _ _ => by simp) (fun _ _ => by simp) hq (s.startCut_queue rest))
  | cutEjects s rest hq h => exact keeps (Sound.cutEjects hq (Holds.stop_of_isEmpty h))
  | spittoonStrobe s p hp => exact keeps (Sound.write (Sound.refl s) (pass := by rw [hp]; rfl))
  | columnStrobe s p x hp => exact keeps (Sound.write (Sound.refl s) (pass := by rw [hp]; rfl))
  | passCompletion s p hp => exact keeps (Sound.endPass hp true)
  | strobeTimeout s p => exact keeps (Sound.setStop ..)
  | dockReported s => exact keeps (Sound.docks s)
  | operationFails s c o timeout ho => exact keeps ((Kept.failOp ..).sound_of_op ho (Conveys.failOp ho timeout))
  | wipeCompletion s o h ho hr hw => exact keeps (Sound.wipeDone ho hw)
  | primeCompletion s o c ho hr hw => exact keeps (Sound.primeDone ho hw)
  | checkCompletion s dead o set ho hr hw => exact keeps (Sound.checkDone ho hw dead)
  | capCompletion s o ho hr hw => exact keeps (Sound.capDone ho hw)
  | capDelayExpiry s => exact keeps (Quiet.capTest s).sound
  | strokeComplete s o c k ho hr hc hk => exact keeps ((Kept.strokeDone ..).sound_of_op ho (Conveys.strokeDone hk))
  | tagAnswered s c a txn => exact keeps (Charges.tagAnswered ..).sound
  | tagFaults s c => exact keeps (Charges.tagFaults s c).sound
  | lampBlinkToggle s c => exact keeps (Sound.write (Sound.refl s))
  | rawInputChange s i b => exact keeps (Sound.rawInput ..)
  | inputFilterExpiry s i b => exact keeps (Sound.acceptInput ..)
  | feedEncoderCount s d => exact keeps (Sound.encoder s d)
  | advanceSettled s m => exact keeps (Senses.advanceDone s).sound
  | feedStall s m => exact keeps (Senses.jam ..).sound
  | cutTimeout s m => exact keeps (Senses.cutFails s).sound
  | loadEdgeSettled s => exact keeps (Senses.loadRests s).sound
  | loadBackfeedDone s => exact keeps (Senses.retryDone s).sound
  | loadNoEdge s => exact keeps (Senses.loadFails ..).sound
  | ejectComplete s m hm => exact keeps (Senses.ejectDone hm).sound
  | limit s m => exact keeps (Senses.jam ..).sound
  | unloadComplete s m => exact keeps (Sound.mediaOut s)
  | conversionEnd s raw i => exact keeps (Sound.converted ..)
  | resultStaleExpiry s i => exact keeps (Sound.makeStale ..)

end Sys2Proof.Machine
end

section
/-!
PROOFS. The invariants at reset, and the rules that every step keeps.
-/

-- One declaration at a time: side by side, the threads' stacks come near the memory limit of the check.
set_option Elab.async false

namespace Sys2Proof.Machine

/-! ## At reset -/

theorem reset_slot (i : SlotIx) : State.reset.slots[i] = blankSlot := by simp [State.reset]

theorem reset_orders : State.reset.Orders :=
  State.orders_of_rest rfl rfl (fun i => by rw [reset_slot]; rfl) rfl

theorem reset_genInv : State.reset.GenInv :=
  State.genInv_of_rest (fun i => by rw [reset_slot]; rfl) rfl

theorem reset_account (c : Channel) : State.reset.accounts[c] = initAccount := by simp [State.reset]

theorem reset_supply (c : Channel) : State.reset.supply[c] = initSupply := by simp [State.reset]

theorem reset_reserveInv : State.reset.ReserveInv :=
  ⟨fun _ c => by rw [reset_account]; exact ⟨rfl, rfl⟩, fun h => absurd rfl h⟩

theorem reset_carriageInv : State.reset.CarriageInv :=
  State.carriageInv_free rfl rfl fun c => by rw [reset_supply]; rfl

theorem reset_ladderInv : State.reset.LadderInv := fun c => by
  have : State.reset.service.ladders[c] = initLadder := by simp [State.reset, initService]
  rw [this]
  exact Ladder.Ok.of_unstepped rfl (by decide) rfl rfl rfl rfl

theorem reset_requestInv : State.reset.RequestInv := List.Pairwise.nil

theorem emptyBank_list (c : Channel) : emptyBank.lists[c] = [] := by simp [emptyBank]

theorem emptyBank_sound : emptyBank.Sound := fun c => by rw [emptyBank_list]; simp

theorem reset_mapInv : State.reset.MapInv :=
  ⟨emptyBank_sound, emptyBank_sound, emptyBank_sound, fun c e h => by
    rw [show State.reset.maps.next.lists[c] = [] from emptyBank_list c] at h
    simp at h⟩

theorem reset_stopInv : State.reset.StopInv := nofun

/-! ## What follows a step -/

section Follows

variable {u t : State} (h : Follows u t)
include h

theorem Follows.orders (hu : u.Orders) : t.Orders :=
  orders_congr (State.marks_of_bare h.queue) h.slots (by rw [h.pass]) (by rw [State.entryMoves, h.feed]; exact id) hu

theorem Follows.genInv (hu : u.GenInv) : t.GenInv := genInv_congr h.slots h.maps hu

theorem Follows.mapInv (hu : u.MapInv) : t.MapInv := mapInv_congr h.maps h.tables hu

theorem Follows.reserveInv (hu : u.ReserveInv) : t.ReserveInv :=
  reserveInv_congr (by rw [h.pass]) (fun c => by rw [h.accounts]; exact ⟨rfl, rfl⟩) hu

theorem Follows.carriageInv (hu : u.CarriageInv) : t.CarriageInv :=
  carriageInv_congr (by rw [h.pass]) h.holder h.docked (fun c => by rw [(h.refills c).1]) hu

theorem Follows.stopInv (hu : u.StopInv) : t.StopInv :=
  stopInv_congr h.stop h.driveEnable (by rw [h.pass])
    (by rw [Service.inFlight_eq_none_iff, Service.inFlight_eq_none_iff, h.holder]; exact id)
    (fun m' k => ⟨m', by rw [← h.feed]; exact k, rfl⟩) hu

end Follows

/-! ## Every step -/

/-- What a command's own effect keeps, whatever it makes of the lane, what the reset state meets, and what follows every step keeps holds
after every step. -/
theorem step_keeps {P : State → Prop} (lane : ∀ s l, P s → P (s.withLane l)) (now : ∀ s n, P s → P { s with now := n })
    (pending : ∀ s p, P s → P { s with pending := p }) (reset : P State.reset) (sound : ∀ {n s u}, Sound n s u → P s → P u)
    (finish : ∀ force s0 u, P u → P (State.finish force s0 u)) {s t : State} (h : step s = .next t) (hs : P s) : P t := by
  have effect : ∀ {c : Instr} {s u : State}, Effect c s u → P s → P u := fun {c s u} h hs => by
    cases h.soundly with
    | lane l n k => exact sound k (lane _ _ hs)
    | reset n k => exact sound k (pending _ _ reset)
  rcases step_cases h with rfl | ⟨c, rest, h⟩
  · exact now _ _ hs
  · cases h with
    | idle => exact pending _ _ hs
    | ran force s0 u k =>
      refine finish force s0 u ?_
      rcases k with k | ⟨-, v, r, -, -, k, rfl⟩
      · exact effect k (pending _ _ hs)
      · exact lane _ _ (effect k (lane _ _ (pending _ _ hs)))

/-- Settles O53: queue, slots, pass and generations agree after every step. -/
theorem stepsKeepQueueSlotsAndGenerations : Obligations.StepsKeepQueueSlotsAndGenerations := by
  intro s t h hq hp hg
  obtain ⟨orders, gens⟩ := step_keeps (P := fun s => s.Orders ∧ s.GenInv) (fun _ _ h => h) (fun _ _ h => h) (fun _ _ h => h)
    ⟨reset_orders, reset_genInv⟩ (fun k hs => k.agree hs.1 hs.2)
    (fun force s0 u hu => ⟨(Follows.finish force s0 u).orders hu.1, (Follows.finish force s0 u).genInv hu.2⟩) h
    ⟨(State.orders_iff s).2 ⟨hq, hp⟩, hg⟩
  obtain ⟨queue, pass⟩ := (State.orders_iff t).1 orders
  exact ⟨queue, pass, gens⟩

/-- Settles O56. -/
theorem stepsKeepTheStoppedEngineStill : Obligations.StepsKeepTheStoppedEngineStill := fun _ _ =>
  step_keeps (fun _ _ h => h) (fun _ _ h => h) (fun _ _ h => h) reset_stopInv (fun k => k.still)
    fun force s0 u => (Follows.finish force s0 u).stopInv

/-- Settles O57. -/
theorem stepsKeepTheMapsSound : Obligations.StepsKeepTheMapsSound := fun _ _ =>
  step_keeps (fun _ _ h => h) (fun _ _ h => h) (fun _ _ h => h) reset_mapInv (fun k => k.maps)
    fun force s0 u => (Follows.finish force s0 u).mapInv

theorem finish_ladderInv (force : Bool) (s0 u : State) (h : u.LadderInv) : (State.finish force s0 u).LadderInv := by
  rw [State.finish_eq]
  exact (Orderly.settle force s0 u).ladders h

theorem finish_requestInv (force : Bool) (s0 u : State) (h : u.RequestInv) : (State.finish force s0 u).RequestInv := by
  rw [State.finish_eq]
  exact (Orderly.settle force s0 u).requests h

/-- Settles O58: reservations, carriage, ladders and requests, each by itself. -/
theorem stepsKeepCarriageReservationsAndLadders : Obligations.StepsKeepCarriageReservationsAndLadders := fun _ _ h hr hc hl hp =>
  ⟨step_keeps (fun _ _ h => h) (fun _ _ h => h) (fun _ _ h => h) reset_reserveInv (fun k => k.reserve)
      (fun force s0 u => (Follows.finish force s0 u).reserveInv) h hr,
    step_keeps (fun _ _ h => h) (fun _ _ h => h) (fun _ _ h => h) reset_carriageInv (fun k => k.carriage)
      (fun force s0 u => (Follows.finish force s0 u).carriageInv) h hc,
    step_keeps (fun _ _ h => h) (fun _ _ h => h) (fun _ _ h => h) reset_ladderInv (fun k => k.ladders) finish_ladderInv h hl,
    step_keeps (fun _ _ h => h) (fun _ _ h => h) (fun _ _ h => h) reset_requestInv (fun k => k.requests) finish_requestInv h hp⟩

/-! ## Tier 1 -/

/-- Settles O52: each invariant at reset. -/
theorem resetMeetsTheInvariants : Obligations.ResetMeetsTheInvariants := by
  obtain ⟨queue, pass⟩ := (State.orders_iff _).1 reset_orders
  have cart : ∀ c : Channel, State.reset.carts[c] = initCartridge := fun c => by simp [State.reset]
  have lamp : ∀ c : Channel, State.reset.lamps[c] = initLamp := fun c => by simp [State.reset]
  refine ⟨queue, pass, reset_reserveInv, reset_ladderInv, reset_requestInv, reset_carriageInv, ?_, ⟨fun c => ?_, ?_⟩, ?_,
    fun c => ?_, fun c => ?_, ⟨fun _ => ⟨rfl, rfl⟩, fun _ _ h => by cases h⟩, reset_stopInv, reset_mapInv, reset_genInv⟩
  · unfold State.LaneInv; decide
  · rw [reset_account, cart]; decide
  · decide
  · unfold State.StoreInv; decide
  · rw [reset_supply, State.formedSupply, reset_supply, reset_account]; rfl
  · rw [lamp, cart, reset_supply]; rfl

/-- Settles O1: a step is exec of the front command, or a millisecond. -/
theorem stepRunsTheFrontCommand : Obligations.StepRunsTheFrontCommand := by
  refine ⟨fun c s => rfl, fun s h => ?_⟩
  unfold step
  rw [h]

end Sys2Proof.Machine
end

section
/-!
PROOFS. What ENGINE RESET can queue before it writes the media path: at most 31 events, since the end of a pass forms every supply state and
a ladder reset leaves none suspended. The return queue with room for 32 keeps the MEDIA STATE event that follows them.
-/

-- One declaration at a time: side by side, the threads' stacks come near the memory limit of the check.
set_option Elab.async false

namespace Sys2Proof.Machine

/-! ## Events of a supply state -/

theorem State.formedSupply_eq_starved {s : State} {c : Channel} : s.formedSupply c = .starved ↔
    s.supply[c].faultMark = false ∧ s.supply[c].refill.isSome = false ∧ s.supply[c].need.isSome = true := by
  unfold State.formedSupply
  dsimp only
  split_ifs <;> simp_all

theorem State.resumeLadder_of_unsuspended {s : State} {c : Channel} (h : s.service.ladders[c].state ≠ .suspended) : s.resumeLadder c = s := by
  unfold State.resumeLadder
  dsimp only
  split
  next h' _ _ _ => exact absurd h' h
  next => rfl

/-- The supply state written with its event (R58). -/
def State.supplyTold (s : State) (c : Channel) : State :=
  ({ s with supply := modifyAt s.supply c fun r => { r with state := s.formedSupply c } } : State).raise
    (.supplyState c (s.formedSupply c) s.accounts[c].level s.accounts[c].known s.accounts[c].reserved)

theorem State.reformSupply_cases (s : State) (c : Channel) : s.reformSupply c = s ∨ s.formedSupply c ≠ s.supply[c].state ∧
    (s.supply[c].state ≠ .starved ∨ s.service.ladders[c].state ≠ .suspended →
      s.reformSupply c = s.supplyTold c ∨ s.reformSupply c = (s.supplyTold c).place (.refill c) none bySupply) := by
  by_cases h : s.formedSupply c = s.supply[c].state
  · exact .inl (by unfold State.reformSupply; exact if_pos h)
  refine .inr ⟨h, fun hs => ?_⟩
  have told : (if s.supply[c].state = .starved then (s.supplyTold c).resumeLadder c else s.supplyTold c) = s.supplyTold c := by
    split
    next e => exact State.resumeLadder_of_unsuspended (s := s.supplyTold c) (hs.resolve_left (absurd e))
    next => rfl
  have eq : s.reformSupply c = if s.formedSupply c = .low ∧ (s.supplyTold c).canSupply c
      then (s.supplyTold c).place (.refill c) none bySupply else s.supplyTold c := by
    conv_rhs => rw [← told]
    unfold State.reformSupply
    exact if_neg h
  rw [eq]
  split
  · exact .inr rfl
  · exact .inl rfl

theorem State.supplyTold_frame (s : State) (c : Channel) : s.lane.Raised 1 (s.supplyTold c).lane ∧
    (s.supplyTold c).service = s.service := ⟨Lane.raised_raise .., rfl⟩

theorem State.place_ladders (s : State) (op : StationOp) (a : Option Nat) (o : Origins) :
    (s.place op a o).service.ladders = s.service.ladders := rfl

/-- A supply state formed again queues its event alone where no ladder is resumed. -/
theorem State.reformSupply_raised {s : State} {c : Channel}
    (h : s.formedSupply c ≠ s.supply[c].state → s.supply[c].state ≠ .starved ∨ s.service.ladders[c].state ≠ .suspended) :
    s.lane.Raised 1 (s.reformSupply c).lane ∧ (s.reformSupply c).service.ladders = s.service.ladders := by
  obtain ⟨told, service⟩ := s.supplyTold_frame c
  rcases s.reformSupply_cases c with e | ⟨hne, e⟩
  · rw [e]; exact ⟨(Lane.Raised.refl _).mono (by omega), rfl⟩
  · rcases e (h hne) with e | e <;> rw [e]
    · exact ⟨told, by rw [service]⟩
    · rw [State.place_lane, State.place_ladders, service]; exact ⟨told, rfl⟩

/-! ## Operations on formed supply states -/

/-- Where every supply state is formed, at most n events are raised and every supply state stands formed. -/
structure Calm (n : Nat) (s t : State) : Prop where
  forms : s.SupplyInv → t.SupplyInv ∧ s.lane.Raised n t.lane

theorem Calm.refl (s : State) : Calm 0 s s := ⟨fun h => ⟨h, .refl _⟩⟩

theorem Calm.trans {m n : Nat} {s t u : State} (h : Calm m s t) (k : Calm n t u) : Calm (m + n) s u :=
  ⟨fun hs => ⟨(k.forms (h.forms hs).1).1, (h.forms hs).2.trans (k.forms (h.forms hs).1).2⟩⟩

theorem Calm.mono {m n : Nat} {s t : State} (h : Calm m s t) (hmn : m ≤ n) : Calm n s t :=
  ⟨fun hs => ⟨(h.forms hs).1, (h.forms hs).2.mono hmn⟩⟩

theorem supplyInv_congr {s t : State} (hs : t.supply = s.supply) (ha : t.accounts = s.accounts) (ht : t.tables = s.tables)
    (h : s.SupplyInv) : t.SupplyInv := fun c => State.Formed.of_eq (h c) (by rw [hs]) (by rw [ha]) ht

theorem Calm.of_eq {s t : State} (supply : t.supply = s.supply := by rfl) (accounts : t.accounts = s.accounts := by rfl)
    (tables : t.tables = s.tables := by rfl) (lane : t.lane = s.lane := by rfl) : Calm 0 s t :=
  ⟨fun h => ⟨supplyInv_congr supply accounts tables h, by rw [lane]; exact .refl _⟩⟩

/-- A request for a fill by the supply controller alone records no need. -/
theorem State.requestFill_supply (s : State) (c : Channel) : (s.requestRefill c .fill none bySupply).supply = s.supply ∧
    (s.requestRefill c .fill none bySupply).lane = s.lane := by
  unfold State.requestRefill
  dsimp only
  split_ifs <;> simp_all [bySupply]

/-- An account written. -/
def State.accountWritten (s : State) (c : Channel) (a : Account) : State := { s with accounts := setAt s.accounts c a }

theorem State.setAccount_cases (s : State) (c : Channel) (a : Account) : s.setAccount c a = (s.accountWritten c a).reformSupply c ∨
    s.setAccount c a = ((s.accountWritten c a).reformSupply c).requestRefill c .fill none bySupply := by
  unfold State.setAccount
  dsimp only
  split
  · exact .inr rfl
  · exact .inl rfl

theorem Calm.requestFill (s : State) (c : Channel) : Calm 0 s (s.requestRefill c .fill none bySupply) :=
  .of_eq (s.requestFill_supply c).1 (Quiet.requestRefill ..).accounts (Quiet.requestRefill ..).tables (s.requestFill_supply c).2

theorem State.accountWritten_formed {s : State} {c d : Channel} (h : s.Formed d) (hd : d ≠ c) (a : Account) :
    (s.accountWritten c a).Formed d :=
  State.Formed.of_eq h rfl (by rw [State.accountWritten]; exact (getElem_setAt ..).trans (if_neg hd)) rfl

theorem Calm.accountReformed (s : State) (c : Channel) (a : Account) : Calm 1 s ((s.accountWritten c a).reformSupply c) := by
  refine ⟨fun hs => ⟨fun d => ?_, (State.reformSupply_raised (s := s.accountWritten c a) fun hne => .inl fun hst => hne ?_).1⟩⟩
  · by_cases hd : d = c
    · exact hd ▸ State.reformSupply_formed _ _
    · exact (State.accountWritten_formed (hs d) hd a).reformSupply c
  · have starved : s.formedSupply c = .starved := (hs c).symm.trans hst
    refine Eq.trans ?_ hst.symm
    exact (State.formedSupply_eq_starved (s := s.accountWritten c a)).2 (State.formedSupply_eq_starved (s := s).1 starved)

theorem Calm.setAccount (s : State) (c : Channel) (a : Account) : Calm 1 s (s.setAccount c a) := by
  rcases s.setAccount_cases c a with h | h <;> rw [h]
  · exact .accountReformed s c a
  · exact (Calm.accountReformed s c a).trans (.requestFill ..)

theorem State.setAccount_formed (s : State) (c d : Channel) (a : Account) (h : d = c ∨ s.Formed d) : (s.setAccount c a).Formed d := by
  have reformed : ((s.accountWritten c a).reformSupply c).Formed d := by
    by_cases hd : d = c
    · exact hd ▸ State.reformSupply_formed _ _
    · exact (State.accountWritten_formed (h.resolve_left hd) hd a).reformSupply c
  rcases s.setAccount_cases c a with e | e <;> rw [e]
  · exact reformed
  · obtain ⟨hs, -⟩ := ((s.accountWritten c a).reformSupply c).requestFill_supply c
    have quiet := Quiet.requestRefill ((s.accountWritten c a).reformSupply c) c .fill none bySupply
    exact State.Formed.of_eq reformed (by rw [hs]) (by rw [quiet.accounts]) quiet.tables

/-- The end of a pass forms every supply state. -/
theorem State.chargePass_supplyInv (s : State) (p : PassContext) : (s.chargePass p).SupplyInv := by
  have fold : ∀ (l : List Channel) (s : State) (d : Channel), d ∈ l ∨ s.Formed d → (l.foldl (State.settleChannel p) s).Formed d := by
    intro l
    induction l with
    | nil => exact fun s d h => h.resolve_left (by simp)
    | cons c l ih =>
      intro s d h
      refine ih _ d ?_
      rcases h with h | h
      · rcases List.mem_cons.1 h with h | h
        · exact .inr (State.setAccount_formed s c d _ (.inl h))
        · exact .inl h
      · exact .inr (State.setAccount_formed s c d _ (.inr h))
  rw [State.chargePass_eq]
  exact fun d => fold channels s d (.inl (mem_channels d))

theorem Quiet.wearTest_supply (s : State) (h : Head) : (s.wearTest h).supply = s.supply := by
  unfold State.wearTest; split <;> rfl

theorem State.countPass_supply (s : State) (p : PassContext) : (s.countPass p).supply = s.supply :=
  foldl_keeps (P := fun t : State => t.supply = s.supply) (f := fun t h => t.addDrops h (p.headDrops h))
    (fun _ h k => (Quiet.wearTest_supply _ h).trans k) (b := s.stamp p.fired) rfl _

theorem State.endPass_supplyInv (s : State) (p : PassContext) (complete : Bool) : (s.endPass p complete).SupplyInv := by
  obtain ⟨-, -, -, -, -, t6, t7⟩ := s.passTold_frame p complete
  obtain ⟨-, -, -, -, -, l6, l7, -⟩ := (s.passTold p complete).passLeft_frame p.slot s.now complete
  have tables : (s.endPass p complete).tables = (s.chargePass p).tables :=
    (Acts.endPass s p complete).tables.trans (Inks.chargePass s p).acts.tables.symm
  refine supplyInv_congr (s := s.chargePass p) ?_ ?_ tables (s.chargePass_supplyInv p)
  · rw [State.endPass_eq, l6, t6]; exact State.countPass_supply ..
  · rw [State.endPass_eq, l7, t7]; exact State.countPass_accounts ..

/-! ## An operation abandoned -/

theorem Calm.chargeDrops (s : State) (c : Channel) (p : Nat) : Calm 1 s (s.chargeDrops c p) := Calm.setAccount ..

theorem Calm.chargeService (s : State) (c : Channel) (n : Counts) :
    Calm (if n.total = 0 then 0 else 1) s (s.chargeService c n) := by
  unfold State.chargeService
  split
  · exact .refl s
  · split
    · exact Calm.chargeDrops ..
    · exact (Calm.refl s).mono (by omega)

theorem Calm.foldl_countP {f : State → Channel → State} {p : Channel → Bool} (h : ∀ s c, Calm (if p c then 1 else 0) s (f s c))
    (l : List Channel) (s : State) : Calm (l.countP p) s (l.foldl f s) := by
  induction l generalizing s with
  | nil => exact .refl s
  | cons c l ih =>
    refine ((h s c).trans (ih (f s c))).mono ?_
    rw [List.countP_cons]
    omega

theorem firedDrops_total_of_burst {spit : Vector Nat 6} {op : StationOp} {p : Config.StationProgress} {c : Channel}
    (h : op.burst spit c = Counts.zero) : (op.firedDrops spit p c).total = 0 := by
  unfold StationOp.firedDrops
  rw [h]
  simp only [Counts.zero, Counts.times, Counts.upTo, Counts.plus, Counts.total]
  split <;> simp

/-- Charging what an operation fired raises one event for each channel that its bursts reach. -/
theorem Calm.chargeFired (s : State) (o : OpInFlight) (p : Config.StationProgress) (q : Channel → Bool)
    (hq : ∀ c, q c = false → o.req.op.burst o.spit c = Counts.zero) :
    Calm (channels.countP q) s (channels.foldl (fun t c => t.chargeService c (o.req.op.firedDrops o.spit p c)) s) := by
  refine Calm.foldl_countP (fun t c => (Calm.chargeService t c _).mono ?_) channels s
  cases hc : q c with
  | true => split <;> simp
  | false => rw [if_pos (firedDrops_total_of_burst (hq c hc))]; simp

/-- The purge of an operation charged (R54). -/
def State.purgePaid (s : State) (o : OpInFlight) : State :=
  match o.req.op, o.purge with
  | .prime c, some v => s.chargePurge c v
  | _, _ => s

theorem State.opCharged_fold (s : State) (o : OpInFlight) (p : Config.StationProgress) : s.opCharged o p =
    (channels.foldl (fun t c => t.chargeService c (o.req.op.firedDrops o.spit p c)) (s.purgePaid o)).stamp
      (Vector.ofFn fun c : Fin 6 => o.req.op.firedGroups o.spit p c) := rfl

theorem countP_headOf (h : Head) : channels.countP (fun c => decide (headOf c = h)) = 2 := by
  revert h; decide

theorem Calm.opCharged (s : State) (o : OpInFlight) (p : Config.StationProgress) : Calm 6 s (s.opCharged o p) := by
  have stamped : ∀ u : State, Calm 0 u (u.stamp (Vector.ofFn fun c : Fin 6 => o.req.op.firedGroups o.spit p c)) := fun u => .of_eq
  rw [State.opCharged_fold]
  by_cases h : ∃ c, o.req.op = .prime c
  · obtain ⟨c, hc⟩ := h
    have paid : Calm 1 s (s.purgePaid o) := by
      unfold State.purgePaid
      split
      · exact Calm.setAccount ..
      · exact (Calm.refl s).mono (by omega)
    have fired := Calm.chargeFired (s.purgePaid o) o p (fun d => decide (headOf d = headOf c)) fun d hd => by
      rw [hc, StationOp.burst, if_neg (by simpa using hd)]
    rw [countP_headOf] at fired
    exact ((paid.trans fired).trans (stamped _)).mono (by omega)
  · have paid : s.purgePaid o = s := by
      unfold State.purgePaid
      split
      next c v hc _ => exact absurd ⟨c, hc⟩ h
      next => rfl
    rw [paid]
    exact ((Calm.chargeFired s o p (fun _ => true) nofun).trans (stamped _)).mono (by simp [channels])

theorem Calm.opInterrupted (s : State) (o : OpInFlight) : Calm 6 s (s.opInterrupted o) := by
  unfold State.opInterrupted
  split
  · exact Calm.trans (m := 0) (t := { s with freeCount := s.freeCount + 1 }) .of_eq (Calm.opCharged ..)
  · exact (Calm.refl s).mono (by omega)

theorem StationOp.uncaps_of_refill {op : StationOp} {c : Channel} (h : op.refillChannel = some c) : op.uncaps = false := by
  cases op <;> simp_all [StationOp.refillChannel, StationOp.uncaps]

/-- With every supply state formed, an operation that the engine's stop ends raises at most 6 events. -/
theorem State.haltOp_raised {s : State} (h : s.SupplyInv) (o : OpInFlight) (why : RefillEnd) : s.lane.Raised 6 (s.haltOp o why).lane := by
  have lane : (s.haltOp o why).lane = ((s.opInterrupted o).stopStation.endRefillOf o.req.op why).lane := by
    unfold State.haltOp State.capLost
    dsimp only
    split <;> rfl
  rw [lane]
  cases hc : o.req.op.refillChannel with
  | none =>
    have none : (s.opInterrupted o).stopStation.endRefillOf o.req.op why = (s.opInterrupted o).stopStation := by
      unfold State.endRefillOf; rw [hc]
    rw [none]
    exact ((Calm.opInterrupted s o).forms h).2
  | some c =>
    have same : s.opInterrupted o = s := by
      unfold State.opInterrupted
      rw [StationOp.uncaps_of_refill hc, Bool.and_false]
      rfl
    rw [same]
    exact ((Kept.endRefillOf s.stopStation o.req.op why).lane).mono (by omega)

theorem State.abandonOp_raised {s : State} (h : s.SupplyInv) : s.lane.Raised 6 s.abandonOp.lane := by
  rcases s.abandonOp_cases with ⟨-, e⟩ | ⟨o, -, e⟩ <;> rw [e]
  · exact (Lane.Raised.refl _).mono (by omega)
  · exact s.haltOp_raised h o _

theorem State.stopOp_raised {s : State} (h : s.SupplyInv) : s.lane.Raised 6 s.stopOp.lane := by
  rcases s.stopOp_cases with ⟨-, e⟩ | ⟨o, -, e⟩ <;> rw [e]
  · exact (Lane.Raised.refl _).mono (by omega)
  · exact (s.haltOp_raised h o _).trans (Quiet.replaceRequest ..).lane

/-- The stop latch set raises at most 20 events. -/
theorem State.setStop_raised (s : State) (cause : StopCause) : s.lane.Raised 20 (s.setStop cause).lane := by
  rw [State.setStop_eq]
  split
  · exact (Lane.Raised.refl _).mono (by omega)
  have latched : s.lane.Raised 1 (s.latched cause).lane := Lane.raised_raise ..
  have paused : ∀ u : State, u.lane.Raised 0 u.pauseMotion.lane := fun u => (Pauses.pauseMotion u).toFeeds.lane
  cases hp : (s.latched cause).pass with
  | none =>
    rw [State.abortPass_of_none hp]
    exact ((latched.trans (Kept.stopOp _).lane).trans (paused _)).mono (by omega)
  | some p =>
    rw [State.abortPass_of_some hp]
    exact ((latched.trans (Acts.endPass _ p false).lane).trans (State.stopOp_raised (State.endPass_supplyInv _ p false))).trans (paused _)

/-! ## Ladders and needs reset -/

/-- No ladder is suspended. -/
def State.Unsuspended (s : State) : Prop := ∀ c : Channel, s.service.ladders[c].state ≠ .suspended

theorem State.setLadder_ladders (s : State) (c : Channel) (l : Ladder) :
    (s.setLadder c l).service.ladders = setAt s.service.ladders c l := by
  unfold State.setLadder State.dropAsked
  dsimp only
  split_ifs <;> rfl

/-- A ladder made NORMAL with its counts. -/
def Ladder.normalled (l : Ladder) : Ladder := { l with state := .normal, phase := none, suspStep := none, suspPhase := none, cause := none }

theorem State.resetLadder_cases (s : State) (c : Channel) : s.resetLadder c = s.setLadder c (s.service.ladders[c]).normalled ∨
    s.service.ladders[c].state ≠ .suspended ∧ s.resetLadder c = s := by
  unfold State.resetLadder
  dsimp only
  split
  · exact .inl rfl
  next hn =>
    simp only [Bool.or_eq_true, decide_eq_true_eq, not_or] at hn
    exact .inr ⟨hn.2, rfl⟩

theorem State.resetLadder_state (s : State) (c d : Channel) :
    d = c ∨ s.service.ladders[d].state ≠ .suspended → (s.resetLadder c).service.ladders[d].state ≠ .suspended := by
  intro h
  rcases s.resetLadder_cases c with e | ⟨hn, e⟩ <;> rw [e]
  · rw [State.setLadder_ladders, getElem_setAt]
    split
    · exact nofun
    next hd => exact h.resolve_left hd
  · rcases h with rfl | h
    · exact hn
    · exact h

theorem State.resetLadders_unsuspended (s : State) : (channels.foldl State.resetLadder s).Unsuspended := by
  have fold : ∀ (l : List Channel) (s : State) (d : Channel), d ∈ l ∨ s.service.ladders[d].state ≠ .suspended →
      (l.foldl State.resetLadder s).service.ladders[d].state ≠ .suspended := by
    intro l
    induction l with
    | nil => exact fun s d h => h.resolve_left (by simp)
    | cons c l ih =>
      intro s d h
      refine ih _ d ?_
      rcases h with h | h
      · rcases List.mem_cons.1 h with h | h
        · exact .inr (State.resetLadder_state s c d (.inl h))
        · exact .inl h
      · exact .inr (State.resetLadder_state s c d (.inr h))
  exact fun d => fold channels s d (.inl (mem_channels d))

theorem State.reformSupplies_raised {s : State} (h : s.Unsuspended) (l : List Channel) :
    s.lane.Raised l.length (l.foldl State.reformSupply s).lane := by
  induction l generalizing s with
  | nil => exact .refl _
  | cons c l ih =>
    obtain ⟨raised, ladders⟩ := State.reformSupply_raised (s := s) (c := c) fun _ => .inr (h c)
    have rest := ih (s := s.reformSupply c) fun d => by rw [ladders]; exact h d
    have all := raised.trans rest
    rw [Nat.add_comm] at all
    exact all

/-- The ink needs cleared. -/
def State.needless (s : State) : State := { s with supply := s.supply.map fun r => { r with need := none } }

theorem State.resetNeeds_raised {s : State} (h : s.Unsuspended) : s.lane.Raised 6 s.resetNeeds.lane :=
  State.reformSupplies_raised (s := s.needless) h channels

/-- Before it writes the media path, ENGINE RESET raises at most 31 events. -/
theorem State.blocksReset_raised (s : State) : s.lane.Raised 31 s.blocksReset.lane := by
  have halted : s.lane.Raised 19 s.abortPass.abandonOp.lane := by
    cases hp : s.pass with
    | none =>
      rw [State.abortPass_of_none hp]
      exact ((Kept.abandonOp s).lane).mono (by omega)
    | some p =>
      rw [State.abortPass_of_some hp]
      exact ((Acts.endPass s p false).lane).trans (State.abandonOp_raised (s.endPass_supplyInv p false))
  have ladders : Quiet 6 s.emptiedOut.queueCleared (channels.foldl State.resetLadder s.emptiedOut.queueCleared) :=
    Quiet.foldl Quiet.resetLadder channels _
  have lane : s.emptiedOut.queueCleared.lane = s.abortPass.abandonOp.lane := rfl
  have before : s.lane.Raised 25 (channels.foldl State.resetLadder s.emptiedOut.queueCleared).lane :=
    (lane ▸ halted).trans ladders.lane
  exact before.trans (State.resetNeeds_raised (State.resetLadders_unsuspended _))

end Sys2Proof.Machine
end

section
/-!
PROOFS. Every change of the media path state is told: what each effect reports, and ENGINE RESET, whose MEDIA STATE event finds room.
-/

-- One declaration at a time: side by side, the threads' stacks come near the memory limit of the check.
set_option Elab.async false

namespace Sys2Proof.Machine

/-! ## What leaves the report of the media path -/

theorem State.passTold_event (s : State) (p : PassContext) (complete : Bool) : (s.passTold p complete).feed.event = s.feed.event := by
  have dried : ∀ (u : State) (x : Nat) (e : Event), ((u.startDrying x).raise e).feed.event = u.feed.event := fun u x e => by
    rw [State.startDrying_eq]; rfl
  rw [State.passTold, dried, (Inks.passSettled s p).feed]

theorem State.endPass_event (s : State) (p : PassContext) (complete : Bool) : (s.endPass p complete).feed.event = s.feed.event := by
  obtain ⟨-, -, -, feed, -⟩ := (s.passTold p complete).passLeft_frame p.slot s.now complete
  rw [State.endPass_eq, feed, State.passTold_event]

theorem State.abortPass_event (s : State) : s.abortPass.feed.event = s.feed.event := by
  cases h : s.pass with
  | none => rw [State.abortPass_of_none h]
  | some p => rw [State.abortPass_of_some h, State.endPass_event]

theorem State.pauseMotion_event (s : State) : s.pauseMotion.feed.event = s.feed.event := by
  unfold State.pauseMotion
  split
  · rfl
  · split
    · rfl
    · rw [State.redrive_feed]; rfl

theorem State.resumeMotion_event (s : State) : s.resumeMotion.feed.event = s.feed.event := by
  unfold State.resumeMotion
  split
  · rfl
  · split
    · split
      · rfl
      · rw [State.redrive_feed]; rfl
    · rfl

theorem State.setStop_event (s : State) (cause : StopCause) : (s.setStop cause).feed.event = s.feed.event := by
  rw [State.setStop_eq]
  split
  · rfl
  · rw [State.pauseMotion_event, (Kept.stopOp _).feed, State.abortPass_event]; rfl

theorem State.settlingTest_event (s : State) : s.settlingTest.feed.event = s.feed.event := by
  rw [State.settlingTest_eq]
  refine foldl_keeps (P := fun t : State => t.feed.event = s.feed.event) (fun t i h => ?_) rfl _
  unfold State.settleInput
  split
  · exact (State.setStop_event ..).trans h
  · exact h

/-! ## Told -/

/-- The media path state is as it was, or its change is told where at most 32 events wait. -/
def Told (s u : State) : Prop :=
  u.feed.path = s.feed.path ∨ (s.lane.events.length ≤ 32 → ⟨s.now, u.feed.event⟩ ∈ u.lane.events)

theorem Reported.told {n : Nat} {s u : State} (h : Reported n s u) (hn : n ≤ 32) : Told s u :=
  h.2.2.imp_right fun k hl => k (by omega)

theorem Told.of_feed {s u : State} (h : u.feed = s.feed) : Told s u := .inl (by rw [h])

theorem Told.of_event {s u : State} (h : u.feed.event = s.feed.event) : Told s u := .inl (Feed.path_of_event h)

theorem Acts.reported {n : Nat} {s t : State} (h : Acts n s t) (hp : t.feed.path = s.feed.path) : Reported n s t :=
  ⟨h.now, h.lane, .inl hp⟩

/-- What follows steps that leave the path state. -/
theorem Reported.after {m n : Nat} {s t u : State} (hn : t.now = s.now) (hl : s.lane.Raised m t.lane) (hp : t.feed.path = s.feed.path)
    (k : Reported n t u) : Reported (m + n) s u := by
  obtain ⟨k1, k2, k3⟩ := k
  refine ⟨k1.trans hn, hl.trans k2, k3.imp (·.trans hp) fun told hb => ?_⟩
  rw [← hn]
  exact told (by have := hl.length_le; omega)

theorem Told.acceptInput (s : State) (i : DIn) (level : Bool) : Told s (s.acceptInput i level) := by
  have set : Acts 1 s (s.levelSet i level) := Acts.levelSet s i level
  have path : (s.levelSet i level).feed.path = s.feed.path := by unfold State.levelSet; split <;> rfl
  rw [State.acceptInput_eq, State.levelRouted]
  split
  · exact (Reported.after (Acts.setStop ..).now.symm.symm (State.setStop_raised ..) (Feed.path_of_event (State.setStop_event ..))
      (Reported.sensed ..) |> Reported.after set.now set.lane path).told (by omega)
  · exact (Reported.after set.now set.lane path (Reported.sensed ..)).told (by omega)

theorem Told.rawInput (s : State) (i : DIn) (raw : Bool) : Told s (s.rawInput i raw) := by
  rcases s.rawInput_cases i raw with ⟨v, h⟩ | h <;> rw [h]
  · exact .inl rfl
  · exact Told.acceptInput ..

/-! ## ENGINE RESET and the rest -/

theorem State.blocksReset_path (s : State) : s.blocksReset.feed.path = s.feed.path := by
  have ladders : Quiet 6 s.emptiedOut.queueCleared (channels.foldl State.resetLadder s.emptiedOut.queueCleared) :=
    Quiet.foldl Quiet.resetLadder channels _
  have kept : Kept 18 s.emptiedOut.queueCleared s.blocksReset := ladders.charges.toKept.trans (Kept.resetNeeds _)
  have feed : s.emptiedOut.queueCleared.feed = s.abortPass.abandonOp.feed := rfl
  rw [kept.feed, feed, (Kept.abandonOp _).feed]
  exact Feed.path_of_event s.abortPass_event

theorem State.unlatched_lane (s : State) : s.unlatched.lane = s.lane := rfl

theorem Told.engineReset (s : State) : Told s s.engineReset := by
  have now : s.blocksReset.now = s.now := (Acts.blocksReset s).now
  have reset : Reported 32 s s.blocksReset.resetFeed :=
    Reported.after now s.blocksReset_raised s.blocksReset_path (Reported.resetFeed _)
  have tail : Quiet 0 s.blocksReset.resetFeed.unlatched.settlingTest s.engineReset := Quiet.requestsReplaced _
  have event : s.engineReset.feed.event = s.blocksReset.resetFeed.feed.event := by
    rw [tail.feed, State.settlingTest_event, (State.unlatched_frame _).2.2.2.1]
  have lane : s.blocksReset.resetFeed.lane.Raised 496 s.engineReset.lane := by
    have := (Acts.settlingTest s.blocksReset.resetFeed.unlatched).lane.trans tail.lane
    rwa [State.unlatched_lane] at this
  refine (reset.told (Nat.le_refl _)).imp (Feed.path_of_event event).trans fun told hl => ?_
  rw [event]
  exact lane.mem (told hl)

theorem State.arbitrate_feed (s : State) : s.arbitrate.feed = s.feed := by
  have primes : (State.arbitratePrimes channels s).feed = s.feed := (Quiet.arbitratePrimes channels s).feed
  have released : ∀ (t : State) i rep rest, (t.release i rep rest).feed = t.feed := fun t i rep rest => by
    rw [State.release_eq]
    obtain ⟨-, -, -, feed, -⟩ := (t.bandRisk i).passReleased_frame i rep rest
    rw [feed, (Charges.headsUncapped _).feed, (Quiet.bandRisk t i).feed]
  rcases s.arbitrate_cases with h | ⟨-, h⟩ | ⟨r, -, h⟩ <;> rw [h]
  · exact primes
  · rcases (State.arbitratePrimes channels s).grantPass_cases with ⟨i, rep, rest, hq, -, h⟩ | ⟨i, rep, rest, hq, h⟩ | h <;> rw [h]
    · rw [released]; exact primes
    · have kept := (Evaluates.evaluateSwath (s := (State.arbitratePrimes channels s).passTaken) hq).frame
      rw [kept]; exact primes
    · exact primes
  · rw [(Kept.grantOp _ r).feed, primes]

theorem State.converted_event (s : State) (i : AIn) (raw : Nat) : (s.converted i raw).feed.event = s.feed.event := by
  rw [State.converted_eq]
  rcases State.guardPressure_cases ((s.resultStored i (scaled s.tables.scan[i] raw)).watchMark i (scaled s.tables.scan[i] raw)) i
    (scaled s.tables.scan[i] raw) with h | ⟨c, -, h⟩ <;> rw [h]
  · rw [(Kept.watchMark ..).feed]; rfl
  · rw [State.setStop_event, (Kept.watchMark ..).feed]; rfl

theorem State.abort_path (s : State) : s.abort.feed.path = s.feed.path := by
  obtain ⟨-, -, only, -⟩ := s.abortPass.unqueued.slotsFreed_only.frame
  have eq : s.abort = s.abortPass.unqueued.slotsFreed := s.abort_eq
  rw [eq, only, s.abortPass.unqueued_frame.2.2.1]
  exact Feed.path_of_event s.abortPass_event

theorem TableStored.feed {s u : State} (h : TableStored s u) : u.feed = s.feed := by
  cases h with
  | plain tb h => rfl
  | ink tb h => exact (Kept.respit _).feed
  | channel c fields r => rw [State.storeChannel_eq, (Kept.channelFormed ..).feed]; rfl
  | service tb h => exact (Quiet.wearTests _).feed
  | stale tb i h => rfl

theorem State.offerCommit_feed (s : State) : s.offerCommit.feed = s.feed := by
  rcases s.offerCommit_cases with h | ⟨-, e, h⟩ <;> rw [h]
  rw [(State.dropRetained_slots_maps _).2.2.2.1]
  rfl

theorem State.sliceEffect_feed (s : State) (body : List Byte) : (s.sliceEffect body).feed = s.feed := by
  rcases s.sliceEffect_cases body with ⟨e, h⟩ | ⟨a, i, -, h⟩ <;> rw [h]
  · rfl
  · rcases s.admitSlice_cases a i with ⟨why, n, h⟩ | ⟨c, h⟩ <;> rw [h] <;> rfl

theorem State.laneDamaged_feed (s : State) : s.laneDamaged.feed = s.feed := by
  have only := (Damages.foldl (List.finRange 8) s).only
  unfold State.laneDamaged
  generalize (List.finRange 8).foldl State.damageByReset s = u at only
  rw [show (u.dropRetained.raiseCondition (.laneError .alignment)).feed = u.dropRetained.feed from rfl,
    u.dropRetained_slots_maps.2.2.2.1, only]

theorem Effect.told {c : Instr} {s u : State} (h : Effect c s u) (hc : ∀ raw, c ≠ .powerOn raw) : Told s u := by
  cases h with
  | none c s => exact .inl rfl
  | powerOn s raw => exact absurd rfl (hc raw)
  | engineReset s => exact Told.engineReset s
  | engineResetLine s => exact Told.engineReset s
  | laneAligned s => exact .inl rfl
  | laneReset s => exact .of_feed (State.laneDamaged_feed (s.withLane s.lane.cleared))
  | frameDiscarded s => exact .inl rfl
  | framePlaced s bytes f ha hr => exact .inl rfl
  | returnFrameSent s => exact .inl rfl
  | swathOpen s i d first last h => exact .of_feed (by rw [State.openSlot_eq]; exact s.offerCommit_feed)
  | slice s body => exact .of_feed (State.sliceEffect_feed (s.withLane s.lane.pop) body)
  | swathMismatch s i n h => exact .inl rfl
  | swathClose s i h hq => exact .inl rfl
  | swathDiscard s i h => exact .inl rfl
  | advance s d hq => exact .inl rfl
  | cut s hq => exact .inl rfl
  | abort s => exact .inl s.abort_path
  | resume s => exact .of_event (State.resumeMotion_event s.unlatched)
  | loadMedia s src p mm hp hs => exact (Reported.startLoad ..).told (by omega)
  | clearJam s => exact (Reported.mediaOut s).told (by omega)
  | unloadMedia s hp hs => exact (Reported.startOut ..).told (by omega)
  | eject s he hs => exact (Reported.startOut ..).told (by omega)
  | wipe s h => exact .of_feed (Quiet.place ..).feed
  | prime s c => exact .of_feed (Quiet.place ..).feed
  | checkNozzles s set => exact .of_feed (Quiet.place ..).feed
  | cap s => exact .of_feed (Quiet.place ..).feed
  | fillToMark s c => exact .of_feed (Quiet.requestRefill ..).feed
  | resetLadder s c => exact .of_feed (Quiet.formatterResetsLadder s c).feed
  | commitMap s => exact .inl rfl
  | tagRead s c => exact .of_feed (Charges.beginInsertion s c).feed
  | scan s v => exact .inl rfl
  | tableWrite s u t i fields clamped h => exact .of_feed (writeTable_stored h).feed
  | substitutionAdd s c n hn => exact .inl rfl
  | substitutionRemove s c n => exact .inl rfl
  | substitutionClear s c => exact .inl rfl
  | clearConditions s named => exact .of_feed (Quiet.clearNamed s named).feed
  | arbiterGrant s h => exact .of_feed s.arbitrate_feed
  | advanceStart s d n r short rest hq h => exact .inl (State.startAdvance_path ..)
  | cutStart s rest hq h => exact (Reported.startCut s rest).told (by omega)
  | cutEjects s rest hq h => exact (Reported.startOut (s.cutActive rest) _ _ _).told (by omega)
  | spittoonStrobe s p hp => exact .inl rfl
  | columnStrobe s p x hp => exact .inl rfl
  | passCompletion s p hp => exact .of_event (State.endPass_event ..)
  | strobeTimeout s p => exact .of_event (State.setStop_event ..)
  | dockReported s => exact .of_feed (Kept.docks s).feed
  | operationFails s c o timeout ho => exact .of_feed (Kept.failOp ..).feed
  | wipeCompletion s o h ho hr hw => exact .of_feed (Kept.wipeDone ..).feed
  | primeCompletion s o c ho hr hw => exact .of_feed (Kept.primeDone ..).feed
  | checkCompletion s dead o set ho hr hw => exact .of_feed ((Kept.checkDone s o set dead).feed.trans rfl)
  | capCompletion s o ho hr hw => exact .inl rfl
  | capDelayExpiry s => exact .of_feed (Quiet.capTest s).feed
  | strokeComplete s o c k ho hr hc hk => exact .of_feed (Kept.strokeDone ..).feed
  | tagAnswered s c a txn => exact .of_feed (Charges.tagAnswered ..).feed
  | tagFaults s c => exact .of_feed (Charges.tagFaults s c).feed
  | lampBlinkToggle s c => exact .inl rfl
  | rawInputChange s i b => exact Told.rawInput ..
  | inputFilterExpiry s i b => exact Told.acceptInput ..
  | feedEncoderCount s d => exact .inl (s.encoder_path d)
  | advanceSettled s m => exact .inl s.advanceDone_path
  | feedStall s m => exact (Reported.jam ..).told (by omega)
  | cutTimeout s m => exact (Reported.cutFails s).told (by omega)
  | loadEdgeSettled s => exact (Reported.loadRests s).told (by omega)
  | loadBackfeedDone s => exact (Reported.retryDone s).told (by omega)
  | loadNoEdge s => exact (Reported.loadFails ..).told (by omega)
  | ejectComplete s m hm => exact (Reported.ejectDone s m).told (by omega)
  | limit s m => exact (Reported.jam ..).told (by omega)
  | unloadComplete s m => exact (Reported.mediaOut s).told (by omega)
  | conversionEnd s raw i => exact .of_event (s.converted_event i raw)
  | resultStaleExpiry s i => exact .inl rfl

theorem Step.told {c : Instr} {s u : State} (h : Step c s u) (hc : ∀ raw, c ≠ .powerOn raw) : Told s u := by
  rcases h with h | ⟨-, v, r, -, -, h, rfl⟩
  · exact h.told hc
  · exact h.told (s := s.withLane s.lane.pop) hc

theorem Lane.mem_reported {l : Lane} {e : EventFrame} (h : e ∈ l.events) : e ∈ l.reported := List.mem_append_right _ h

/-- Settles O60: the effect of a command tells a change of the path state, and what follows every step drops no event. -/
theorem pathChangesAreReported : Obligations.PathChangesAreReported := by
  intro c s t h hc changed
  cases took_of_exec h with
  | idle => exact absurd rfl changed
  | ran force s0 u k =>
    have follows := Follows.finish force s0 u
    rw [follows.feed] at changed ⊢
    exact fun room => follows.events.mem (Lane.mem_reported (((k.told hc).resolve_left changed) room))

end Sys2Proof.Machine
end

section
/-!
PROOFS. What only its own commands change: the tables, the latched conditions, the stop latch, the Swath Store, the Current bank, and the
commands waiting.
-/

-- One declaration at a time: side by side, the threads' stacks come near the memory limit of the check.
set_option Elab.async false

namespace Sys2Proof.Machine

/-! ## The stop latch -/

theorem State.endPass_stop (s : State) (p : PassContext) (complete : Bool) : (s.endPass p complete).stop = s.stop := by
  obtain ⟨-, -, -, -, stop, -⟩ := (s.passTold p complete).passLeft_frame p.slot s.now complete
  rw [State.endPass_eq, stop, (s.passTold_frame p complete).2.2.2.2.1]

theorem State.abortPass_stop (s : State) : s.abortPass.stop = s.stop := by
  cases h : s.pass with
  | none => rw [State.abortPass_of_none h]
  | some p => rw [State.abortPass_of_some h, State.endPass_stop]

theorem State.abort_stop (s : State) : s.abort.stop = s.stop := by
  obtain ⟨-, -, -, -, -, -, stop, -⟩ := s.abortPass.unqueued.slotsFreed_only.frame
  have eq : s.abort = s.abortPass.unqueued.slotsFreed := s.abort_eq
  rw [eq, stop, s.abortPass.unqueued_frame.2.2.2.2.2.2.1, State.abortPass_stop]

theorem State.setStop_of_set {s : State} (h : s.stop.set = true) (cause : StopCause) : s.setStop cause = s := by
  rw [State.setStop_eq, if_pos h]

theorem State.sensed_stop (s : State) (i : DIn) (level settling : Bool) : (s.sensed i level settling).stop = s.stop := by
  cases h : cartInput i with
  | some c => rw [State.sensed_of_some h]; exact (Kept.cartSensor s c level).stop
  | none => rw [State.sensed_of_none h]; exact (Senses.feedSensed ..).toFeeds.stop

theorem State.levelSet_stop (s : State) (i : DIn) (level : Bool) : (s.levelSet i level).stop = s.stop := by
  unfold State.levelSet; split <;> rfl

theorem State.acceptInput_stop {s : State} (h : s.stop.set = true) (i : DIn) (level : Bool) : (s.acceptInput i level).stop = s.stop := by
  rw [State.acceptInput_eq, State.sensed_stop, State.levelRouted]
  split
  · rw [State.setStop_of_set (by rw [State.levelSet_stop]; exact h), State.levelSet_stop]
  · exact State.levelSet_stop ..

theorem State.rawInput_stop {s : State} (h : s.stop.set = true) (i : DIn) (raw : Bool) : (s.rawInput i raw).stop = s.stop := by
  rcases s.rawInput_cases i raw with ⟨v, e⟩ | e <;> rw [e]
  exact State.acceptInput_stop h i raw

theorem State.arbitrate_stop (s : State) : s.arbitrate.stop = s.stop := by
  have primes : (State.arbitratePrimes channels s).stop = s.stop := (Quiet.arbitratePrimes channels s).stop
  have released : ∀ (t : State) i rep rest, (t.release i rep rest).stop = t.stop := fun t i rep rest => by
    rw [State.release_eq]
    obtain ⟨-, -, -, -, -, -, stop⟩ := (t.bandRisk i).passReleased_frame i rep rest
    rw [stop, (Charges.headsUncapped _).stop, (Quiet.bandRisk t i).stop]
  rcases s.arbitrate_cases with h | ⟨-, h⟩ | ⟨r, -, h⟩ <;> rw [h]
  · exact primes
  · rcases (State.arbitratePrimes channels s).grantPass_cases with ⟨i, rep, rest, hq, -, h⟩ | ⟨i, rep, rest, hq, h⟩ | h <;> rw [h]
    · rw [released]; exact primes
    · have kept := (Evaluates.evaluateSwath (s := (State.arbitratePrimes channels s).passTaken) hq).frame
      rw [kept]; exact primes
    · exact primes
  · rw [(Kept.grantOp _ r).stop, primes]

theorem State.converted_stop {s : State} (h : s.stop.set = true) (i : AIn) (raw : Nat) : (s.converted i raw).stop = s.stop := by
  have watched : ((s.resultStored i (scaled s.tables.scan[i] raw)).watchMark i (scaled s.tables.scan[i] raw)).stop = s.stop :=
    (Kept.watchMark ..).stop
  rw [State.converted_eq]
  rcases State.guardPressure_cases ((s.resultStored i (scaled s.tables.scan[i] raw)).watchMark i (scaled s.tables.scan[i] raw)) i
    (scaled s.tables.scan[i] raw) with e | ⟨c, -, e⟩ <;> rw [e]
  · exact watched
  · rw [State.setStop_of_set (by rw [watched]; exact h), watched]

theorem TableStored.stop {s u : State} (h : TableStored s u) : u.stop = s.stop := by
  cases h with
  | plain tb h => rfl
  | ink tb h => exact (Kept.respit _).stop
  | channel c fields r => rw [State.storeChannel_eq, (Kept.channelFormed ..).stop]; rfl
  | service tb h => exact (Quiet.wearTests _).stop
  | stale tb i h => rfl

/-! ## What each command owns -/

/-- From s to u by command c, what another command owns stands. -/
structure Owned (c : Instr) (s u : State) : Prop where
  tables : c ≠ .tableWrite → u.tables = s.tables
  latched : c ≠ .clearConditions → ∀ k, s.lane.conditions.latched k = true → u.lane.conditions.latched k = true
  stop : c ≠ .resume → c ≠ .engineReset → c ≠ .engineResetLine → s.stop.set = true → u.stop = s.stop
  store : c ≠ .swathOpen → c ≠ .slice → u.store = s.store
  current : c ≠ .swathOpen → u.maps.current = s.maps.current ∧ u.maps.currentGen = s.maps.currentGen
  waiting : u.pending = s.pending

theorem Acts.owned {n : Nat} {c : Instr} {s u : State} (h : Acts n s u)
    (stop : c ≠ .resume → c ≠ .engineReset → c ≠ .engineResetLine → s.stop.set = true → u.stop = s.stop) : Owned c s u where
  tables _ := h.tables
  latched _ := h.lane.latched
  stop := stop
  store _ _ := h.store
  current _ := h.current
  waiting := h.waiting

theorem Owned.withLane {c : Instr} {s u : State} {l : Lane} (hl : l.conditions = s.lane.conditions) (h : Owned c (s.withLane l) u) :
    Owned c s u where
  tables := h.tables
  latched hc k hk := h.latched hc k (by rw [State.withLane, hl]; exact hk)
  stop := h.stop
  store := h.store
  current := h.current
  waiting := h.waiting

/-- What writes the Next bank or the pending flag alone. -/
theorem Owned.of_maps {c : Instr} {s u : State} (tables : u.tables = s.tables := by rfl) (lane : u.lane = s.lane := by rfl)
    (stop : u.stop = s.stop := by rfl) (store : u.store = s.store := by rfl)
    (current : u.maps.current = s.maps.current ∧ u.maps.currentGen = s.maps.currentGen := by exact ⟨rfl, rfl⟩)
    (waiting : u.pending = s.pending := by rfl) : Owned c s u :=
  ⟨fun _ => tables, fun _ k hk => by rw [lane]; exact hk, fun _ _ _ _ => stop, fun _ _ => store, fun _ => current, waiting⟩

theorem State.laneDamaged_stop (s : State) : s.laneDamaged.stop = s.stop := by
  have only := (Damages.foldl (List.finRange 8) s).only
  unfold State.laneDamaged
  generalize (List.finRange 8).foldl State.damageByReset s = u at only
  have dropped : u.dropRetained.stop = u.stop := rfl
  rw [show (u.dropRetained.raiseCondition (.laneError .alignment)).stop = u.dropRetained.stop from rfl, dropped, only]

theorem State.offerCommit_frame (s : State) : s.offerCommit.tables = s.tables ∧ s.offerCommit.stop = s.stop ∧
    s.offerCommit.store = s.store ∧ s.offerCommit.pending = s.pending := by
  rcases s.offerCommit_cases with h | ⟨-, e, h⟩ <;> rw [h]
  · exact ⟨rfl, rfl, rfl, rfl⟩
  · exact ⟨rfl, rfl, rfl, rfl⟩

theorem State.sliceEffect_frame (s : State) (body : List Byte) : (s.sliceEffect body).tables = s.tables ∧
    (s.sliceEffect body).stop = s.stop ∧ (s.sliceEffect body).maps = s.maps ∧ (s.sliceEffect body).pending = s.pending := by
  rcases s.sliceEffect_cases body with ⟨e, h⟩ | ⟨a, i, -, h⟩ <;> rw [h]
  · exact ⟨rfl, rfl, rfl, rfl⟩
  · rcases s.admitSlice_cases a i with ⟨why, n, h⟩ | ⟨c, h⟩ <;> rw [h] <;> exact ⟨rfl, rfl, rfl, rfl⟩

theorem Owned.openSlot (s : State) (i : SlotIx) (d : PassDir) (first last : Nat) : Owned .swathOpen s (s.openSlot i d first last) := by
  obtain ⟨tables, stop, -, waiting⟩ := s.offerCommit_frame
  exact ⟨fun _ => tables, fun _ => (Ranges.openSlot s i d first last).lane.latched, fun _ _ _ _ => stop, fun h => absurd rfl h,
    fun h => absurd rfl h, waiting⟩

theorem Owned.sliceEffect (s : State) (body : List Byte) : Owned .slice s (s.sliceEffect body) := by
  obtain ⟨tables, stop, maps, waiting⟩ := s.sliceEffect_frame body
  exact ⟨fun _ => tables, fun _ => (Ranges.sliceEffect s body).lane.latched, fun _ _ _ _ => stop, fun _ h => absurd rfl h,
    fun _ => by rw [maps]; exact ⟨rfl, rfl⟩, waiting⟩

theorem Owned.trans {n : Nat} {c : Instr} {s t u : State} (h : Owned c s t) (k : Acts n t u) (stop : u.stop = t.stop) : Owned c s u where
  tables hc := k.tables.trans (h.tables hc)
  latched hc x hx := k.lane.latched x (h.latched hc x hx)
  stop h1 h2 h3 hs := stop.trans (h.stop h1 h2 h3 hs)
  store h1 h2 := k.store.trans (h.store h1 h2)
  current hc := ⟨k.current.1.trans (h.current hc).1, k.current.2.trans (h.current hc).2⟩
  waiting := k.waiting.trans h.waiting

theorem Owned.checkDone {c : Instr} (s : State) (o : OpInFlight) (set : ChannelSet) (dead : List (Channel × Nat)) :
    Owned c s (s.checkDone o set dead) :=
  Owned.trans (t := s.applyCheck set dead) .of_maps (Kept.checkDone s o set dead).acts (Kept.checkDone s o set dead).stop

theorem Effect.owned {c : Instr} {s u : State} (h : Effect c s u) (hc : ∀ raw, c ≠ .powerOn raw) : Owned c s u := by
  have same : ∀ {n : Nat}, Acts n s u → u.stop = s.stop → Owned c s u := fun h k => h.owned fun _ _ _ _ => k
  have ifSet : ∀ {n : Nat}, Acts n s u → (s.stop.set = true → u.stop = s.stop) → Owned c s u := fun h k => h.owned fun _ _ _ => k
  cases h with
  | none c s => exact same (Acts.refl s) rfl
  | powerOn s raw => exact absurd rfl (hc raw)
  | engineReset s => exact (Acts.engineReset s).owned fun _ h => absurd rfl h
  | engineResetLine s => exact (Acts.engineReset s).owned fun _ _ h => absurd rfl h
  | laneAligned s => exact .withLane (l := { s.lane with aligned := true }) rfl ((Acts.refl _).owned fun _ _ _ _ => rfl)
  | laneReset s =>
    exact .withLane (l := s.lane.cleared) rfl
      ((Acts.laneDamaged (s.withLane s.lane.cleared)).owned fun _ _ _ _ => State.laneDamaged_stop (s.withLane s.lane.cleared))
  | frameDiscarded s => exact same ((Acts.refl s).raiseCondition _) rfl
  | framePlaced s bytes f ha hr => exact .withLane (l := s.lane.place f) rfl ((Acts.refl _).owned fun _ _ _ _ => rfl)
  | returnFrameSent s => exact .withLane (l := { s.lane with sending := .none }) rfl ((Acts.refl _).owned fun _ _ _ _ => rfl)
  | swathOpen s i d first last h => exact Owned.openSlot ..
  | slice s body => exact .withLane (l := s.lane.pop) rfl (Owned.sliceEffect (s.withLane s.lane.pop) body)
  | swathMismatch s i n h => exact same (Acts.damageByCount ..) rfl
  | swathClose s i h hq => exact same (Acts.write (Acts.refl s)) rfl
  | swathDiscard s i h => exact same ((Acts.refl s).freeSlot i) rfl
  | advance s d hq => exact same (Acts.write (Acts.refl s)) rfl
  | cut s hq => exact same (Acts.write (Acts.refl s)) rfl
  | abort s => exact same (Acts.abort s) s.abort_stop
  | resume s => exact Acts.owned ((Acts.refl s).unlatched.trans (Pauses.resumeMotion _).toFeeds.acts) fun h => absurd rfl h
  | loadMedia s src p mm hp hs => exact same (Feeds.startLoad ..).acts (Feeds.startLoad ..).stop
  | clearJam s => exact same (Feeds.mediaOut s).acts (Feeds.mediaOut s).stop
  | unloadMedia s hp hs => exact same (Feeds.startOut s _ _ _).acts (Feeds.startOut s _ _ _).stop
  | eject s he hs => exact same (Feeds.startOut s _ _ _).acts (Feeds.startOut s _ _ _).stop
  | wipe s h => exact same (Quiet.place ..).acts rfl
  | prime s c => exact same (Quiet.place ..).acts rfl
  | checkNozzles s set => exact same (Quiet.place ..).acts rfl
  | cap s => exact same (Quiet.place ..).acts rfl
  | fillToMark s c => exact same (Quiet.requestRefill ..).acts (Quiet.requestRefill ..).stop
  | resetLadder s c => exact same (Quiet.formatterResetsLadder s c).acts (Quiet.formatterResetsLadder s c).stop
  | commitMap s => exact .of_maps
  | tagRead s c => exact same (Charges.beginInsertion s c).acts (Charges.beginInsertion s c).stop
  | scan s v => exact same (Acts.write (Acts.refl s)) rfl
  | tableWrite s u t i fields clamped h =>
    have stored := writeTable_stored h
    obtain ⟨tb, next, acts⟩ := stored.acts
    exact ⟨fun h => absurd rfl h, fun _ => acts.lane.latched, fun _ _ _ _ => stored.stop, fun _ _ => acts.store, fun _ => acts.current,
      acts.waiting⟩
  | substitutionAdd s c n hn => exact .of_maps
  | substitutionRemove s c n => exact .of_maps
  | substitutionClear s c => exact .of_maps
  | clearConditions s named =>
    have quiet := Quiet.clearNamed s named
    have acts := quiet.acts
    exact ⟨fun _ => acts.tables, fun h => absurd rfl h, fun _ _ _ _ => quiet.stop, fun _ _ => acts.store, fun _ => acts.current, acts.waiting⟩
  | arbiterGrant s h => exact same (Acts.arbitrate s) s.arbitrate_stop
  | advanceStart s d n r short rest hq h => exact same (Feeds.startAdvance ..).acts (Feeds.startAdvance ..).stop
  | cutStart s rest hq h => exact same (Feeds.startCut ..).acts (Feeds.startCut ..).stop
  | cutEjects s rest hq h =>
    exact same ((Acts.write (t := s.cutActive rest) (Acts.refl s)).trans (Feeds.startOut (s.cutActive rest) _ _ _).acts)
      (Feeds.startOut (s.cutActive rest) _ _ _).stop
  | spittoonStrobe s p hp => exact same (Acts.write (Acts.refl s)) rfl
  | columnStrobe s p x hp => exact same (Acts.write (Acts.refl s)) rfl
  | passCompletion s p hp => exact same (Acts.endPass ..) (State.endPass_stop ..)
  | strobeTimeout s p => exact ifSet (Acts.setStop ..) fun h => by rw [State.setStop_of_set h]
  | dockReported s => exact same (Kept.docks s).acts (Kept.docks s).stop
  | operationFails s c o timeout ho => exact same (Kept.failOp ..).acts (Kept.failOp ..).stop
  | wipeCompletion s o h ho hr hw => exact same (Kept.wipeDone ..).acts (Kept.wipeDone ..).stop
  | primeCompletion s o c ho hr hw => exact same (Kept.primeDone ..).acts (Kept.primeDone ..).stop
  | checkCompletion s dead o set ho hr hw => exact Owned.checkDone s o set dead
  | capCompletion s o ho hr hw => exact same (Acts.freeCarriage (Acts.write (Acts.refl s))) rfl
  | capDelayExpiry s => exact same (Quiet.capTest s).acts (Quiet.capTest s).stop
  | strokeComplete s o c k ho hr hc hk => exact same (Kept.strokeDone ..).acts (Kept.strokeDone ..).stop
  | tagAnswered s c a txn => exact same (Charges.tagAnswered ..).acts (Charges.tagAnswered ..).stop
  | tagFaults s c => exact same (Charges.tagFaults s c).acts (Charges.tagFaults s c).stop
  | lampBlinkToggle s c => exact same (Acts.write (Acts.refl s)) rfl
  | rawInputChange s i b => exact ifSet (Acts.rawInput ..) fun h => State.rawInput_stop h i b
  | inputFilterExpiry s i b => exact ifSet (Acts.acceptInput ..) fun h => State.acceptInput_stop h i b
  | feedEncoderCount s d => exact same (Feeds.encoder s d).acts (Feeds.encoder s d).stop
  | advanceSettled s m => exact same (Senses.advanceDone s).toFeeds.acts (Senses.advanceDone s).toFeeds.stop
  | feedStall s m => exact same (Senses.jam ..).toFeeds.acts (Senses.jam ..).toFeeds.stop
  | cutTimeout s m => exact same (Senses.cutFails s).toFeeds.acts (Senses.cutFails s).toFeeds.stop
  | loadEdgeSettled s => exact same (Senses.loadRests s).toFeeds.acts (Senses.loadRests s).toFeeds.stop
  | loadBackfeedDone s => exact same (Senses.retryDone s).toFeeds.acts (Senses.retryDone s).toFeeds.stop
  | loadNoEdge s => exact same (Senses.loadFails ..).toFeeds.acts (Senses.loadFails ..).toFeeds.stop
  | ejectComplete s m hm => exact same (Senses.ejectDone hm).toFeeds.acts (Senses.ejectDone hm).toFeeds.stop
  | limit s m => exact same (Senses.jam ..).toFeeds.acts (Senses.jam ..).toFeeds.stop
  | unloadComplete s m => exact same (Feeds.mediaOut s).acts (Feeds.mediaOut s).stop
  | conversionEnd s raw i => exact ifSet (Acts.converted ..) fun h => State.converted_stop h i raw
  | resultStaleExpiry s i => exact same (Acts.makeStale ..) rfl

theorem Step.owned {c : Instr} {s u : State} (h : Step c s u) (hc : ∀ raw, c ≠ .powerOn raw) : Owned c s u := by
  rcases h with h | ⟨-, v, r, -, -, h, rfl⟩
  · exact h.owned hc
  · have popped : Owned c s v := .withLane (l := s.lane.pop) rfl (h.owned (s := s.withLane s.lane.pop) hc)
    exact ⟨popped.tables, popped.latched, popped.stop, popped.store, popped.current, popped.waiting⟩

theorem Step.waiting_of_powerOn {raw : Vector Bool 16} {s u : State} (h : Step (.powerOn raw) s u) : u.pending = s.pending := by
  rcases h with h | ⟨hc, -⟩
  · have acts := Acts.powerOn s raw
    cases h with
    | none => rfl
    | powerOn => exact acts.waiting
    | _ => simp_all
  · cases hc

theorem Took.waiting {c : Instr} {s t : State} (h : Took c s t) : t.pending = s.pending := by
  cases h with
  | idle => rfl
  | ran force s0 u k =>
    rw [(Follows.finish force s0 u).pending]
    by_cases hc : ∀ raw, c ≠ .powerOn raw
    · exact (k.owned hc).waiting
    · simp only [ne_eq, not_forall, not_not] at hc
      obtain ⟨raw, rfl⟩ := hc
      exact Step.waiting_of_powerOn k

theorem Took.owned {c : Instr} {s t : State} (h : Took c s t) (hc : ∀ raw, c ≠ .powerOn raw) : Owned c s t := by
  cases h with
  | idle => exact (Acts.refl s).owned fun _ _ _ _ => rfl
  | ran force s0 u k =>
    have owned := k.owned hc
    have follows := Follows.finish force s0 u
    exact ⟨fun h => follows.tables.trans (owned.tables h), fun h x hx => follows.latched x (owned.latched h x hx),
      fun h1 h2 h3 h4 => follows.stop.trans (owned.stop h1 h2 h3 h4), fun h1 h2 => follows.store.trans (owned.store h1 h2),
      fun h => by rw [follows.maps]; exact owned.current h, follows.pending.trans owned.waiting⟩

/-- Settles O59: each effect leaves what another command owns, and so does what follows every step. -/
theorem onlyItsCommandsChangeWhatTheyOwn : Obligations.OnlyItsCommandsChangeWhatTheyOwn := by
  intro c s t h
  have took := took_of_exec h
  exact ⟨fun h1 hp => (took.owned hp).tables h1, fun h1 hp => (took.owned hp).latched h1,
    fun h1 h2 h3 hp => (took.owned hp).stop h1 h2 h3, fun h1 h2 hp a => by rw [(took.owned hp).store h1 h2],
    fun h1 hp => (took.owned hp).current h1, took.waiting⟩

end Sys2Proof.Machine
end

section
/-!
PROOFS. Family 10, the print lane: the frame envelope, frames received and sent, and requests of a fixed length (R161 to R166). The rules by
which a request is taken and answered come first.
-/

-- One declaration at a time: side by side, the threads' stacks come near the memory limit of the check.
set_option Elab.async false

namespace Sys2Proof.Machine

/-! ## Requests taken and answered -/

/-- The state with the oldest frame taken from the receive buffer. -/
def State.popped (s : State) : State := s.withLane s.lane.pop

/-- The state with a reply placed. -/
def State.replied (u : State) (k tag : Byte) (o : ReplyOutcome) (d : ReplyData := .none) : State :=
  { u with lane := u.lane.reply ⟨k, tag, o, d⟩ }

theorem State.answered_eq (s : State) (k tag : Byte) (o : ReplyOutcome) (d : ReplyData) :
    s.answered k tag o d = s.popped.replied k tag o d := rfl

/-- A request that waits is taken, and its block's answer replied. -/
theorem served {c : Instr} {s : State} {k tag : Byte} {body : List Byte} {p : Frame → Bool} {act : List Byte → State → Answer}
    (h : s.asks k tag body) (hc : exec c s = serve p act s) (hp : p ⟨k, tag, body⟩ = true) {a : Answer} (ha : act body s.popped = a) :
    ∃ t, exec c s = .next t ∧ Follows (a.state.replied k tag a.outcome a.data) t := by
  subst ha
  exact runs_of_ends _ (hc.trans (serveWith_of_asks h false p hp act))

theorem ofKind_self (k tag : Byte) (body : List Byte) : ofKind k ⟨k, tag, body⟩ = true := decide_eq_true rfl

/-- A request whose block changes nothing and answers it has no effect but its reply. -/
theorem runs_answered {c : Instr} {s : State} {k tag : Byte} {body : List Byte} {p : Frame → Bool} {act : List Byte → State → Answer}
    {o : ReplyOutcome} {d : ReplyData} (h : s.asks k tag body) (hc : exec c s = serve p act s) (hp : p ⟨k, tag, body⟩ = true)
    (ha : act body s.popped = ⟨s.popped, o, d⟩) : Runs c s (s.answered k tag o d) :=
  served h hc hp ha

/-- A request refused has no effect but its reply. -/
theorem runs_refused {c : Instr} {s : State} {k tag : Byte} {body : List Byte} {act : List Byte → State → Answer} {o : ReplyOutcome}
    (h : s.asks k tag body) (hc : exec c s = serve (ofKind k) act s) (ha : act body s.popped = .refuse s.popped o) :
    Runs c s (s.answered k tag o) :=
  runs_answered h hc (ofKind_self ..) ha

/-- A request done leaves the effect of its block with the reply. -/
theorem served_done {c : Instr} {s u : State} {k tag : Byte} {body : List Byte} {act : List Byte → State → Answer}
    (h : s.asks k tag body) (hc : exec c s = serve (ofKind k) act s) (ha : act body s.popped = .done u) :
    ∃ t, exec c s = .next t ∧ Follows (u.replied k tag .done) t :=
  served h hc (ofKind_self ..) ha

theorem Lane.request_eq_none {l : Lane} {k : Byte} (h : 8 ≤ l.replies.length ∨ ∀ f ∈ l.rx.head?, f.kind ≠ k) :
    l.request (ofKind k) = none := by
  unfold Lane.request
  cases hr : l.rx with
  | nil => rfl
  | cons f rx =>
    rw [hr] at h
    refine if_neg fun both => ?_
    simp only [Bool.and_eq_true, decide_eq_true_eq, ofKind] at both
    rcases h with full | other
    · omega
    · exact other f rfl both.1

/-- With the reply list full, or a frame of another kind first, a request is not taken (R164). -/
theorem serve_idle {s : State} {k : Byte} (act : List Byte → State → Answer)
    (h : 8 ≤ s.lane.replies.length ∨ ∀ f ∈ s.lane.rx.head?, f.kind ≠ k) : serve (ofKind k) act s = .next s := by
  unfold serve serveWith
  rw [Lane.request_eq_none h]

/-! ## Requests of a fixed length (Table 10.10.3) -/

/-- The command serves the requests of a kind, and refuses a body of another length than n with RANGE. -/
def ServesLength (c : Instr) (k : Byte) (n : Nat) : Prop :=
  ∃ act, (∀ s, exec c s = serve (ofKind k) act s) ∧ ∀ body u, body.length ≠ n → act body u = .refuse u .range

theorem noBody_of_length {act : State → Answer} (body : List Byte) (u : State) (h : body.length ≠ 0) :
    noBody act body u = .refuse u .range := by
  cases body with
  | nil => exact absurd rfl h
  | cons => rfl

theorem oneByte_of_length {α : Type} {read : Byte → Option α} {act : α → State → Answer} (body : List Byte) (u : State)
    (h : body.length ≠ 1) : oneByte read act body u = .refuse u .range := by
  unfold oneByte
  split
  · exact absurd rfl h
  · rfl

theorem openSwath_of_length (body : List Byte) (u : State) (h : body.length ≠ 6) : openSwath body u = .refuse u .range := by
  unfold openSwath
  split
  · exact absurd rfl h
  · rfl

theorem closeSwath_of_length (body : List Byte) (u : State) (h : body.length ≠ 5) : closeSwath body u = .refuse u .range := by
  unfold closeSwath
  split
  · exact absurd rfl h
  · rfl

theorem askAdvance_of_length (body : List Byte) (u : State) (h : body.length ≠ 3) : askAdvance body u = .refuse u .range := by
  unfold askAdvance
  split
  · exact absurd rfl h
  · rfl

theorem loadMedia_of_length (body : List Byte) (u : State) (h : body.length ≠ 5) : loadMedia body u = .refuse u .range := by
  unfold loadMedia
  split
  · exact absurd rfl h
  · rfl

theorem ServesLength.noBody {c : Instr} {k : Byte} (act : State → Answer)
    (hc : ∀ s, exec c s = serve (ofKind k) (Machine.noBody act) s) : ServesLength c k 0 := ⟨_, hc, noBody_of_length⟩

theorem ServesLength.oneByte {α : Type} {c : Instr} {k : Byte} (read : Byte → Option α) (act : α → State → Answer)
    (hc : ∀ s, exec c s = serve (ofKind k) (Machine.oneByte read act) s) : ServesLength c k 1 := ⟨_, hc, oneByte_of_length⟩

theorem fixedRequests_servesLength : ∀ q ∈ fixedRequests, ServesLength q.1 q.2.1 q.2.2 := by
  simp only [fixedRequests, List.forall_mem_cons]
  exact ⟨⟨_, fun _ => rfl, openSwath_of_length⟩, ⟨_, fun _ => rfl, closeSwath_of_length⟩, .oneByte _ _ fun _ => rfl,
    ⟨_, fun _ => rfl, askAdvance_of_length⟩, .noBody _ fun _ => rfl, .noBody _ fun _ => rfl, .noBody _ fun _ => rfl,
    .noBody _ fun _ => rfl, ⟨_, fun _ => rfl, loadMedia_of_length⟩, .noBody _ fun _ => rfl, .noBody _ fun _ => rfl,
    .oneByte _ _ fun _ => rfl, .oneByte _ _ fun _ => rfl, .oneByte _ _ fun _ => rfl, .noBody _ fun _ => rfl,
    .oneByte _ _ fun _ => rfl, .oneByte _ _ fun _ => rfl, .noBody _ fun _ => rfl, .oneByte _ _ fun _ => rfl, .noBody _ fun _ => rfl,
    .noBody _ fun _ => rfl, .noBody _ fun _ => rfl, .noBody _ fun _ => rfl, .oneByte _ _ fun _ => rfl, nofun⟩

/-- Settles O6: a kind that is none is answered UNKNOWN; each request of a fixed length refuses another; nothing is taken while the reply
list is full or another frame is first. -/
theorem unknownAndMisshapenRequestsAreAnswered : Obligations.UnknownAndMisshapenRequestsAreAnswered := by
  refine ⟨fun s k tag body hk h => ?unknown, fun s tag body q hq hl h => ?misshapen, fun s q hq h => ?idle⟩
  case unknown =>
    have taken : (!isForwardKind k) = true := by rw [hk]; rfl
    exact runs_answered (p := fun f => !isForwardKind f.kind) (act := fun _ t => .refuse t .unknown) h rfl taken rfl
  case misshapen =>
    obtain ⟨act, hc, ha⟩ := fixedRequests_servesLength q hq
    exact runs_refused h (hc s) (ha body _ hl)
  case idle =>
    obtain ⟨act, hc, -⟩ := fixedRequests_servesLength q hq
    rw [hc, serve_idle act h]

/-! ## Frames received (R162, R163) -/

theorem Lane.raiseCondition_latched (now : Nat) (r : CondRaise) (l : Lane) :
    (l.raiseCondition now r).conditions.latched r.condition = true := by
  unfold Lane.raiseCondition
  split
  next h => exact h
  next => exact Lane.raise_latched _ _ _ _ (by simp [Conditions.latched_put])

/-- A condition raised is latched, and told where it was not. -/
theorem raises_of_follows {s t : State} {r : CondRaise} (h : Follows (s.raiseCondition r) t) :
    Follows s t ∧ t.lane.conditions.latched r.condition = true ∧
      (s.lane.conditions.latched r.condition = false → s.tells t (.condition r)) := by
  refine ⟨(Follows.raiseCondition s r).trans h, h.latched _ (Lane.raiseCondition_latched ..), fun clear room => ?_⟩
  have raised : s.lane.raiseCondition s.now r = Lane.raise s.now (.condition r) { s.lane with conditions := s.lane.conditions.put true r.condition } := by
    unfold Lane.raiseCondition
    rw [if_neg (by rw [clear]; decide)]
  have mem : ⟨s.now, .condition r⟩ ∈ (s.raiseCondition r).lane.reported := by
    show _ ∈ (s.lane.raiseCondition s.now r).reported
    rw [raised]
    exact Lane.mem_reported_raise (by show s.lane.events.length < 64; omega)
  exact h.events.subset mem

/-- Settles O2. -/
theorem forwardFrameIsPlacedOrDiscarded : Obligations.ForwardFrameIsPlacedOrDiscarded := by
  refine fun s bytes => ⟨fun ha => ?unaligned, fun ha f hf hr => ?placed, fun ha r hr => ?discarded⟩
  case unaligned =>
    show execForwardFrameReceived bytes s = _
    simp [execForwardFrameReceived, ha]
  case placed =>
    have : exec (.forwardFrameReceived bytes) s = ends false s { s with lane := s.lane.place f } := by
      show execForwardFrameReceived bytes s = _
      simp only [execForwardFrameReceived, ha, hf, if_true, if_neg (Nat.not_le.2 hr)]
    exact runs_of_ends false this
  case discarded =>
    have : exec (.forwardFrameReceived bytes) s = ends false s (s.raiseCondition (.laneError r)) := by
      show execForwardFrameReceived bytes s = _
      rcases hr with hr | ⟨⟨f, hf⟩, hl, rfl⟩
      · simp only [execForwardFrameReceived, ha, hr, if_true]
      · simp only [execForwardFrameReceived, ha, hf, if_true, if_pos hl]
    obtain ⟨t, ht, follows⟩ := runs_of_ends false this
    exact ⟨t, ht, raises_of_follows follows⟩

/-! ## Frames sent (R166) -/

theorem Lane.choose_of_reply {l : Lane} {r : Reply} {rs : List Reply} (ha : l.aligned = true) (hs : l.sending = none)
    (hr : l.replies = r :: rs) (now : Nat) : (l.choose now).sending = some (.reply r) ∧ (l.choose now).replies = rs := by
  unfold Lane.choose
  rw [if_pos ⟨ha, hs⟩]
  simp [hr]

theorem Lane.choose_of_event {l : Lane} {e : EventFrame} {es : List EventFrame} (ha : l.aligned = true) (hs : l.sending = none)
    (hr : l.replies = []) (he : l.events = e :: es) (now : Nat) : (l.choose now).sending = some (.event e) ∧
      (l.choose now).notice = false ∧
      (l.notice = true → (l.choose now).events.getLast? = some ⟨now, .condition .eventsLost⟩) := by
  unfold Lane.choose
  rw [if_pos ⟨ha, hs⟩]
  simp only [hr, he, true_and]
  exact fun hn => by simp [hn]

/-- The frame in the return direction has been sent. -/
def State.sent (s : State) : State := { s with lane := { s.lane with sending := none } }

/-- What the settling of a step leaves the return direction to choose from. -/
theorem settle_lane (s u : State) : (State.settle false s u).now = u.now ∧ u.lane.Raised 51 (State.settle false s u).lane := by
  refine ⟨?_, (Orderly.settle false s u).lane⟩
  have h := (Follows.finish false s u).now
  rw [State.finish_eq, State.chooseReturn_now] at h
  exact h

/-- The return direction takes the oldest reply, or without one the oldest event, of what the step leaves it. -/
theorem Lane.Raised.chosen {n : Nat} {l m : Lane} (raised : l.Raised n m) (ha : l.aligned = true) (hs : l.sending = none) (now : Nat) :
    (∀ r rs, l.replies = r :: rs → (m.choose now).sending = some (.reply r) ∧ (m.choose now).replies = rs) ∧
    ∀ e es, l.replies = [] → l.events = e :: es → (m.choose now).sending = some (.event e) ∧
      (l.notice = true → (m.choose now).notice = false ∧ (m.choose now).events.getLast? = some ⟨now, .condition .eventsLost⟩) := by
  have aligned := raised.aligned.trans ha
  have sending := raised.sending.trans hs
  obtain ⟨new, events, -⟩ := raised.events
  refine ⟨fun r rs hr => Lane.choose_of_reply aligned sending (raised.replies.trans hr) _, fun e es hr he => ?_⟩
  have head : m.events = e :: (es ++ new) := by rw [events, he, List.cons_append]
  obtain ⟨chosen, notice, last⟩ := Lane.choose_of_event aligned sending (raised.replies.trans hr) head now
  exact ⟨chosen, fun waits => ⟨notice, last (raised.waits waits)⟩⟩

/-- Settles O4: what follows the step raises events behind those that wait, and the return direction then chooses. -/
theorem returnDirectionTakesRepliesFirst : Obligations.ReturnDirectionTakesRepliesFirst := by
  refine fun s => ⟨fun h => ?idle, fun f ha hs => ?sent⟩
  case idle =>
    show execReturnFrameSent s = _
    unfold execReturnFrameSent
    rcases h with h | h <;> simp [h]
  case sent =>
    have step : exec .returnFrameSent s = ends false s s.sent := by
      show execReturnFrameSent s = _
      simp [execReturnFrameSent, ha, hs, State.sent]
    obtain ⟨now, raised⟩ := settle_lane s s.sent
    have chosen := raised.chosen ha rfl (State.settle false s s.sent).now
    rw [now] at chosen
    refine ⟨State.finish false s s.sent, step, Follows.finish false s s.sent, ?_⟩
    rw [State.finish_eq]
    unfold State.chooseReturn
    rw [now]
    exact chosen

end Sys2Proof.Machine
end

section
/-!
PROOFS. Family 11, numbers: the frame envelope byte by byte (R162), the fields of the loaded tables read back, and series of debits and of
advances (R49, R121).
-/

-- One declaration at a time: side by side, the threads' stacks come near the memory limit of the check.
set_option Elab.async false

namespace Sys2Proof.Machine

/-! ## The envelope -/

theorem bigEndian_pair (a b : Byte) : bigEndian [a, b] = a.toNat * 256 + b.toNat := by simp [bigEndian]

/-- Two bytes give a number below 65,536 back. -/
theorem bigEndian_ofNat {n : Nat} (h : n < 65536) : bigEndian [BitVec.ofNat 8 (n / 256), BitVec.ofNat 8 (n % 256)] = n := by
  rw [bigEndian_pair, BitVec.toNat_ofNat, BitVec.toNat_ofNat]
  omega

/-- A pair of bytes is the one that gives its number. -/
theorem pair_eq_of_bigEndian (a b : Byte) :
    a = BitVec.ofNat 8 (bigEndian [a, b] / 256) ∧ b = BitVec.ofNat 8 (bigEndian [a, b] % 256) := by
  have ha := a.isLt
  have hb := b.isLt
  rw [bigEndian_pair]
  constructor <;> apply BitVec.eq_of_toNat_eq <;> rw [BitVec.toNat_ofNat] <;> omega

/-- The bytes of a frame before its frame check. -/
def Frame.head (f : Frame) : List Byte :=
  f.kind :: f.tag :: BitVec.ofNat 8 (f.body.length / 256) :: BitVec.ofNat 8 (f.body.length % 256) :: f.body

theorem Frame.bytes_eq (f : Frame) : f.bytes =
    f.head ++ [BitVec.ofNat 8 ((frameCheck f.head).toNat / 256), BitVec.ofNat 8 ((frameCheck f.head).toNat % 256)] := rfl

theorem Frame.bytes_dropLast (f : Frame) : f.bytes.dropLast.dropLast = f.head := by
  rw [f.bytes_eq, List.dropLast_eq_take, List.dropLast_eq_take, List.take_take]
  simp

/-- With its header and body whole, a frame passes or fails by its frame check alone. -/
theorem checkFrame_head (f : Frame) (c1 c0 : Byte) (more : List Byte) (h : f.body.length ≤ 12320) :
    checkFrame (f.head ++ [c1, c0] ++ more) =
      if frameCheck f.head = BitVec.ofNat 16 (bigEndian [c1, c0]) then .ok f else .error .check := by
  have length : bigEndian [BitVec.ofNat 8 (f.body.length / 256), BitVec.ofNat 8 (f.body.length % 256)] = f.body.length :=
    bigEndian_ofNat (by omega)
  have whole : ¬ (12320 < f.body.length ∨ (f.body ++ [c1, c0] ++ more).length < f.body.length + 2) := by simp; omega
  have body : (f.body ++ [c1, c0] ++ more).take f.body.length = f.body := by simp
  have check : ((f.body ++ [c1, c0] ++ more).drop f.body.length).take 2 = [c1, c0] := by simp
  show checkFrame (_ :: _ :: _ :: _ :: (f.body ++ [c1, c0] ++ more)) = _
  simp only [checkFrame, length, if_neg whole, body, check]
  rfl

/-- Fewer bytes than the length field gives are discarded with LENGTH. -/
theorem checkFrame_short {kind tag l1 l0 : Byte} {rest : List Byte} (h : 12320 < bigEndian [l1, l0] ∨ rest.length < bigEndian [l1, l0] + 2) :
    checkFrame (kind :: tag :: l1 :: l0 :: rest) = .error .length := if_pos h

/-- Settles O3. -/
theorem frameBytesPassTheChecks : Obligations.FrameBytesPassTheChecks := by
  refine ⟨fun f more h => ?passes, fun f c1 c0 more h other => ?check, fun f k h hk => ?cut, fun kind tag l1 l0 rest h => ?long⟩
  case passes =>
    rw [f.bytes_eq, checkFrame_head f _ _ more h, bigEndian_ofNat (frameCheck f.head).isLt, if_pos]
    exact (BitVec.ofNat_toNat 16 (frameCheck f.head)).symm.trans rfl |>.symm ▸ by simp
  case check =>
    rw [f.bytes_dropLast] at other ⊢
    rw [checkFrame_head f c1 c0 more h, if_neg]
    intro same
    obtain ⟨h1, h0⟩ := pair_eq_of_bigEndian c1 c0
    have small : bigEndian [c1, c0] < 65536 := by rw [bigEndian_pair]; omega
    refine other ?_
    rw [f.bytes_eq, same, BitVec.toNat_ofNat, Nat.mod_eq_of_lt small, ← h1, ← h0]
  case cut =>
    obtain ⟨kind, tag, body⟩ := f
    match k, hk with
    | 0, _ | 1, _ | 2, _ | 3, _ => rfl
    | k + 4, hk =>
      refine checkFrame_short (.inr ?_)
      rw [bigEndian_ofNat (by show body.length < _; exact Nat.lt_of_le_of_lt h (by decide))]
      simp only [Frame.bytes_eq, Frame.head, List.length_append, List.length_cons, List.length_nil] at hk
      rw [List.length_take]
      exact Nat.lt_of_le_of_lt (Nat.min_le_left ..) (by show k < body.length + 2; omega)
  case long => exact checkFrame_short (.inl (by rw [bigEndian_pair]; exact h))

/-! ## Fields read back -/

/-- A field of a record reads back as written, or as the value it was clamped to (R153). -/
def FieldReadsBack {α : Type} (write : Int → FieldWrite α) (fields : α → List Int) (old : List Int) (f : Nat) : Prop :=
  ∀ (v : Int) (r' : α), (write v = .stored r' → f < old.length ∧ fields r' = old.set f v) ∧
    ∀ x, write v = .clamped r' x → f < old.length ∧ x ≠ v ∧ fields r' = old.set f x ∧ write x = .stored r'

theorem numeric_readsBack {α : Type} {fields : α → List Int} {old : List Int} {f : Nat} {lo hi : Int} {put : Int → α}
    (found : old[f]?.isSome = true) (order : lo ≤ hi) (hput : ∀ x, lo ≤ x → x ≤ hi → fields (put x) = old.set f x) :
    FieldReadsBack (fun v => numeric lo hi v put) fields old f := by
  have hf : f < old.length := by simpa using found
  have within {x : Int} (hl : lo ≤ x) (hh : x ≤ hi) : numeric lo hi x put = .stored (put x) := by
    rw [numeric, if_neg (by omega), if_neg (by omega)]
  intro v r'
  by_cases low : v < lo
  · refine ⟨fun h => ?_, fun x h => ?_⟩ <;> dsimp only at h <;> rw [numeric, if_pos low] at h <;> cases h
    exact ⟨hf, by omega, hput _ le_rfl order, within le_rfl order⟩
  by_cases high : hi < v
  · refine ⟨fun h => ?_, fun x h => ?_⟩ <;> dsimp only at h <;> rw [numeric, if_neg low, if_pos high] at h <;> cases h
    exact ⟨hf, by omega, hput _ order le_rfl, within order le_rfl⟩
  · refine ⟨fun h => ?_, fun x h => ?_⟩ <;> dsimp only at h <;> rw [within (by omega) (by omega)] at h <;> cases h
    exact ⟨hf, hput _ (by omega) (by omega)⟩

theorem enumerated_readsBack {α β : Type} {fields : α → List Int} {old : List Int} {f : Nat} {read : Int → Option β} {put : β → α}
    (found : old[f]?.isSome = true) (hput : ∀ v b, read v = some b → fields (put b) = old.set f v) :
    FieldReadsBack (fun v => enumerated (read v) put) fields old f := by
  have hf : f < old.length := by simpa using found
  intro v r'
  dsimp only
  cases hr : read v with
  | none => exact ⟨nofun, nofun⟩
  | some b => exact ⟨fun h => FieldWrite.stored.inj h ▸ ⟨hf, hput v b hr⟩, nofun⟩

theorem codeOrNone_of_intFinOrNone {n : Nat} {v : Int} {o : Option (Fin n)} (h : intFinOrNone n v = some o) : codeOrNone o = v := by
  unfold intFinOrNone intFin at h
  split_ifs at h with none low small <;> cases h
  · exact none.symm
  · exact Int.toNat_of_nonneg low

theorem val_of_intFin {n : Nat} {v : Int} {i : Fin n} (h : intFin n v = some i) : (i.val : Int) = v := by
  unfold intFin at h
  split_ifs at h
  cases h
  simp only; omega

theorem Policy.code_of_intPolicy {v : Int} {p : Policy} (h : intPolicy v = some p) : p.code = v := by
  unfold intPolicy at h
  split_ifs at h <;> cases h <;> exact Eq.symm ‹_›

theorem onOffCode_of_intOnOff {v : Int} {b : Bool} (h : intOnOff v = some b) : onOffCode b = v := by
  unfold intOnOff at h
  split_ifs at h <;> cases h <;> exact Eq.symm ‹_›

theorem ScanMode.code_of_intScanMode {v : Int} {m : ScanMode} (h : intScanMode v = some m) : m.code = v := by
  unfold intScanMode at h
  split_ifs at h <;> cases h <;> exact Eq.symm ‹_›

theorem filterCode_of_intFilter {v : Int} {ms : Nat} (h : intFilter v = some ms) : filterCode ms = v := by
  unfold intFilter at h
  split_ifs at h <;> cases h <;> exact Eq.symm ‹_›

theorem EventEdge.code_of_intEdge {v : Int} {e : EventEdge} (h : intEdge v = some e) : e.code = v := by
  unfold intEdge at h
  split_ifs at h <;> cases h <;> exact Eq.symm ‹_›

theorem StopRouting.code_of_intRouting {v : Int} {r : StopRouting} (h : intRouting v = some r) : r.code = v := by
  unfold intRouting at h
  split_ifs at h <;> cases h <;> exact Eq.symm ‹_›

theorem channelsMask_maskChannels : ∀ m < 64, channelsMask (maskChannels m) = m := by decide

theorem InkKind.put_readsBack (r : InkKind) (f : Nat) : FieldReadsBack (r.put f) InkKind.fields r.fields f := by
  have mask (v : Int) (h : 0 ≤ v ∧ v < 64) : ((channelsMask (maskChannels v.toNat) : Nat) : Int) = v := by
    rw [channelsMask_maskChannels _ (by omega)]; omega
  match f with
  | 1 =>
    intro v r'
    by_cases h : 0 ≤ v ∧ v < 64
    · have stored : r.put 1 v = .stored { r with accepted := maskChannels v.toNat } := if_pos h
      rw [stored]
      refine ⟨fun e => ?_, nofun⟩
      cases e
      exact ⟨by simp [InkKind.fields], by simp [InkKind.fields, mask v h]⟩
    · have refused : r.put 1 v = .refused := if_neg h
      rw [refused]
      exact ⟨nofun, nofun⟩
  | 0 | 2 | 3 | 4 | 5 | 7 | 8 | 9 =>
    exact numeric_readsBack rfl (by decide) fun x low _ => by simp [InkKind.fields]; omega
  | 6 => exact numeric_readsBack rfl (by decide) fun x _ _ => rfl
  | _ + 10 => exact fun _ _ => ⟨nofun, nofun⟩

theorem ChannelRec.put_readsBack (r : ChannelRec × Int) (f : Nat) :
    FieldReadsBack (ChannelRec.put r f) (fun r => r.1.fields r.2) (r.1.fields r.2) f := by
  match f with
  | 0 | 2 => exact enumerated_readsBack rfl fun v b h => by simp [ChannelRec.fields, codeOrNone_of_intFinOrNone h]
  | 1 => exact enumerated_readsBack rfl fun v b h => by simp [ChannelRec.fields, Policy.code_of_intPolicy h]
  | 3 | 4 | 5 | 6 | 7 | 14 => exact numeric_readsBack rfl (by decide) fun x low _ => by simp [ChannelRec.fields]; omega
  | 8 | 9 | 10 | 11 | 12 | 13 => exact numeric_readsBack rfl (by decide) fun x _ _ => rfl
  | _ + 15 => exact fun _ _ => ⟨nofun, nofun⟩

theorem Profile.put_readsBack (r : Profile) (f : Nat) : FieldReadsBack (r.put f) Profile.fields r.fields f := by
  match f with
  | 0 | 5 => exact numeric_readsBack rfl (by decide) fun x _ _ => rfl
  | 1 | 2 | 3 | 4 | 6 => exact numeric_readsBack rfl (by decide) fun x low _ => by simp [Profile.fields]; omega
  | _ + 7 => exact fun _ _ => ⟨nofun, nofun⟩

theorem ServiceRec.put_readsBack (r : ServiceRec) (f : Nat) : FieldReadsBack (r.put f) ServiceRec.fields r.fields f := by
  match f with
  | 3 | 4 => exact enumerated_readsBack rfl fun v b h => by simp [ServiceRec.fields, onOffCode_of_intOnOff h]
  | 0 | 1 | 2 | 5 | 6 | 7 | 8 | 9 | 10 | 11 | 12 =>
    exact numeric_readsBack rfl (by decide) fun x low _ => by simp [ServiceRec.fields]; omega
  | 13 => exact numeric_readsBack rfl (by decide) fun x _ _ => rfl
  | _ + 14 => exact fun _ _ => ⟨nofun, nofun⟩

theorem ScanRec.put_readsBack (r : ScanRec) (f : Nat) : FieldReadsBack (r.put f) ScanRec.fields r.fields f := by
  match f with
  | 0 | 1 => exact numeric_readsBack rfl (by decide) fun x _ _ => rfl
  | 2 => exact numeric_readsBack rfl (by decide) fun x low _ => by simp [ScanRec.fields]; omega
  | _ + 3 => exact fun _ _ => ⟨nofun, nofun⟩

theorem ModeRec.put_readsBack (r : ModeRec) (f : Nat) : FieldReadsBack (r.put f) ModeRec.fields r.fields f := by
  match f with
  | 0 => exact enumerated_readsBack rfl fun v b h => by simp [ModeRec.fields, ScanMode.code_of_intScanMode h]
  | 1 | 2 => exact enumerated_readsBack rfl fun v b h => by simp [ModeRec.fields, val_of_intFin h]
  | 3 => exact numeric_readsBack rfl (by decide) fun x low _ => by simp [ModeRec.fields]; omega
  | _ + 4 => exact fun _ _ => ⟨nofun, nofun⟩

theorem InputCfg.put_readsBack (r : InputCfg) (f : Nat) : FieldReadsBack (r.put f) InputCfg.fields r.fields f := by
  match f with
  | 0 => exact enumerated_readsBack rfl fun v b h => by simp [InputCfg.fields, filterCode_of_intFilter h]
  | 1 => exact enumerated_readsBack rfl fun v b h => by simp [InputCfg.fields, EventEdge.code_of_intEdge h]
  | 2 => exact enumerated_readsBack rfl fun v b h => by simp [InputCfg.fields, StopRouting.code_of_intRouting h]
  | _ + 3 => exact fun _ _ => ⟨nofun, nofun⟩

/-- Settles O24, record by record and field by field. -/
theorem storedFieldsReadBack : Obligations.StoredFieldsReadBack :=
  ⟨fun r r' f v => r.put_readsBack f v r', fun r r' f v => ChannelRec.put_readsBack r f v r', fun r r' f v => r.put_readsBack f v r',
    fun r r' f v => r.put_readsBack f v r', fun r r' f v => r.put_readsBack f v r', fun r r' f v => r.put_readsBack f v r',
    fun r r' f v => r.put_readsBack f v r'⟩

/-! ## Series -/

theorem chargedSeries_exact (ps : List Nat) (carry : Nat) (h : carry < 100000000) :
    (chargedSeries ps carry).1 * 100000000 + (chargedSeries ps carry).2 = ps.sum + carry ∧ (chargedSeries ps carry).2 < 100000000 := by
  induction ps generalizing carry with
  | nil => exact ⟨by simp [chargedSeries], h⟩
  | cons p ps ih =>
    obtain ⟨sum, bound⟩ := ih ((p + carry) % 100000000) (Nat.mod_lt _ (by decide))
    simp only [chargedSeries, debitOf, List.sum_cons]
    refine ⟨?_, bound⟩
    have split := Nat.div_add_mod (p + carry) 100000000
    rw [add_mul, add_assoc, sum]
    linarith

/-- One advance takes whole counts of its distance and leaves the rest as the residue (R121). -/
theorem advanceCounts_exact (d : Nat) {c : Int} (r : Nat) (hc : -20000 ≤ c) :
    (((advanceCounts d c r).1 * 3000000 + (advanceCounts d c r).2 : Nat) : Int) = (d : Int) * 2 * (1000000 + c) + r ∧
      (advanceCounts d c r).2 < 3000000 := by
  have positive : 0 ≤ (d : Int) * 2 * (1000000 + c) := mul_nonneg (by omega) (by omega)
  simp only [advanceCounts]
  omega

theorem advancedSeries_exact (ds : List Nat) {c : Int} (r : Nat) (hc : -20000 ≤ c) (hr : r < 3000000) :
    (((advancedSeries c ds r).1 * 3000000 + (advancedSeries c ds r).2 : Nat) : Int) = (ds.sum : Int) * 2 * (1000000 + c) + r ∧
      (advancedSeries c ds r).2 < 3000000 := by
  induction ds generalizing r with
  | nil => exact ⟨by simp [advancedSeries], hr⟩
  | cons d ds ih =>
    obtain ⟨one, small⟩ := advanceCounts_exact d r hc
    obtain ⟨sum, bound⟩ := ih (advanceCounts d c r).2 small
    simp only [advancedSeries, List.sum_cons]
    refine ⟨?_, bound⟩
    push_cast at one sum ⊢
    linarith

theorem advanceCounts_le {d r : Nat} {c : Int} (hc : c ≤ 20000) (hr : r < 3000000) (hd : d ≤ 1500000) :
    (advanceCounts d c r).1 ≤ 1020000 := by
  have most : (d : Int) * 2 * (1000000 + c) ≤ 1500000 * 2 * 1020000 := by nlinarith
  simp only [advanceCounts]
  omega

/-- Settles O51, by induction on the series. -/
theorem seriesLoseNothing : Obligations.SeriesLoseNothing := by
  refine ⟨chargedSeries_exact, fun ds c r low high hr => ?_⟩
  obtain ⟨sum, bound⟩ := advancedSeries_exact ds r low hr
  exact ⟨sum, bound, fun d hd => advanceCounts_le high hr hd⟩

end Sys2Proof.Machine
end

section
/-!
PROOFS. Family 12, media requests: LOAD MEDIA, UNLOAD MEDIA and EJECT (R118, R132 to R134). The rules by which an effect that raises events
follows the record it writes come first.
-/

-- One declaration at a time: side by side, the threads' stacks come near the memory limit of the check.
set_option Elab.async false

namespace Sys2Proof.Machine

/-! ## What follows an effect that raises events -/

theorem Lane.Raised.reported {n : Nat} {l m : Lane} (h : l.Raised n m) : l.reported <+: m.reported := by
  obtain ⟨new, events, -⟩ := h.events
  simp only [Lane.reported, h.sending, events, ← List.append_assoc]
  exact List.prefix_append ..

/-- Events and conditions raised are formed again in every step. -/
theorem Follows.of_raised {n : Nat} {u : State} {l : Lane} (h : u.lane.Raised n l) : Follows u { u with lane := l } :=
  Follows.of_lane h.aligned h.rx h.hold (by simp only [Lane.answers, h.sending, h.replies]) h.reported h.latched

/-- A feed operation leaves what it writes of queue, wet-edge timer, feed record and outputs. -/
theorem Feeds.follows {n : Nat} {s t : State} (h : Feeds n s t) :
    Follows { s with queue := t.queue, wetEdge := t.wetEdge, feed := t.feed, out := t.out } t := by
  have raised := Follows.of_raised (u := { s with queue := t.queue, wetEdge := t.wetEdge, feed := t.feed, out := t.out }) h.lane
  rwa [← h.frame] at raised

theorem Lane.answers_reply (l : Lane) (r : Reply) : (l.reply r).answers = l.answers ++ [r] := by
  simp only [Lane.answers, Lane.reply, List.append_assoc]

/-- What follows still follows once both have placed the same reply. -/
theorem Follows.replied {u v : State} (h : Follows u v) (k tag : Byte) (o : ReplyOutcome) (d : ReplyData := .none) :
    Follows (u.replied k tag o d) (v.replied k tag o d) :=
  { h with
    answers := by
      show ((v.lane.reply _).answers) = (u.lane.reply _).answers
      rw [Lane.answers_reply, Lane.answers_reply, h.answers]
    aligned := h.aligned, rx := h.rx, hold := h.hold, events := h.events, latched := h.latched }

/-- A request done leaves what its block's effect follows, with the reply. -/
theorem served_follows {c : Instr} {s u x : State} {k tag : Byte} {body : List Byte} {act : List Byte → State → Answer}
    (h : s.asks k tag body) (hc : exec c s = serve (ofKind k) act s) (ha : act body s.popped = .done x) (hx : Follows u x) :
    ∃ t, exec c s = .next t ∧ Follows (u.replied k tag .done) t ∧ Follows (x.replied k tag .done) t := by
  obtain ⟨t, ht, follows⟩ := served_done h hc ha
  exact ⟨t, ht, (hx.replied ..).trans follows, follows⟩

/-! ## LOAD MEDIA (R118, R119) -/

theorem byteSource_eq_none {a : Byte} (h : 2 < a.toNat) : byteSource a = none := by
  unfold byteSource
  rw [if_neg (by omega), if_neg (by omega), if_neg (by omega)]

theorem byteSource_toNat {a : Byte} {src : Source} (h : byteSource a = some src) : src = .sheet ↔ a.toNat = 2 := by
  unfold byteSource at h
  split_ifs at h <;> cases h <;> simp [*]

theorem intFin_natCast {n m : Nat} (h : m < n) : intFin n m = some ⟨m, h⟩ := by simp [intFin, h]

theorem intFin_eq_none {n m : Nat} (h : n ≤ m) : intFin n m = none := by simp [intFin]; omega

theorem State.sourceMissing_iff (s : State) (src : Source) : s.sourceMissing src = true ↔ sourceAbsent s src := by
  cases src <;> simp [State.sourceMissing, sourceAbsent, Source.rollEnd, State.active, State.inactive]

section

variable {s : State} {tag a p l2 l1 l0 : Byte} {src : Source} {k : Fin 16}

theorem loadMedia_range (h : s.asks 0x0A#8 tag [a, p, l2, l1, l0])
    (bad : 2 < a.toNat ∨ 15 < p.toNat ∨ (a.toNat < 2 ∧ 300000 < bigEndian [l2, l1, l0])) :
    Runs .loadMedia s (s.answered 0x0A#8 tag .range) := by
  refine runs_refused h (act := loadMedia) rfl ?_
  unfold loadMedia
  dsimp only
  split
  next src k hs hk =>
    rcases bad with bad | bad | ⟨bad, long⟩
    · rw [byteSource_eq_none bad] at hs; cases hs
    · rw [intFin_eq_none (by omega)] at hk; cases hk
    · rw [if_pos ⟨fun sheet => by have := (byteSource_toNat hs).1 sheet; omega, long⟩]
  next => rfl

variable (hs : byteSource a = some src) (hk : p.toNat = k.val) (short : src = .sheet ∨ bigEndian [l2, l1, l0] ≤ 300000)
include hs hk short

/-- LOAD MEDIA with its body in range (R118). -/
theorem loadMedia_inRange (u : State) : loadMedia [a, p, l2, l1, l0] u =
    if !(u.feed.path = .empty || u.feed.path = .held) || u.stop.set || u.sourceMissing src then .refuse u .state
    else .done (u.startLoad src k (bigEndian [l2, l1, l0])) := by
  have profile : intFin 16 p.toNat = some k := by rw [hk, intFin_natCast k.isLt]
  have inRange : ¬ (src ≠ .sheet ∧ 300000 < bigEndian [l2, l1, l0]) := by rintro ⟨h1, h2⟩; exact short.elim h1 (by omega)
  unfold loadMedia
  simp only [hs, profile, if_neg inRange]

theorem loadMedia_state (h : s.asks 0x0A#8 tag [a, p, l2, l1, l0])
    (bad : (s.feed.path ≠ .empty ∧ s.feed.path ≠ .held) ∨ s.stop.set = true ∨ sourceAbsent s src) :
    Runs .loadMedia s (s.answered 0x0A#8 tag .state) := by
  refine runs_refused h (act := loadMedia) rfl ((loadMedia_inRange hs hk short _).trans (if_pos ?_))
  rw [← State.sourceMissing_iff] at bad
  show (!(decide (s.feed.path = .empty) || decide (s.feed.path = .held)) || s.stop.set || s.sourceMissing src) = true
  rcases bad with ⟨h1, h2⟩ | h | h
  · simp [h1, h2]
  · simp [h]
  · simp [h]

theorem loadMedia_done (path : s.feed.path = .empty ∨ s.feed.path = .held) (stop : s.stop.set = false) (there : ¬ sourceAbsent s src) :
    loadMedia [a, p, l2, l1, l0] s.popped = .done (s.popped.startLoad src k (bigEndian [l2, l1, l0])) := by
  refine (loadMedia_inRange hs hk short _).trans (if_neg ?_)
  rw [← State.sourceMissing_iff] at there
  show ¬ (!(decide (s.feed.path = .empty) || decide (s.feed.path = .held)) || s.stop.set || s.sourceMissing src) = true
  rcases path with path | path <;> simp [path, stop, there]

end

theorem State.startLoad_frame (s : State) (src : Source) (p : Fin 16) (mm : Nat) : (s.startLoad src p mm).queue = s.queue ∧
    (s.startLoad src p mm).wetEdge = none ∧ (s.startLoad src p mm).feed = s.loadFeed src p mm := by
  rw [State.startLoad_eq, State.redrive_queue, State.redrive_feed]
  refine ⟨State.setFeed_queue .., ?_, State.setFeed_feed ..⟩
  rw [State.redrive_eq]; rfl

/-- Settles O16. -/
theorem loadMediaBeginsALoad : Obligations.LoadMediaBeginsALoad := by
  refine fun s tag a p l2 l1 l0 h => ⟨loadMedia_range h, fun src k hs hk short => ⟨loadMedia_state hs hk short h,
    fun path stop there => ?_⟩⟩
  have begun := (Feeds.startLoad s.popped src k (bigEndian [l2, l1, l0])).follows
  have done := loadMedia_done hs hk short path stop there
  obtain ⟨queue, wet, feed⟩ := s.popped.startLoad_frame src k (bigEndian [l2, l1, l0])
  have same : s.popped.loadFeed src k (bigEndian [l2, l1, l0]) = s.loadFeed src k (bigEndian [l2, l1, l0]) := rfl
  generalize s.popped.startLoad src k (bigEndian [l2, l1, l0]) = x at begun done queue wet feed
  rw [queue, wet] at begun
  obtain ⟨t, ht, follows, after⟩ := served_follows h (c := .loadMedia) rfl done begun
  refine ⟨t, _, ht, ?_, by rw [after.feed]; show x.feed.motion = _; rw [feed, same]; rfl, rfl, rfl, rfl, ?_, ?_⟩
  · rw [after.feed, after.out]
    exact follows
  · show MotionWork.load (if (s.active 0 || s.active 1) = true then _ else _) _ _ _ _ = _
    simp [State.active, newMotion]
  · rw [after.feed]
    show x.feed = _
    rw [feed, same]
    simp [State.loadFeed]

/-! ## UNLOAD MEDIA and EJECT (R132 to R134) -/

/-- The answer to a request that takes media out: the refusals in the order of R132, and the start of the motion of work w in path
state p where the path and source allow it. -/
def takeOut (ok : Feed → Bool) (p : PathState) (w : Option Int → MotionWork) (u : State) : Answer :=
  if u.feed.path = .jammed then clearJam u
  else if u.stop.set then .refuse u .state
  else if u.moving then .refuse u .busy
  else if ok u.feed then .done (u.startOut p (w (if u.inactive 2 then some 0 else none)) .request)
  else .refuse u .state

theorem unloadMedia_eq : unloadMedia = takeOut (fun f => f.path = .ready && f.onRoll) .unloading .unload := rfl

theorem ejectMedia_eq : ejectMedia = takeOut Feed.ejectable .ejecting .eject := rfl

theorem Feed.onRoll_iff (f : Feed) : f.onRoll = true ↔ f.source = some .roll1 ∨ f.source = some .roll2 := by
  unfold Feed.onRoll
  rcases f.source with _ | _ | _ | _ <;> simp [Source.rollEnd]

theorem Feed.ejectable_iff (f : Feed) :
    f.ejectable = true ↔ (f.path = .ready ∧ f.source = some .sheet) ∨ f.path = .tailOut ∨ f.path = .held := by
  unfold Feed.ejectable
  cases f.path <;> simp

theorem State.mediaOut_frame (s : State) : s.mediaOut.queue = s.queue ∧ s.mediaOut.wetEdge = none ∧ s.mediaOut.feed = s.feed.cleared :=
  ⟨s.mediaOut_queue, rfl, State.setFeed_feed ..⟩

theorem State.startOut_feed (s : State) (p : PathState) (w : MotionWork) (o : Owner) : (s.startOut p w o).feed =
    ({ s.feed with path := p, pos := none, target := none, motion := some (newMotion s.now w o) } : Feed).reband s.now := by
  rw [State.startOut, State.redrive_feed, State.setFeed_feed]

theorem State.startOut_wetEdge (s : State) (p : PathState) (w : MotionWork) (o : Owner) : (s.startOut p w o).wetEdge = s.wetEdge := by
  rw [State.startOut, State.redrive_eq]
  show (State.setFeed _ _).wetEdge = _
  unfold State.setFeed
  dsimp only
  split <;> rfl

section

variable {c : Instr} {s : State} {k tag : Byte} {ok : Feed → Bool} {p : PathState} {w : Option Int → MotionWork}
variable (hc : exec c s = serve (ofKind k) (noBody (takeOut ok p w)) s) (h : s.asks k tag [])
include hc h

theorem takeOut_jammed (jammed : s.feed.path = .jammed) :
    (s.inputs[(2 : DIn)].level ≠ some false → Runs c s (s.answered k tag .state)) ∧
    (s.inputs[(2 : DIn)].level = some false → ∃ t, exec c s = .next t ∧
      Follows (({ s with feed := s.feed.cleared, wetEdge := none, out := t.out } : State).answered k tag .done) t) := by
  have clears : noBody (takeOut ok p w) [] s.popped = clearJam s.popped := if_pos jammed
  refine ⟨fun inside => runs_refused h hc (clears.trans (if_neg ?_)), fun clear => ?_⟩
  · show ¬ s.inactive 2 = true
    simpa [State.inactive] using inside
  · have taken : clearJam s.popped = .done s.popped.mediaOut := by
      refine if_pos ?_
      show s.inactive 2 = true
      simpa [State.inactive] using clear
    have out := (Feeds.mediaOut s.popped).follows
    obtain ⟨queue, wet, feed⟩ := s.popped.mediaOut_frame
    rw [taken] at clears
    generalize s.popped.mediaOut = x at out clears queue wet feed
    rw [queue, wet, feed] at out
    obtain ⟨t, ht, follows, after⟩ := served_follows h hc clears out
    exact ⟨t, ht, by rw [after.out]; exact follows⟩

theorem takeOut_refused (free : s.feed.path ≠ .jammed) :
    (s.stop.set = true → Runs c s (s.answered k tag .state)) ∧
    (s.stop.set = false → (s.feed.motion ≠ none ∨ s.pass ≠ none) → Runs c s (s.answered k tag .busy)) ∧
    (s.stop.set = false → s.feed.motion = none → s.pass = none → ok s.feed ≠ true → Runs c s (s.answered k tag .state)) := by
  have open_ : noBody (takeOut ok p w) [] s.popped = _ := if_neg free
  refine ⟨fun stop => runs_refused h hc (open_.trans (if_pos stop)), fun stop moving => ?_, fun stop motion pass bad => ?_⟩
  · refine runs_refused h hc (open_.trans ((if_neg (by show ¬ s.stop.set = true; simp [stop])).trans (if_pos ?_)))
    show (s.feed.motion.isSome || s.pass.isSome) = true
    simpa [Option.isSome_iff_ne_none] using moving
  · refine runs_refused h hc (open_.trans ((if_neg (by show ¬ s.stop.set = true; simp [stop])).trans ((if_neg ?_).trans (if_neg bad))))
    show ¬ (s.feed.motion.isSome || s.pass.isSome) = true
    simp [motion, pass]

theorem takeOut_begins (free : s.feed.path ≠ .jammed) (stop : s.stop.set = false) (motion : s.feed.motion = none) (pass : s.pass = none)
    (good : ok s.feed = true) : ∃ t m, exec c s = .next t ∧
      Follows (({ s with
        feed := { s.feed with path := p, pos := none, target := none, motion := some m }, out := t.out } : State).answered k tag .done) t ∧
      m.work = w (if s.inactive 2 then some 0 else none) ∧ m.owner = .request ∧ m.paused = false ∧ m.count = 0 := by
  have begins : noBody (takeOut ok p w) [] s.popped = .done (s.popped.startOut p (w (if s.inactive 2 then some 0 else none)) .request) := by
    refine (if_neg free).trans ((if_neg (by show ¬ s.stop.set = true; simp [stop])).trans ((if_neg ?_).trans (if_pos good)))
    show ¬ (s.feed.motion.isSome || s.pass.isSome) = true
    simp [motion, pass]
  have begun := (Feeds.startOut s.popped p (w (if s.inactive 2 then some 0 else none)) .request).follows
  have feed := s.popped.startOut_feed p (w (if s.inactive 2 then some 0 else none)) .request
  have queue := s.popped.startOut_queue p (w (if s.inactive 2 then some 0 else none)) .request
  have wet := s.popped.startOut_wetEdge p (w (if s.inactive 2 then some 0 else none)) .request
  generalize s.popped.startOut p (w (if s.inactive 2 then some 0 else none)) .request = x at begins begun feed queue wet
  rw [queue, wet, feed] at begun
  obtain ⟨t, ht, follows, after⟩ := served_follows h hc begins begun
  exact ⟨t, _, ht, by rw [after.out]; exact follows, by simp [newMotion], by simp [newMotion], by simp [newMotion], by simp [newMotion]⟩

end

/-- Settles O17: both requests are answered by one rule. -/
theorem unloadAndEjectBegin : Obligations.UnloadAndEjectBegin := by
  intro s tag q hq
  simp only [List.mem_cons, List.not_mem_nil, or_false] at hq
  rcases hq with rfl | rfl <;> intro h allowed
  case inl =>
    have hc : exec .unloadMedia s = serve (ofKind 0x0B#8) (noBody unloadMedia) s := rfl
    rw [unloadMedia_eq] at hc
    have ok : (s.feed.path = .ready && s.feed.onRoll) = true ↔ allowed := by simp [allowed, Feed.onRoll_iff]
    refine ⟨fun jammed => (takeOut_jammed hc h jammed).1, fun jammed => (takeOut_jammed hc h jammed).2, fun free => ?_⟩
    obtain ⟨stopped, busy, bad⟩ := takeOut_refused hc h free
    refine ⟨stopped, busy, fun stop motion pass no => bad stop motion pass (mt ok.1 no), fun stop motion pass yes => ?_⟩
    obtain ⟨t, m, ht, follows, work, owner, paused, count⟩ := takeOut_begins hc h free stop motion pass (ok.2 yes)
    exact ⟨t, m, ht, follows, by rw [work]; rfl, owner, paused, count⟩
  case inr =>
    have hc : exec .eject s = serve (ofKind 0x0C#8) (noBody ejectMedia) s := rfl
    rw [ejectMedia_eq] at hc
    have ok : s.feed.ejectable = true ↔ allowed := by simp [allowed, Feed.ejectable_iff]
    refine ⟨fun jammed => (takeOut_jammed hc h jammed).1, fun jammed => (takeOut_jammed hc h jammed).2, fun free => ?_⟩
    obtain ⟨stopped, busy, bad⟩ := takeOut_refused hc h free
    refine ⟨stopped, busy, fun stop motion pass no => bad stop motion pass (mt ok.1 no), fun stop motion pass yes => ?_⟩
    obtain ⟨t, m, ht, follows, work, owner, paused, count⟩ := takeOut_begins hc h free stop motion pass (ok.2 yes)
    exact ⟨t, m, ht, follows, by rw [work]; rfl, owner, paused, count⟩

end Sys2Proof.Machine
end

section
/-!
PROOFS. Family 13, motions in flight: advances that settle, motions that fail, loads, ejects and unloads that end (R119 to R125, R130 to
R133).
-/

-- One declaration at a time: side by side, the threads' stacks come near the memory limit of the check.
set_option Elab.async false

namespace Sys2Proof.Machine

/-! ## Steps of the feed unit -/

/-- What a feed operation writes stands after its step. -/
theorem ends_feeds {n : Nat} {c : Instr} {s x : State} (h : exec c s = ends false s x) (hx : Feeds n s x) : ∃ t, exec c s = .next t ∧
    Follows { s with queue := x.queue, wetEdge := x.wetEdge, feed := x.feed, out := x.out } t ∧ Follows x t := by
  obtain ⟨t, ht, follows⟩ := runs_of_ends false h
  exact ⟨t, ht, hx.follows.trans follows, follows⟩

/-- An event that stands in the return queue after the effect of a step is told. -/
theorem tells_of_mem {s x t : State} {e : Event} (h : s.lane.events.length ≤ 32 → ⟨s.now, e⟩ ∈ x.lane.events) (ht : Follows x t) :
    s.tells t e := fun room => ht.events.subset (List.mem_append_right _ (h room))

/-- An event raised stands in the return queue, where it has room. -/
theorem State.mem_raise (s : State) (e : Event) (room : s.lane.events.length < 64) : ⟨s.now, e⟩ ∈ (s.raise e).lane.events := by
  show _ ∈ (s.lane.raise s.now e).events
  rw [Lane.raise_events, if_pos room]
  exact List.mem_append_right _ (List.mem_singleton.2 rfl)

/-- A condition raised where it was not latched stands in the return queue, where it has room. -/
theorem State.mem_raiseCondition (s : State) (r : CondRaise) (clear : s.lane.conditions.latched r.condition = false)
    (room : s.lane.events.length < 64) : ⟨s.now, .condition r⟩ ∈ (s.raiseCondition r).lane.events := by
  have raised : s.lane.raiseCondition s.now r =
      Lane.raise s.now (.condition r) { s.lane with conditions := s.lane.conditions.put true r.condition } := by
    unfold Lane.raiseCondition
    rw [if_neg (by rw [clear]; decide)]
  show _ ∈ (s.lane.raiseCondition s.now r).events
  rw [raised, Lane.raise_events, if_pos room]
  exact List.mem_append_right _ (List.mem_singleton.2 rfl)

/-- An event raised latches no condition but EVENTS LOST (R167). -/
theorem Lane.raise_latched_iff (now : Nat) (e : Event) (l : Lane) {k : Condition} (hk : k ≠ .eventsLost) :
    (l.raise now e).conditions.latched k = l.conditions.latched k := by
  unfold Lane.raise
  split
  · rfl
  · split
    · rfl
    · simp [Conditions.latched_put, hk]

theorem State.setFeed_latched (s : State) (f : Feed) {k : Condition} (hk : k ≠ .eventsLost) :
    (s.setFeed f).lane.conditions.latched k = s.lane.conditions.latched k := by
  unfold State.setFeed
  dsimp only
  split
  · exact Lane.raise_latched_iff _ _ _ hk
  · rfl

theorem Motion.settled_iff (now : Nat) (m : Motion) :
    m.settled now = true ↔ m.paused = false ∧ ∃ b, m.inBandSince = some b ∧ b + 20 ≤ now := by
  unfold Motion.settled
  cases m.inBandSince <;> simp

/-- A motion that is paused or has not stayed in its band for 20 ms has not settled (R122). -/
theorem Motion.not_settled {now : Nat} {m : Motion}
    (h : m.paused = true ∨ m.inBandSince = none ∨ ∃ b, m.inBandSince = some b ∧ now < b + 20) : ¬ m.settled now = true := by
  rw [Motion.settled_iff]
  rintro ⟨paused, b, hb, at20⟩
  rcases h with h | h | ⟨b', h, before⟩
  · rw [h] at paused; cases paused
  · rw [h] at hb; cases hb
  · rw [h] at hb; cases hb; omega

/-! ## Advances that settle (R122, R125) -/

theorem State.driveFeed_eq (s : State) (c : FeedCmd) : s.driveFeed c = { s with out := { s.out with feed := c } } := rfl

theorem State.tellShort_wetEdge (s : State) (d n : Nat) (b : Bool) (r : Nat) : (s.tellShort d n b r).wetEdge = s.wetEdge := by
  unfold State.tellShort; split <;> rfl

theorem State.tellShort_out (s : State) (d n : Nat) (b : Bool) (r : Nat) : (s.tellShort d n b r).out = s.out := by
  unfold State.tellShort; split <;> rfl

theorem State.advanceDone_frame {s : State} {m : Motion} {d n : Nat} {short : Bool} (hm : s.feed.motion = some m)
    (hw : m.work = .advance d n short) :
    s.advanceDone.queue = (if m.owner = .entry then s.queue.tail else s.queue) ∧ s.advanceDone.wetEdge = s.wetEdge ∧
      s.advanceDone.feed = s.feed.advanced short ∧ s.advanceDone.out = { s.out with feed := .stop } := by
  rw [State.advanceDone_eq hm hw, State.dropEntry_eq, State.driveFeed_eq]
  dsimp only
  rw [State.advanceAtRest_queue, State.advanceAtRest_feed]
  refine ⟨rfl, State.tellShort_wetEdge .., rfl, ?_⟩
  rw [State.advanceAtRest, State.tellShort_out]

/-- An advance that stopped at the tail queues MEDIA SHORT, form SHORT (R125). -/
theorem State.advanceDone_tells {s : State} {m : Motion} {d n g p : Nat} (hm : s.feed.motion = some m) (hw : m.work = .advance d n true)
    (hg : s.feed.target = some g) (hp : s.feed.pos = some p) (room : s.lane.events.length < 64) :
    ⟨s.now, .mediaShort .short d n (g - p)⟩ ∈ s.advanceDone.lane.events := by
  rw [State.advanceDone_eq hm hw, State.dropEntry_eq, State.driveFeed_eq]
  have told := State.mem_raise { s with feed := s.feed.advanced true } (.mediaShort .short d n (g - p)) room
  unfold State.advanceAtRest State.tellShort
  rw [if_pos rfl, hg, hp]
  exact told

/-- Settles O46. -/
theorem settledAdvanceCompletes : Obligations.SettledAdvanceCompletes := by
  refine fun s => ⟨fun h => ?idle, fun m d n short b hm hw paused since at20 => ?settles⟩
  case idle =>
    show execAdvanceSettled s = _
    unfold execAdvanceSettled
    cases hm : s.feed.motion with
    | none => rfl
    | some m =>
      refine if_neg fun ⟨kind, settled⟩ => ?_
      exact (h m hm).elim (fun other => other kind) fun late => Motion.not_settled late settled
  case settles =>
    have step : exec .advanceSettled s = ends false s s.advanceDone := by
      show execAdvanceSettled s = _
      unfold execAdvanceSettled
      rw [hm]
      exact if_pos ⟨by rw [hw]; rfl, (m.settled_iff s.now).2 ⟨paused, b, since, at20⟩⟩
    obtain ⟨t, ht, follows, after⟩ := ends_feeds step (Senses.advanceDone s).toFeeds
    obtain ⟨queue, wet, feed, out⟩ := State.advanceDone_frame hm hw
    rw [queue, wet, feed, out] at follows
    refine ⟨t, ht, follows, fun isShort g p hg hp => tells_of_mem (fun room => ?_) after⟩
    subst isShort
    exact State.advanceDone_tells hm hw hg hp (by omega)

/-! ## Jams (R123, R130, R131, R133) -/

theorem State.driveStopped_wetEdge (s : State) (k : MotionKind) : (s.driveStopped k).wetEdge = s.wetEdge := by
  unfold State.driveStopped; split <;> rfl

theorem State.driveStopped_out (s : State) (k : MotionKind) :
    (s.driveStopped k).out = if k = .cut then { s.out with cutter := .stop } else { s.out with feed := .stop } := by
  unfold State.driveStopped; split <;> rfl

theorem State.driveStopped_now (s : State) (k : MotionKind) : (s.driveStopped k).now = s.now := by
  unfold State.driveStopped; split <;> rfl

theorem State.driveStopped_lane (s : State) (k : MotionKind) : (s.driveStopped k).lane = s.lane := by
  unfold State.driveStopped; split <;> rfl

@[simp] theorem State.setFeed_wetEdge (s : State) (f : Feed) : (s.setFeed f).wetEdge = s.wetEdge := by
  simp only [State.setFeed]; split <;> rfl
@[simp] theorem State.setFeed_out (s : State) (f : Feed) : (s.setFeed f).out = s.out := by
  simp only [State.setFeed]; split <;> rfl

theorem State.setFeed_raised (s : State) (f : Feed) : s.lane.Raised 1 (s.setFeed f).lane := (Reported.setFeed s f).2.1

/-- The record once the path has jammed (R123, R130). -/
def Feed.jammedBy (f : Feed) (cause : JamCause) : Feed := { f with path := .jammed, motion := none, jam := some cause }

theorem State.jam_frame {s : State} {m : Motion} (hm : s.feed.motion = some m) (cause : JamCause) :
    (s.jam cause).queue = (if m.owner = .entry then s.queue.tail else s.queue) ∧ (s.jam cause).wetEdge = s.wetEdge ∧
      (s.jam cause).feed = s.feed.jammedBy cause ∧
      (s.jam cause).out = if m.work.kind = .cut then { s.out with cutter := .stop } else { s.out with feed := .stop } := by
  rw [State.jam_eq hm, State.dropEntry_eq]
  dsimp only
  rw [State.raiseCondition_queue, State.raiseCondition_wetEdge, State.raiseCondition_feed, State.raiseCondition_out,
    State.driveStopped_queue, State.driveStopped_wetEdge, State.driveStopped_feed, State.driveStopped_out, State.setFeed_queue,
    State.setFeed_wetEdge, State.setFeed_feed, State.setFeed_out]
  exact ⟨rfl, rfl, rfl, rfl⟩

/-- A jam latches JAM, and tells it where it was clear. -/
theorem State.jam_lane {s : State} {m : Motion} (hm : s.feed.motion = some m) (cause : JamCause) :
    (s.jam cause).lane.conditions.jam = true ∧
      (s.lane.conditions.jam = false → s.lane.events.length < 63 → ⟨s.now, .condition (.jam cause)⟩ ∈ (s.jam cause).lane.events) := by
  rw [State.jam_eq hm, State.dropEntry_eq]
  dsimp only
  have now : ((s.setFeed (s.feed.jammedBy cause)).driveStopped m.work.kind).now = s.now := by
    rw [State.driveStopped_now, State.setFeed_now]
  have raised : s.lane.Raised 1 ((s.setFeed (s.feed.jammedBy cause)).driveStopped m.work.kind).lane := by
    rw [State.driveStopped_lane]; exact State.setFeed_raised ..
  have kept : ((s.setFeed (s.feed.jammedBy cause)).driveStopped m.work.kind).lane.conditions.latched .jam =
      s.lane.conditions.latched .jam := by rw [State.driveStopped_lane]; exact State.setFeed_latched _ _ (by decide)
  refine ⟨Lane.raiseCondition_latched _ (.jam cause) _, fun clear room => ?_⟩
  have told := State.mem_raiseCondition ((s.setFeed (s.feed.jammedBy cause)).driveStopped m.work.kind) (.jam cause)
    (kept.trans clear) (by have := raised.length_le; omega)
  rw [now] at told
  exact told

/-- A motion that fails jams the path: what a step whose effect is a jam leaves. -/
theorem jams_of_ends {c : Instr} {s u : State} {m : Motion} {cause : JamCause} (h : exec c s = ends false s (u.jam cause))
    (hu : u = { s with feed := { s.feed with cutter := u.feed.cutter } }) (hm : s.feed.motion = some m)
    (hk : m.work.kind = .cut ↔ cause = .cutter) :
    ∃ t, exec c s = .next t ∧
      Follows { s with
        queue := if m.owner = .entry then s.queue.tail else s.queue
        feed := { s.feed with path := .jammed, motion := none, jam := some cause, cutter := t.feed.cutter }
        out := if cause = .cutter then { s.out with cutter := .stop } else { s.out with feed := .stop } } t ∧
      t.lane.conditions.jam = true ∧ (s.lane.conditions.jam = false → s.tells t (.condition (.jam cause))) ∧
      t.feed.cutter = u.feed.cutter := by
  have motion : u.feed.motion = some m := by rw [hu]; exact hm
  obtain ⟨queue, wet, feed, out⟩ := State.jam_frame motion cause
  obtain ⟨latched, told⟩ := State.jam_lane motion cause
  have jammed := (Senses.jam u cause).toFeeds.follows
  rw [queue, wet, feed, out] at jammed
  obtain ⟨t, ht, after⟩ := runs_of_ends false h
  have cutter : t.feed.cutter = u.feed.cutter := by rw [after.feed, feed]; rfl
  have lane : u.lane = s.lane := by rw [hu]
  have now : u.now = s.now := by rw [hu]
  rw [lane, now] at told
  refine ⟨t, ht, ?_, after.latched .jam latched, fun clear => tells_of_mem (fun room => told clear (by omega)) after, cutter⟩
  rw [cutter]
  have follows := jammed.trans after
  generalize u.feed.cutter = cut at hu follows
  subst hu
  simp only [hk] at follows
  exact follows

theorem State.not_active_iff (s : State) (i : DIn) : s.active i = false ↔ s.inputs[i].level ≠ some true := by simp [State.active]

theorem State.idleCutter_eq (s : State) : s.idleCutter = if s.inputs[(8 : DIn)].level = some true then .home else .away := by
  simp [State.idleCutter, State.active]

theorem Feed.stallHeld_iff (f : Feed) (m : Motion) :
    f.stallHeld m = false ↔ m.paused = false ∧ ¬ (m.work.kind = .advance ∧ f.inBand m = true) := by
  simp [Feed.stallHeld]

section

variable {s : State} {m : Motion} (hm : s.feed.motion = some m)
include hm

theorem feedStall_eq : exec .feedStall s =
    if m.work.kind ≠ .cut ∧ s.feed.stallHeld m = false ∧ m.progressAt + 500 ≤ s.now then ends false s (s.jam .stall) else .next s := by
  show execFeedStall s = _
  unfold execFeedStall
  rw [hm]

theorem cutTimeout_idle (h : ¬ ∃ d left, m.work = .cut d left ∧ d ≤ s.now ∧ (m.paused = false ∨
    (s.feed.cutter = .returning ∧ s.inputs[(8 : DIn)].level ≠ some true))) : exec .cutTimeout s = .next s := by
  show execCutTimeout s = _
  unfold execCutTimeout
  obtain ⟨w, o, p, x, b, g, y⟩ := m
  rw [hm]
  cases w with
  | cut d left =>
    refine if_neg fun ⟨late, fails⟩ => h ⟨d, left, rfl, late, ?_⟩
    rwa [State.not_active_iff] at fails
  | load | advance | eject | unload => rfl

theorem cutTimeout_fails {d : Nat} {left : Bool} (hw : m.work = .cut d left) (late : d ≤ s.now)
    (fails : m.paused = false ∨ (s.feed.cutter = .returning ∧ s.inputs[(8 : DIn)].level ≠ some true)) :
    exec .cutTimeout s = ends false s s.cutFails := by
  show execCutTimeout s = _
  unfold execCutTimeout
  obtain ⟨w, o, p, x, b, g, y⟩ := m
  cases hw
  rw [hm]
  exact if_pos ⟨late, by rwa [State.not_active_iff]⟩

theorem ejectLimit_idle (h : ¬ (m.work = .eject none ∧ m.paused = false ∧ 2000000 ≤ m.count)) : exec .ejectLimit s = .next s := by
  show execEjectLimit s = _
  unfold execEjectLimit
  split
  next m' _ _ _ _ _ hm' =>
    rw [hm] at hm'; cases hm'
    exact if_neg fun far => h ⟨rfl, rfl, far⟩
  next => rfl

theorem ejectLimit_jams (hw : m.work = .eject none) (paused : m.paused = false) (far : 2000000 ≤ m.count) :
    exec .ejectLimit s = ends false s (s.jam .limit) := by
  show execEjectLimit s = _
  unfold execEjectLimit
  obtain ⟨w, o, p, x, b, g, y⟩ := m
  cases hw; cases paused
  rw [hm]
  exact if_pos far

theorem unloadLimit_idle (h : ¬ (m.work = .unload none ∧ m.paused = false ∧ m.count ≤ -100000)) : exec .unloadLimit s = .next s := by
  show execUnloadLimit s = _
  unfold execUnloadLimit
  split
  next m' _ _ _ _ _ hm' =>
    rw [hm] at hm'; cases hm'
    exact if_neg fun far => h ⟨rfl, rfl, far⟩
  next => rfl

theorem unloadLimit_jams (hw : m.work = .unload none) (paused : m.paused = false) (far : m.count ≤ -100000) :
    exec .unloadLimit s = ends false s (s.jam .limit) := by
  show execUnloadLimit s = _
  unfold execUnloadLimit
  obtain ⟨w, o, p, x, b, g, y⟩ := m
  cases hw; cases paused
  rw [hm]
  exact if_pos far

end

/-- Settles O47: each limit jams the path by one rule; a cut that fails has its cutter formed from DI8 first. -/
theorem failedMotionJamsThePath : Obligations.FailedMotionJamsThePath := by
  intro s m hm stalls cutLate ejectFar unloadFar
  have stalls_iff : (m.work.kind ≠ .cut ∧ s.feed.stallHeld m = false ∧ m.progressAt + 500 ≤ s.now) ↔ stalls := by
    rw [Feed.stallHeld_iff, and_assoc]
  refine ⟨fun h => ?_, fun h => cutTimeout_idle hm h, fun h => ejectLimit_idle hm h, fun h => unloadLimit_idle hm h, ?jams⟩
  · rw [feedStall_eq hm, if_neg (mt stalls_iff.1 h)]
  case jams =>
    rintro c cause (⟨rfl, h, rfl⟩ | ⟨rfl, ⟨d, left, hw, late, fails⟩, rfl⟩ | ⟨rfl, ⟨hw, paused, far⟩, rfl⟩ | ⟨rfl, ⟨hw, paused, far⟩, rfl⟩)
    · exact jams_of_ends ((feedStall_eq hm).trans (if_pos (stalls_iff.2 h))) rfl hm (by simp [h.1])
    · rw [if_pos rfl, if_pos rfl, ← State.idleCutter_eq]
      exact jams_of_ends (u := s.withCutter s.idleCutter) (cutTimeout_fails hm hw late fails) rfl hm (by simp [hw, MotionWork.kind])
    · exact jams_of_ends (ejectLimit_jams hm hw paused far) rfl hm (by simp [hw, MotionWork.kind])
    · exact jams_of_ends (unloadLimit_jams hm hw paused far) rfl hm (by simp [hw, MotionWork.kind])

/-! ## Ejects and unloads that end (R131, R133) -/

theorem State.mediaOut_out (s : State) : s.mediaOut.out = { s.out with feed := .stop } := by
  show ({ (s.setFeed s.feed.cleared).out with feed := .stop } : Outputs) = _
  rw [State.setFeed_out]

theorem State.ejected_frame (s : State) (o : Owner) :
    (s.ejected o).wetEdge = none ∧ (s.ejected o).feed = s.feed.cleared ∧ (s.ejected o).out = { s.out with feed := .stop } := by
  obtain ⟨-, wet, feed⟩ := s.mediaOut_frame
  have out := s.mediaOut_out
  by_cases h : o = .request
  · simp only [State.ejected, if_pos h]
    exact ⟨wet, feed, out⟩
  · simp only [State.ejected, if_neg h]
    exact ⟨wet, feed, out⟩

theorem State.ejectDone_frame (s : State) (m : Motion) :
    (s.ejectDone m).queue = (if m.owner = .entry then s.queue.tail else s.queue) ∧ (s.ejectDone m).wetEdge = none ∧
      (s.ejectDone m).feed = s.feed.cleared ∧ (s.ejectDone m).out = { s.out with feed := .stop } := by
  rw [State.ejectDone_eq, State.dropEntry_eq]
  dsimp only
  rw [State.ejected_queue]
  exact ⟨rfl, s.ejected_frame m.owner⟩

theorem State.ejectDone_tells {s : State} {m : Motion} (ho : m.owner ≠ .request) (room : s.lane.events.length < 63) :
    ⟨s.now, .cutDone .eject s.feed.source s.feed.rollRemaining⟩ ∈ (s.ejectDone m).lane.events := by
  rw [State.ejectDone_eq, State.dropEntry_eq]
  dsimp only
  rw [State.ejected, if_neg ho]
  have now : s.mediaOut.now = s.now := (Feeds.mediaOut s).now
  have bound := (Feeds.mediaOut s).lane.length_le
  rw [← now]
  exact State.mem_raise _ _ (by omega)

section

variable {s : State} {m : Motion} (hm : s.feed.motion = some m)
include hm

theorem ejectComplete_eq : exec .ejectComplete s =
    if m.work.kind = .eject ∧ m.settled s.now then ends false s (s.ejectDone m) else .next s := by
  show execEjectComplete s = _
  unfold execEjectComplete
  rw [hm]

theorem unloadComplete_eq : exec .unloadComplete s =
    if m.work.kind = .unload ∧ m.settled s.now then ends false s s.mediaOut else .next s := by
  show execUnloadComplete s = _
  unfold execUnloadComplete
  rw [hm]

end

/-- Settles O49. -/
theorem ejectAndUnloadClearThePath : Obligations.EjectAndUnloadClearThePath := by
  intro s m hm q hq
  simp only [List.mem_cons, List.not_mem_nil, or_false] at hq
  have idle {k : MotionKind} (h : m.work.kind ≠ k ∨ m.paused = true ∨ m.inBandSince = none ∨
      ∃ b, m.inBandSince = some b ∧ s.now < b + 20) : ¬ (m.work.kind = k ∧ m.settled s.now = true) := fun ⟨kind, settled⟩ =>
    h.elim (· kind) fun late => Motion.not_settled late settled
  have done {k : MotionKind} {b : Nat} (kind : m.work.kind = k) (paused : m.paused = false) (since : m.inBandSince = some b)
      (at20 : b + 20 ≤ s.now) : m.work.kind = k ∧ m.settled s.now = true :=
    ⟨kind, (m.settled_iff s.now).2 ⟨paused, b, since, at20⟩⟩
  rcases hq with rfl | rfl
  case inl =>
    refine ⟨fun h => (ejectComplete_eq hm).trans (if_neg (idle h)), fun b kind paused since at20 => ?_⟩
    obtain ⟨t, ht, follows, after⟩ := ends_feeds ((ejectComplete_eq hm).trans (if_pos (done kind paused since at20)))
      (Senses.ejectDone hm).toFeeds
    obtain ⟨queue, wet, feed, out⟩ := s.ejectDone_frame m
    rw [queue, wet, feed, out] at follows
    refine ⟨t, ht, ?_, fun _ owner => tells_of_mem (fun room => State.ejectDone_tells owner (by omega)) after⟩
    simp only [true_and]
    exact follows
  case inr =>
    refine ⟨fun h => (unloadComplete_eq hm).trans (if_neg (idle h)), fun b kind paused since at20 => ?_⟩
    obtain ⟨t, ht, follows, after⟩ := ends_feeds ((unloadComplete_eq hm).trans (if_pos (done kind paused since at20)))
      (Feeds.mediaOut s)
    obtain ⟨queue, wet, feed⟩ := s.mediaOut_frame
    rw [queue, wet, feed, s.mediaOut_out] at follows
    exact ⟨t, ht, follows, nofun⟩

/-! ## Loads that end or go on (R119, R120) -/

/-- A load that fails leaves the path EMPTY without source, profile and roll remaining, and is told (R119). -/
def LoadFailsTo (s t : State) (reason : LoadFailReason) (skew : Option Nat) : Prop :=
  Follows { s with
    feed := { s.feed with path := .empty, source := none, profile := none, rollRemaining := none, motion := none }
    out := { s.out with feed := .stop } } t ∧
  s.tells t (.loadFailed s.feed.source s.feed.profile reason s.feed.attempt skew)

theorem State.loadFails_eq {s : State} {m : Motion} {ph : LoadPhase} {st : Int} {e0 e1 : Option Int} {skew : Option Nat}
    (hm : s.feed.motion = some m) (hw : m.work = .load ph st e0 e1 skew) (why : LoadFailReason) :
    s.loadFails why = s.loadFailed why skew := by
  obtain ⟨w, o, p, x, b, g, y⟩ := m
  cases hw
  unfold State.loadFails
  rw [hm]
  rfl

theorem loadFails_of_ends {c : Instr} {s : State} {why : LoadFailReason} {skew : Option Nat}
    (h : exec c s = ends false s (s.loadFailed why skew)) : ∃ t, exec c s = .next t ∧ LoadFailsTo s t why skew := by
  obtain ⟨t, ht, follows, after⟩ := ends_feeds h (Senses.loadFailed s why skew).toFeeds
  have told := State.mem_raise s (.loadFailed s.feed.source s.feed.profile why s.feed.attempt skew)
  have raised := State.setFeed_raised (s.raise (.loadFailed s.feed.source s.feed.profile why s.feed.attempt skew)) s.feed.unloaded
  have frame : (s.loadFailed why skew).queue = s.queue ∧ (s.loadFailed why skew).wetEdge = s.wetEdge ∧
      (s.loadFailed why skew).feed = s.feed.unloaded ∧ (s.loadFailed why skew).out = { s.out with feed := .stop } := by
    rw [State.loadFailed, State.driveFeed_eq]
    dsimp only
    rw [State.setFeed_queue, State.setFeed_wetEdge, State.setFeed_feed, State.setFeed_out]
    exact ⟨rfl, rfl, rfl, rfl⟩
  obtain ⟨queue, wet, feed, out⟩ := frame
  rw [queue, wet, feed, out] at follows
  refine ⟨t, ht, follows, tells_of_mem (x := s.loadFailed why skew) (fun room => ?_) after⟩
  exact raised.mem (told (by omega))

theorem State.tailSeen_eq {s t : State} (hi : t.inputs = s.inputs) (hs : t.feed.source = s.feed.source) : t.tailSeen = s.tailSeen := by
  unfold State.tailSeen State.inactive State.active
  rw [hi, hs]

/-- The record once a load has succeeded and a standing tail condition is taken. -/
def State.settledIn (s : State) : Feed :=
  { s.feed with
    path := if s.tailSeen then .tailOut else .ready
    pos := some 0, target := some 0, tail := if s.tailSeen then some 28000 else none, motion := none }

theorem State.checkTail_frame (s : State) : s.checkTail.queue = s.queue ∧ s.checkTail.wetEdge = s.wetEdge ∧
    s.checkTail.feed = (if s.feed.path = .ready ∧ s.tailSeen = true
      then { s.feed with path := .tailOut, tail := s.feed.pos.map (· + 28000) } else s.feed) ∧ s.checkTail.out = s.out := by
  unfold State.checkTail State.tailOut
  simp only [Bool.and_eq_true, decide_eq_true_eq]
  split <;> simp

theorem State.loadRests_ready {s : State} {m : Motion} {st a b : Int} {x : Option Nat} (hm : s.feed.motion = some m)
    (hw : m.work = .load .toRest st (some a) (some b) x) (fits : skewOf a b ≤ s.skewLimit) :
    s.loadRests.queue = s.queue ∧ s.loadRests.wetEdge = s.wetEdge ∧ s.loadRests.feed = s.settledIn ∧
      s.loadRests.out = { s.out with feed := .stop } := by
  rw [State.loadRests_eq hm hw, if_pos fits]
  have feed : ((s.aligning.setFeed s.aligning.feed.loaded).driveFeed .stop).feed = s.aligning.feed.loaded := State.setFeed_feed ..
  have inputs : ((s.aligning.setFeed s.aligning.feed.loaded).driveFeed .stop).inputs = s.inputs := by
    have frame := ((Feeds.aligning s).setFeed s.aligning.feed.loaded id id).frame
    show (State.setFeed _ _).inputs = _
    rw [frame]
  have seen : ((s.aligning.setFeed s.aligning.feed.loaded).driveFeed .stop).tailSeen = s.tailSeen :=
    State.tailSeen_eq inputs (by rw [feed, State.aligning_feed]; rfl)
  obtain ⟨queue, wet, tail, out⟩ := State.checkTail_frame ((s.aligning.setFeed s.aligning.feed.loaded).driveFeed .stop)
  rw [queue, wet, tail, out, seen, feed, State.aligning_feed]
  refine ⟨?_, ?_, ?_, ?_⟩
  · show (State.setFeed _ _).queue = _
    rw [State.setFeed_queue, State.aligning_queue]
  · show (State.setFeed _ _).wetEdge = _
    rw [State.setFeed_wetEdge, State.aligning, State.setFeed_wetEdge]
  · unfold State.settledIn Feed.loaded
    cases s.tailSeen <;> simp
  · show ({ (State.setFeed _ _).out with feed := .stop } : Outputs) = _
    rw [State.setFeed_out, State.aligning, State.setFeed_out]

/-- The motion that back-feeds after a failed skew check, its stall time going on (R120). -/
def Motion.backFed (m : Motion) (now : Nat) (skew : Nat) : Motion :=
  { m with
    work := .load .retry m.count none none (some skew), inBandSince := none, heldAt := none
    progressAt := m.progressAt + (now - m.heldAt.getD now) }

theorem Feed.reband_retry {f : Feed} {m : Motion} (paused : m.paused = false) (now skew : Nat) :
    ({ f with motion := some (m.retrying skew) } : Feed).reband now = { f with motion := some (m.backFed now skew) } := by
  simp [Feed.reband, Motion.retrying, Feed.inBand, Feed.offTarget, Feed.stallHeld, MotionWork.kind, Motion.hold, Motion.backFed, paused]

theorem State.driveOf_backFed {s : State} {m : Motion} {now skew : Nat} (h : s.feed.motion = some (m.backFed now skew))
    (paused : m.paused = false) : s.driveOf = .back := by
  simp [State.driveOf, h, Motion.backFed, paused, Feed.direction]

theorem State.loadRests_retry {s : State} {m : Motion} {st a b : Int} {x : Option Nat} (hm : s.feed.motion = some m)
    (hw : m.work = .load .toRest st (some a) (some b) x) (paused : m.paused = false) (beyond : ¬ skewOf a b ≤ s.skewLimit) :
    s.loadRests.queue = s.queue ∧ s.loadRests.wetEdge = s.wetEdge ∧
      s.loadRests.feed = { s.feed with path := .aligning, motion := some (m.backFed s.now (skewOf a b)) } ∧
      s.loadRests.out = { s.out with feed := .back } := by
  have now : s.aligning.now = s.now := State.setFeed_now ..
  have wet : s.aligning.wetEdge = s.wetEdge := State.setFeed_wetEdge ..
  have out : s.aligning.out = s.out := State.setFeed_out ..
  have queue := s.aligning_queue
  have feed := s.aligning_feed
  rw [State.loadRests_eq hm hw, if_neg beyond, State.withMotion, Feed.reband_retry paused, now]
  generalize s.aligning = u at wet out queue feed
  rw [State.redrive_queue, State.redrive_feed]
  rw [State.redrive_eq, State.driveOf_backFed rfl paused]
  exact ⟨queue, wet, by rw [feed], by rw [State.driveFeed_eq]; show ({ u.out with feed := .back } : Outputs) = _; rw [out]⟩

section

variable {s : State} {m : Motion} (hm : s.feed.motion = some m) (paused : m.paused = false)
include hm paused

omit paused in
theorem loadEdgeSettled_idle {since : Nat} (hb : m.inBandSince = some since) (before : s.now < since + 20) :
    exec .loadEdgeSettled s = .next s := by
  show execLoadEdgeSettled s = _
  unfold execLoadEdgeSettled
  rw [hm]
  exact if_neg fun ⟨_, settled⟩ => Motion.not_settled (.inr (.inr ⟨since, hb, before⟩)) settled

theorem loadEdgeSettled_rests {ph : LoadPhase} {st : Int} {e0 e1 : Option Int} {old : Option Nat} {since : Nat}
    (hw : m.work = .load ph st e0 e1 old) (hb : m.inBandSince = some since) (at20 : since + 20 ≤ s.now) :
    exec .loadEdgeSettled s = ends false s s.loadRests := by
  show execLoadEdgeSettled s = _
  unfold execLoadEdgeSettled
  rw [hm]
  exact if_pos ⟨by rw [hw]; rfl, (m.settled_iff s.now).2 ⟨paused, since, hb, at20⟩⟩

theorem loadBackfeedDone_eq {st : Int} {e0 e1 : Option Int} {old : Option Nat} (hw : m.work = .load .retry st e0 e1 old) :
    exec .loadBackfeedDone s = if m.count ≤ st - 33334 then ends false s s.retryDone else .next s := by
  show execLoadBackfeedDone s = _
  unfold execLoadBackfeedDone
  obtain ⟨w, o, p, x, b, g, y⟩ := m
  cases hw; cases paused
  rw [hm]

theorem loadNoEdge_clearing {st : Int} {e0 e1 : Option Int} {old : Option Nat} (hw : m.work = .load .clearing st e0 e1 old) :
    exec .loadNoEdge s = if m.count ≤ st - 2000000 then ends false s (s.loadFails .noEdge) else .next s := by
  show execLoadNoEdge s = _
  unfold execLoadNoEdge
  obtain ⟨w, o, p, x, b, g, y⟩ := m
  cases hw; cases paused
  rw [hm]

theorem loadNoEdge_forward {st : Int} {e0 e1 : Option Int} {old : Option Nat} (hw : m.work = .load .forward st e0 e1 old) :
    exec .loadNoEdge s = if st + 1000000 ≤ m.count then ends false s (s.loadFails .noEdge) else .next s := by
  show execLoadNoEdge s = _
  unfold execLoadNoEdge
  obtain ⟨w, o, p, x, b, g, y⟩ := m
  cases hw; cases paused
  rw [hm]

end

theorem State.retryDone_eq {s : State} {m : Motion} {st : Int} {e0 e1 : Option Int} {skew : Option Nat} (hm : s.feed.motion = some m)
    (hw : m.work = .load .retry st e0 e1 skew) :
    s.retryDone = if 3 ≤ s.feed.attempt then s.loadFailed .skew skew else s.reattempted m skew := by
  unfold State.retryDone
  rw [hm]
  simp only [hw]
  exact ite_congr rfl (fun _ => State.loadFails_eq hm hw .skew) fun _ => rfl

theorem Feeds.reattempted (s : State) (m : Motion) (skew : Option Nat) : Feeds 1 s (s.reattempted m skew) :=
  (Feeds.setFeed (Feeds.refl s) _ (by exact id) (by exact id)).redrive

theorem State.reattempted_frame (s : State) (m : Motion) (skew : Option Nat) :
    (s.reattempted m skew).queue = s.queue ∧ (s.reattempted m skew).wetEdge = s.wetEdge ∧ (s.reattempted m skew).feed =
      { s.feed with path := .loading, attempt := s.feed.attempt + 1, motion := some (s.beginAttempt m skew) } ∧
      (s.reattempted m skew).out = { s.out with feed := (s.reattempted m skew).out.feed } := by
  rw [State.reattempted, State.redrive_queue, State.redrive_feed, State.redrive_eq, State.driveFeed_eq]
  dsimp only
  rw [State.setFeed_out]
  exact ⟨State.setFeed_queue .., State.setFeed_wetEdge .., State.setFeed_feed .., rfl⟩

theorem State.beginAttempt_eq (s : State) (m : Motion) (skew : Option Nat) : s.beginAttempt m skew = { m with
    work := .load (if s.inputs[(0 : DIn)].level = some true ∨ s.inputs[(1 : DIn)].level = some true then .clearing else .forward)
      m.count none none skew
    inBandSince := none } := by
  simp [State.beginAttempt, State.active]

/-- Settles O48. -/
theorem loadStepsAlignOrFail : Obligations.LoadStepsAlignOrFail := by
  intro s m hm paused fails
  refine ⟨fun st a b old k since hw hk hb => ?settled, fun st e0 e1 old hw => ?backfed, fun st e0 e1 old hw => ?noEdge⟩
  case settled =>
    refine ⟨loadEdgeSettled_idle hm hb, fun at20 => ?_⟩
    obtain ⟨t, ht, follows, -⟩ := ends_feeds (loadEdgeSettled_rests hm paused hw hb at20) (Senses.loadRests s).toFeeds
    have limit : s.skewLimit = s.tables.profile[k].skewLimit := by unfold State.skewLimit; rw [hk]
    refine ⟨t, ht, fun fits => ?_, fun beyond => ?_⟩
    · obtain ⟨queue, wet, feed, out⟩ := State.loadRests_ready hm hw (by rw [limit]; exact fits)
      rw [queue, wet, feed, out] at follows
      exact follows
    · obtain ⟨queue, wet, feed, out⟩ := State.loadRests_retry hm hw paused (by rw [limit]; exact Nat.not_le.2 beyond)
      rw [queue, wet, feed, out] at follows
      exact follows
  case backfed =>
    refine ⟨fun near => (loadBackfeedDone_eq hm paused hw).trans (if_neg (by omega)), fun far => ?_⟩
    have step := (loadBackfeedDone_eq hm paused hw).trans (if_pos far)
    rw [State.retryDone_eq hm hw] at step
    by_cases last : 3 ≤ s.feed.attempt
    · rw [if_pos last] at step
      obtain ⟨t, ht, failed⟩ := loadFails_of_ends step
      exact ⟨t, ht, fun _ => failed, fun more => absurd last (Nat.not_le.2 more)⟩
    · rw [if_neg last] at step
      obtain ⟨t, ht, follows, after⟩ := ends_feeds step (Feeds.reattempted s m old)
      obtain ⟨queue, wet, feed, out⟩ := s.reattempted_frame m old
      rw [queue, wet, feed, State.beginAttempt_eq, out, ← after.out] at follows
      exact ⟨t, ht, fun more => absurd more last, fun _ => follows⟩
  case noEdge =>
    rcases hw with hw | hw
    · have step := loadNoEdge_clearing hm paused hw
      rw [State.loadFails_eq hm hw] at step
      rw [if_pos hw]
      exact ⟨fun near => step.trans (if_neg near), fun far => loadFails_of_ends (step.trans (if_pos far))⟩
    · have step := loadNoEdge_forward hm paused hw
      rw [State.loadFails_eq hm hw] at step
      rw [if_neg (by rw [hw]; nofun)]
      exact ⟨fun near => step.trans (if_neg near), fun far => loadFails_of_ends (step.trans (if_pos far))⟩

end Sys2Proof.Machine
end

section
/-!
PROOFS. Family 14, motions that start and the encoder: ADVANCE and CUT entries begin (R30, R31, R121, R126, R129, R131), and the feed position
follows the encoder (R122, R123, R125).
-/

-- One declaration at a time: side by side, the threads' stacks come near the memory limit of the check.
set_option Elab.async false

namespace Sys2Proof.Machine

theorem Holds.isEmpty_iff (h : Holds) : h.isEmpty = true ↔ h = {} := by
  cases h
  simp [Holds.isEmpty, and_assoc]

theorem State.orphanInFlight_eq_false (s : State) : s.orphanInFlight = false ↔ ∀ m, s.feed.motion = some m → m.owner ≠ .orphan := by
  unfold State.orphanInFlight
  cases s.feed.motion <;> simp

/-! ## ADVANCE START (R30, R121, R126) -/

theorem State.advanceMedia_iff (s : State) (d : Nat) : s.advanceMedia d = true ↔ s.feed.path = .ready ∨
    ∃ a b, s.feed.path = .tailOut ∧ s.feed.tail = some a ∧ s.feed.pos = some b ∧ (s.advanceFigures d).1 ≤ a - b := by
  unfold State.advanceMedia Feed.remaining
  cases s.feed.path <;> cases s.feed.tail <;> cases s.feed.pos <;> simp

theorem State.advanceHolds_iff (s : State) (d : Nat) : (s.advanceHolds d).isEmpty = true ↔
    s.stop.set = false ∧ (∀ m, s.feed.motion = some m → m.owner ≠ .orphan) ∧ s.advanceMedia d = true := by
  rw [Holds.isEmpty_iff, ← State.orphanInFlight_eq_false]
  simp [State.advanceHolds]

theorem advanceStart_eq {s : State} {d : Nat} {n r : Option Nat} {short : Bool} {rest : List Entry}
    (hq : s.queue = ⟨.advance d n r short, .waiting⟩ :: rest) : exec .advanceStart s =
      if (s.advanceHolds d).isEmpty then ends false s (s.startAdvance d short rest) else .next s := by
  show execAdvanceStart s = _
  unfold execAdvanceStart
  rw [hq]

/-- What an advance of distance d leaves of the roll record when it starts (R126). -/
structure RollUsed (s u : State) (d : Nat) : Prop where
  queue : u.queue = s.queue
  wetEdge : u.wetEdge = s.wetEdge
  out : u.out = s.out
  feed : u.feed = { s.feed with rollRemaining := s.feed.rollRemaining.map (· - d), rollLow := u.feed.rollLow }
  low : u.feed.rollLow = true ↔ s.feed.rollLow = true ∨ ∃ r, s.feed.rollRemaining = some r ∧ r - d < 1000000
  told : ∀ r, s.feed.rollRemaining = some r → r - d < 1000000 → s.feed.rollLow = false → s.lane.events.length < 64 →
    ⟨s.now, .rollLow s.feed.source (r - d)⟩ ∈ u.lane.events

theorem Feed.used_of_none {f : Feed} (h : f.rollRemaining = none) (d : Nat) :
    f = { f with rollRemaining := f.rollRemaining.map (· - d), rollLow := f.rollLow } := by
  cases f; cases h; rfl

theorem State.useRoll_used (s : State) (d : Nat) : RollUsed s (s.useRoll d) d := by
  unfold State.useRoll
  split
  next none => exact ⟨rfl, rfl, rfl, Feed.used_of_none none d, by simp [none], by simp [none]⟩
  next r some =>
    dsimp only
    split
    next first =>
      have low : (r - d < 1000000) ∧ s.feed.rollLow = false := by simpa using first
      refine ⟨rfl, rfl, rfl, ?_, ?_, fun r' h below _ room => ?_⟩
      · rw [some]; rfl
      · simp [State.raise, some, low]
      · cases some.symm.trans h
        exact State.mem_raise _ _ room
    next other =>
      refine ⟨rfl, rfl, rfl, ?_, ?_, fun r' h below high room => ?_⟩
      · rw [some]; rfl
      · cases low : s.feed.rollLow <;> simp [some]
      · cases some.symm.trans h
        simp [below, high] at other

/-- A motion that starts now is driven under its owner, its stall time measured from now (R122, R123). -/
theorem Feed.reband_new {f : Feed} {now : Nat} {w : MotionWork} {o : Owner} (h : f.motion = some (newMotion now w o)) :
    ∃ m, f.reband now = { f with motion := some m } ∧ m.work = w ∧ m.owner = o ∧ m.paused = false ∧ m.count = 0 ∧ m.progressAt = now := by
  refine ⟨_, by unfold Feed.reband; rw [h]; rfl, by simp [newMotion], by simp [newMotion], by simp [newMotion], by simp [newMotion], ?_⟩
  unfold Motion.hold
  dsimp only
  split <;> simp [newMotion]

theorem State.advanceSet_used (s : State) (d : Nat) (short : Bool) (rest : List Entry) : RollUsed
    { s with
      queue := ⟨.advance d (some (s.advanceFigures d).1) (some (s.advanceFigures d).1) short, .active⟩ :: rest
      feed := (s.advanceFeed d).reband s.now } (s.advanceSet d short rest) d := State.useRoll_used ..

/-- An advance starts: its record, its roll, and the motion in flight or at rest at once (R30, R121, R126). -/
theorem startAdvance_frame (s : State) (d : Nat) (short : Bool) (rest : List Entry) :
    ∃ m, m.work = .advance d (s.advanceFigures d).1 false ∧ m.owner = .entry ∧ m.paused = false ∧ m.progressAt = s.now ∧
      ∃ low, (low = true ↔ s.feed.rollLow = true ∨ ∃ r, s.feed.rollRemaining = some r ∧ r - d < 1000000) ∧
        (s.startAdvance d short rest).wetEdge = s.wetEdge ∧
        (s.startAdvance d short rest).queue = (if (s.advanceFigures d).1 = 0 then rest else
          ⟨.advance d (some (s.advanceFigures d).1) (some (s.advanceFigures d).1) short, .active⟩ :: rest) ∧
        (s.startAdvance d short rest).feed = { s.feed with
          residue := (s.advanceFigures d).2
          target := s.feed.target.map fun t => min (t + (s.advanceFigures d).1) 4294967295
          rollRemaining := s.feed.rollRemaining.map (· - d), rollLow := low
          motion := if (s.advanceFigures d).1 = 0 then none else some m } ∧
        (s.startAdvance d short rest).out = { s.out with
          feed := if (s.advanceFigures d).1 = 0 then .stop else (s.startAdvance d short rest).out.feed } := by
  obtain ⟨m, reband, work, owner, paused, -, progress⟩ := Feed.reband_new (f := s.advanceFeed d) (now := s.now) rfl
  have used := s.advanceSet_used d short rest
  rw [reband] at used
  refine ⟨m, work, owner, paused, progress, (s.advanceSet d short rest).feed.rollLow, used.low, ?_⟩
  have motion : (s.advanceSet d short rest).feed.motion = some m := by rw [used.feed]
  rw [State.startAdvance_eq]
  by_cases zero : (s.advanceFigures d).1 = 0
  · obtain ⟨queue, wet, feed, out⟩ := State.advanceDone_frame motion work
    simp only [if_pos zero]
    rw [queue, wet, feed, out, used.queue, used.wetEdge, used.out, used.feed, owner]
    refine ⟨rfl, rfl, ?_, rfl⟩
    simp [Feed.advanced, State.advanceFeed, zero]
  · simp only [if_neg zero]
    rw [State.redrive_queue, State.redrive_feed, State.redrive_eq, State.driveFeed_eq]
    dsimp only
    rw [used.queue, used.wetEdge, used.out, used.feed]
    exact ⟨rfl, rfl, rfl, rfl⟩

theorem startAdvance_tells {s : State} {d r : Nat} (short : Bool) (rest : List Entry) (hr : s.feed.rollRemaining = some r)
    (below : r - d < 1000000) (high : s.feed.rollLow = false) (room : s.lane.events.length < 64) :
    ⟨s.now, .rollLow s.feed.source (r - d)⟩ ∈ (s.startAdvance d short rest).lane.events := by
  have told := (s.advanceSet_used d short rest).told r hr below high room
  rw [State.startAdvance_eq]
  split
  · exact (Senses.advanceDone _).lane.mem told
  · rw [State.redrive_eq]; exact told

/-- Settles O43. -/
theorem advanceStartTakesItsCounts : Obligations.AdvanceStartTakesItsCounts := by
  intro s d n r short rest hq x allowed
  have counts : (s.advanceFigures d).1 = x / 3000000 := rfl
  have residue : (s.advanceFigures d).2 = x % 3000000 := rfl
  have allowed_iff : (s.advanceHolds d).isEmpty = true ↔ allowed := by
    rw [State.advanceHolds_iff, State.advanceMedia_iff, counts]
  have step := advanceStart_eq hq
  refine ⟨fun no => step.trans (if_neg (mt allowed_iff.1 no)), fun yes => ?_⟩
  obtain ⟨t, ht, follows, after⟩ := ends_feeds (step.trans (if_pos (allowed_iff.2 yes))) (Feeds.startAdvance s d short rest)
  obtain ⟨m, work, owner, paused, progress, low, low_iff, wet, queue, feed, out⟩ := startAdvance_frame s d short rest
  rw [queue, wet, feed, out, ← after.out] at follows
  rw [counts] at work follows
  have ft : t.feed = _ := after.feed.trans feed
  refine ⟨t, ht, ⟨by rw [ft, residue], by rw [ft], by rw [ft]; exact low_iff, fun r hr below high =>
    tells_of_mem (fun room => startAdvance_tells short rest hr below high (by omega)) after⟩, fun some => ?_, fun zero => ?_⟩
  · rw [if_neg some, if_neg some, if_neg some] at follows
    rw [counts, if_neg some] at ft
    refine ⟨m, by rw [ft], ?_, work, owner, paused, progress⟩
    rw [ft]
    exact follows
  · rw [if_pos zero, if_pos zero, if_pos zero, zero] at follows
    rw [ft]
    exact follows

/-! ## CUT START (R31, R129, R131) -/

theorem State.dryDone_iff (s : State) : s.dryDone = true ↔ ∀ d, s.feed.dryExpiry = some d → d ≤ s.now := by
  unfold State.dryDone
  cases s.feed.dryExpiry <;> simp

theorem State.cutHolds_iff (s : State) : s.cutHolds.isEmpty = true ↔
    s.stop.set = false ∧ (∀ m, s.feed.motion = some m → m.owner ≠ .orphan) ∧ s.feed.cutter = .home ∧
      (s.feed.path = .ready ∨ s.feed.path = .tailOut) ∧ ∀ d, s.feed.dryExpiry = some d → d ≤ s.now := by
  rw [Holds.isEmpty_iff, ← State.orphanInFlight_eq_false, ← State.dryDone_iff]
  simp [State.cutHolds, and_assoc, or_iff_not_imp_left]

theorem cutStart_eq {s : State} {rest : List Entry} (hq : s.queue = ⟨.cut, .waiting⟩ :: rest) : exec .cutStart s =
    if s.cutHolds.isEmpty then
      if s.feed.onRoll then ends false s (s.startCut rest)
      else ends false s (({ s with queue := ⟨.cut, .active⟩ :: rest } : State).startEject .entry)
    else .next s := by
  show execCutStart s = _
  unfold execCutStart
  rw [hq]
  rfl

theorem State.startCut_frame (s : State) (rest : List Entry) : (s.startCut rest).wetEdge = s.wetEdge ∧ (s.startCut rest).feed =
    { s.feed with
      path := .cutting, beforeCut := s.feed.path, cutter := .cutting
      motion := some ((newMotion s.now (.cut 0 false) .entry).cutting s.now) } ∧
    (s.startCut rest).out = { s.out with cutter := .across } := by
  have now : (s.cutEntered rest).now = s.now := State.setFeed_now ..
  have feed : (s.cutEntered rest).feed = { s.feed with path := .cutting, beforeCut := s.feed.path } := State.setFeed_feed ..
  have out : (s.cutEntered rest).out = s.out := State.setFeed_out ..
  rw [State.startCut_eq, State.driveCut_eq, now, feed]
  refine ⟨State.setFeed_wetEdge .., rfl, ?_⟩
  show ({ (s.cutEntered rest).out with cutter := .across } : Outputs) = _
  rw [out]

theorem State.startOut_record (s : State) (p : PathState) (w : MotionWork) (o : Owner) : ∃ m,
    (s.startOut p w o).feed = { s.feed with path := p, pos := none, target := none, motion := some m } ∧
      m.work = w ∧ m.owner = o ∧ m.paused = false ∧ m.count = 0 := by
  obtain ⟨m, reband, work, owner, paused, count, -⟩ := Feed.reband_new (now := s.now) (w := w) (o := o)
    (f := { s.feed with path := p, pos := none, target := none, motion := some (newMotion s.now w o) }) rfl
  exact ⟨m, (s.startOut_feed p w o).trans reband, work, owner, paused, count⟩

theorem State.startOut_frame (s : State) (p : PathState) (w : MotionWork) (o : Owner) :
    (s.startOut p w o).wetEdge = s.wetEdge ∧ (s.startOut p w o).queue = s.queue ∧
      (s.startOut p w o).out = { s.out with feed := (s.startOut p w o).out.feed } := by
  refine ⟨s.startOut_wetEdge p w o, s.startOut_queue p w o, ?_⟩
  rw [State.startOut, State.redrive_eq, State.driveFeed_eq]
  dsimp only
  rw [State.setFeed_out]

/-- Settles O44. -/
theorem cutStartBeginsACutOrAnEject : Obligations.CutStartBeginsACutOrAnEject := by
  intro s rest hq allowed
  have step := cutStart_eq hq
  refine ⟨fun no => step.trans (if_neg (mt s.cutHolds_iff.1 no)), fun yes roll => ?cuts, fun yes sheet => ?ejects⟩
  all_goals rw [if_pos (s.cutHolds_iff.2 yes)] at step
  case cuts =>
    rw [if_pos (s.feed.onRoll_iff.2 roll)] at step
    obtain ⟨t, ht, follows, after⟩ := ends_feeds step (Feeds.startCut s rest)
    obtain ⟨wet, feed, out⟩ := s.startCut_frame rest
    rw [s.startCut_queue, wet, feed, out] at follows
    exact ⟨t, _, ht, follows, rfl, rfl, rfl⟩
  case ejects =>
    rw [if_neg (by rw [Feed.onRoll_iff]; rcases sheet with h | h <;> simp [h]), State.startEject_eq] at step
    have entered : Feeds 0 s (s.cutActive rest) := Feeds.write (Feeds.refl s)
    have feeds := entered.trans (Feeds.startOut (s.cutActive rest) .ejecting (.eject (if s.inactive 2 then some 0 else none)) .entry)
    have begins : exec .cutStart s = ends false s ((s.cutActive rest).startOut .ejecting
      (.eject (if s.inactive 2 then some 0 else none)) .entry) := step
    obtain ⟨t, ht, follows, after⟩ := ends_feeds begins feeds
    obtain ⟨wet, queue, out⟩ := State.startOut_frame (s.cutActive rest) .ejecting (.eject (if s.inactive 2 then some 0 else none)) .entry
    obtain ⟨m, feed, work, owner, paused, count⟩ :=
      State.startOut_record (s.cutActive rest) .ejecting (.eject (if s.inactive 2 then some 0 else none)) .entry
    rw [wet, queue, out, feed, ← after.out] at follows
    refine ⟨t, m, ht, follows, ?_, owner, paused, count⟩
    rw [work]
    simp [State.inactive]

/-! ## FEED ENCODER COUNT (R122, R123, R125) -/

/-- The motion as the encoder has moved it (R123). -/
def Motion.moved (m : Motion) (now : Nat) (dir : FeedCmd) (delta : Int) : Motion :=
  let forward := !m.paused && match dir with
    | .forward => decide (0 < delta)
    | .back => decide (delta < 0)
    | .stop => false
  { m with
    count := m.count + delta
    progressAt := if forward then now else m.progressAt
    heldAt := if forward then m.heldAt.map fun _ => now else m.heldAt }

/-- The feed position after an encoder report (R122). -/
def Feed.movedPos (f : Feed) (delta : Int) : Option Nat :=
  if f.path = .jammed then f.pos else f.pos.map fun p => min ((p : Int) + delta).toNat 4294967295

/-- An advance that stands at or beyond the tail position short of its target stops there (R125). -/
def Feed.tailWork (f : Feed) (pos : Option Nat) (w : MotionWork) : MotionWork :=
  match w, f.path, f.tail, f.target, pos with
  | .advance d n false, .tailOut, some t, some g, some p => if t ≤ p && t < g then .advance d n true else w
  | w, _, _, _, _ => w

theorem Feed.move_eq (f : Feed) (delta : Int) : f.move delta = { f with pos := f.movedPos delta } := by
  unfold Feed.move Feed.movedPos
  split <;> rfl

theorem Feed.stopAtTail_of_none {f : Feed} (h : f.motion = none) : f.stopAtTail = f := by
  unfold Feed.stopAtTail
  rw [h]

theorem Feed.with_motion {f : Feed} {m : Motion} (h : f.motion = some m) : f = { f with motion := some m } := by
  rw [← h]

theorem Feed.stopAtTail_of_some {f : Feed} {m : Motion} (h : f.motion = some m) :
    f.stopAtTail = { f with motion := some { m with work := f.tailWork f.pos m.work } } := by
  unfold Feed.stopAtTail
  rw [h]
  dsimp only
  split
  next d n t g p work path tail target pos =>
    have ends : f.tailWork f.pos m.work = if t ≤ p && t < g then .advance d n true else m.work := by
      simp only [Feed.tailWork, work, path, tail, target, pos]
    rw [ends]
    split
    · rfl
    · exact f.with_motion h
  next other =>
    have same : f.tailWork f.pos m.work = m.work := by
      unfold Feed.tailWork
      split
      next d n t g p work path tail target pos => exact absurd pos (other d n t g p work path tail target)
      next => rfl
    rw [same]
    exact f.with_motion h

/-- The record after an encoder report without a motion in flight. -/
theorem State.encoded_of_none {s : State} (h : s.feed.motion = none) (delta : Int) :
    s.encoded delta = { s.feed with pos := s.feed.movedPos delta, motion := none } := by
  have moved : s.feed.moveMotion s.now delta = { s.feed with motion := none } := by unfold Feed.moveMotion; rw [h]; rfl
  unfold State.encoded
  rw [moved, Feed.move_eq, Feed.stopAtTail_of_none rfl]
  rfl

/-- The record after an encoder report: the position moved, and the motion moved, stopped at the tail, and banded anew. -/
theorem State.encoded_of_some {s : State} {m : Motion} (h : s.feed.motion = some m) (delta : Int) :
    s.encoded delta = ({ s.feed with
      pos := s.feed.movedPos delta
      motion := some { m.moved s.now (s.feed.direction m) delta with work := s.feed.tailWork (s.feed.movedPos delta) m.work } } :
        Feed).reband s.now := by
  have moved : s.feed.moveMotion s.now delta = { s.feed with motion := some (m.moved s.now (s.feed.direction m) delta) } := by
    unfold Feed.moveMotion; rw [h]; rfl
  unfold State.encoded
  rw [moved, Feed.move_eq, Feed.stopAtTail_of_some rfl]
  rfl

theorem Feed.tailWork_cases (f : Feed) (pos : Option Nat) (w : MotionWork) :
    f.tailWork pos w = w ∨ ∃ d n, w = .advance d n false ∧ f.tailWork pos w = .advance d n true := by
  unfold Feed.tailWork
  split
  · split
    · exact .inr ⟨_, _, rfl, rfl⟩
    · exact .inl rfl
  · exact .inl rfl

theorem Feed.tailWork_kind (f : Feed) (pos : Option Nat) (w : MotionWork) : (f.tailWork pos w).kind = w.kind := by
  rcases f.tailWork_cases pos w with h | ⟨d, n, rfl, h⟩ <;> rw [h]
  rfl

/-- The motion of a record banded anew, field by field (R122, R123). -/
structure Banded (f : Feed) (now : Nat) (m m' : Motion) : Prop where
  work : m'.work = m.work
  owner : m'.owner = m.owner
  paused : m'.paused = m.paused
  count : m'.count = m.count
  since : m'.inBandSince.isSome = f.inBand m
  held : m'.heldAt.isSome = f.stallHeld m
  progress : f.stallHeld m = true ∨ m.heldAt = none ∨ m.heldAt = some now → m'.progressAt = m.progressAt

theorem Feed.reband_banded {f : Feed} {m : Motion} (h : f.motion = some m) (now : Nat) :
    ∃ m', f.reband now = { f with motion := some m' } ∧ Banded f now m m' := by
  refine ⟨_, by unfold Feed.reband; rw [h]; rfl, by simp, by simp, by simp, by simp, ?_, ?_, fun stands => ?_⟩
  · simp only [Motion.hold]
    cases f.stallHeld m <;> cases f.inBand m <;> rfl
  · simp only [Motion.hold]
    cases f.stallHeld m <;> rfl
  · simp only [Motion.hold]
    split
    · rfl
    next free =>
      rcases stands with held | none | now
      · exact absurd held free
      · simp [none]
      · simp [now]

theorem Feed.inBand_congr {f g : Feed} {m m' : Motion} (hp : g.pos = f.pos) (ht : g.tail = f.tail) (hg : g.target = f.target)
    (hw : m'.work = m.work) (hc : m'.count = m.count) : g.inBand m' = f.inBand m := by
  unfold Feed.inBand Feed.offTarget
  rw [hp, ht, hg, hw, hc]

/-- The motion in flight after an encoder report, field by field (R123, R125). -/
structure Encoded (s : State) (f : Feed) (delta : Int) (m m' : Motion) : Prop where
  record : f = { s.feed with pos := s.feed.movedPos delta, motion := some m' }
  work : m'.work = s.feed.tailWork (s.feed.movedPos delta) m.work
  owner : m'.owner = m.owner
  paused : m'.paused = m.paused
  count : m'.count = m.count + delta
  since : m'.inBandSince.isSome = f.inBand m'
  held : m'.heldAt.isSome = (m.paused || (decide (m.work.kind = .advance) && f.inBand m'))
  onward : m.paused = false → ((s.feed.direction m = .forward ∧ 0 < delta) ∨ (s.feed.direction m = .back ∧ delta < 0)) →
    m'.progressAt = s.now
  still : m.heldAt = none → delta = 0 → m'.progressAt = m.progressAt

theorem State.encoded_motion {s : State} {m : Motion} (h : s.feed.motion = some m) (delta : Int) :
    ∃ m', Encoded s (s.encoded delta) delta m m' := by
  obtain ⟨m', record, banded⟩ := Feed.reband_banded (now := s.now) (f := { s.feed with
    pos := s.feed.movedPos delta
    motion := some { m.moved s.now (s.feed.direction m) delta with work := s.feed.tailWork (s.feed.movedPos delta) m.work } }) rfl
  rw [State.encoded_of_some h, record]
  refine ⟨m', rfl, banded.work, banded.owner, banded.paused, banded.count, ?_, ?_, fun free onward => ?_, fun running zero => ?_⟩
  · rw [banded.since]
    exact (Feed.inBand_congr rfl rfl rfl banded.work banded.count).symm
  · rw [banded.held, Feed.stallHeld, Feed.tailWork_kind]
    rw [Feed.inBand_congr rfl rfl rfl banded.work banded.count]
    rfl
  · have moves : (m.moved s.now (s.feed.direction m) delta).progressAt = s.now ∧
        ((m.moved s.now (s.feed.direction m) delta).heldAt = none ∨ (m.moved s.now (s.feed.direction m) delta).heldAt = some s.now) := by
      rcases onward with ⟨dir, sign⟩ | ⟨dir, sign⟩ <;> cases held : m.heldAt <;> simp [Motion.moved, free, dir, sign, held]
    exact (banded.progress (.inr moves.2)).trans moves.1
  · have stands : (m.moved s.now (s.feed.direction m) delta).progressAt = m.progressAt ∧
        (m.moved s.now (s.feed.direction m) delta).heldAt = none := by
      cases s.feed.direction m <;> simp [Motion.moved, zero, running]
    exact (banded.progress (.inr (.inl stands.2))).trans stands.1

theorem State.encoder_frame (s : State) (delta : Int) : (s.encoder delta).wetEdge = s.wetEdge ∧
    (s.encoder delta).queue = ({ s with feed := s.encoded delta } : State).trackEntry.queue ∧
    (s.encoder delta).out = { s.out with feed := (s.encoder delta).out.feed } := by
  rw [State.encoder_eq, State.redrive_queue, State.redrive_eq, State.driveFeed_eq]
  dsimp only
  rw [State.trackEntry_eq]
  exact ⟨rfl, rfl, rfl⟩

/-- Without an advance of an entry in flight the queue stands (R122). -/
theorem State.trackEntry_stands {s : State} (h : ∀ m, s.feed.motion = some m → m.work.kind ≠ .advance ∨ m.owner ≠ .entry) :
    s.trackEntry.queue = s.queue := by
  unfold State.trackEntry
  split
  next hm _ _ _ => rcases h _ hm with other | other <;> exact absurd rfl other
  next => rfl

/-- The counts remaining of the head ADVANCE entry follow the feed (R122). -/
theorem State.trackEntry_follows {s : State} {m : Motion} {d p g : Nat} {n r : Option Nat} {short : Bool} {ph : Phase} {rest : List Entry}
    (hm : s.feed.motion = some m) (hk : m.work.kind = .advance) (ho : m.owner = .entry)
    (hq : s.queue = ⟨.advance d n r short, ph⟩ :: rest) (hp : s.feed.pos = some p) (hg : s.feed.target = some g) :
    s.trackEntry.queue = ⟨.advance d n (some (g - p)) short, ph⟩ :: rest := by
  obtain ⟨w, o, _, _, _, _, _⟩ := m
  cases ho
  cases w with
  | advance =>
    unfold State.trackEntry
    simp only [hm, hq, hp, hg]
  | load | cut | eject | unload => cases hk

/-- The motion after an encoder report is of the kind and owner of the motion before it. -/
theorem encoded_kind {s : State} {delta : Int} {m : Motion} (h : (s.encoded delta).motion = some m) :
    ∃ m0, s.feed.motion = some m0 ∧ m.owner = m0.owner ∧ m.paused = m0.paused ∧ m.work.kind = m0.work.kind := by
  cases hm : s.feed.motion with
  | none => rw [State.encoded_of_none hm] at h; cases h
  | some m0 =>
    obtain ⟨m', e⟩ := State.encoded_motion hm delta
    rw [e.record] at h
    cases h
    exact ⟨m0, rfl, e.owner, e.paused, by rw [e.work, Feed.tailWork_kind]⟩

/-- Settles O45: the record that an encoder report leaves, and the entry that follows it. -/
theorem feedPositionFollowsTheEncoder : Obligations.FeedPositionFollowsTheEncoder := by
  intro s delta
  obtain ⟨t, ht, follows, after⟩ := ends_feeds (c := .feedEncoderCount delta) rfl (Feeds.encoder s delta)
  obtain ⟨wet, queue, out⟩ := s.encoder_frame delta
  have feed : t.feed = s.encoded delta := after.feed.trans (s.encoder_feed delta)
  have bare := after.queue
  rw [queue] at bare
  rw [wet, s.encoder_feed, out, ← after.out] at follows
  have pos : t.feed.pos = s.feed.movedPos delta := by
    rw [feed]
    cases hm : s.feed.motion with
    | none => rw [State.encoded_of_none hm]
    | some m => obtain ⟨m', e⟩ := State.encoded_motion hm delta; rw [e.record]
  have record : s.encoded delta = { s.feed with pos := t.feed.pos, motion := t.feed.motion } := by
    rw [feed]
    cases hm : s.feed.motion with
    | none => rw [State.encoded_of_none hm]
    | some m => obtain ⟨m', e⟩ := State.encoded_motion hm delta; rw [e.record]
  have stands (h : ∀ m, s.feed.motion = some m → m.work.kind ≠ .advance ∨ m.owner ≠ .entry) :
      t.queue.map Entry.bare = s.queue.map Entry.bare := by
    rw [bare, State.trackEntry_stands]
    intro m hm
    obtain ⟨m0, h0, owner, -, kind⟩ := encoded_kind hm
    rw [kind, owner]
    exact h m0 h0
  refine ⟨t, ht, { record ▸ follows with queue := rfl }, pos, fun hm => ⟨?_, stands fun m h => ?_⟩, fun m hm other => stands fun m' h => ?_,
    fun m hm => ?motion, fun m d n a g p hm hw path tail target at_ => ?tail, fun m d n r ph short rest p g hm hk ho hq hp hg => ?entry⟩
  · rw [feed, State.encoded_of_none hm]
  · rw [hm] at h; cases h
  · rw [hm] at h; cases h; exact other
  case motion =>
    obtain ⟨m', e⟩ := State.encoded_motion hm delta
    rw [← feed] at e
    refine ⟨m', by rw [e.record], e.count, e.owner, e.paused, e.since, e.held, e.onward, e.still, ?_⟩
    rw [e.work]
    rcases s.feed.tailWork_cases (s.feed.movedPos delta) m.work with same | ⟨d, n, hw, ends⟩
    · exact .inl same
    · exact .inr ⟨d, n, hw, ends⟩
  case tail =>
    obtain ⟨m', e⟩ := State.encoded_motion hm delta
    refine ⟨m', by rw [feed, e.record], ?_⟩
    rw [e.work, hw, ← pos, at_]
    simp only [Feed.tailWork, path, tail, target]
    by_cases reached : a ≤ p ∧ a < g <;> simp [reached]
  case entry =>
    obtain ⟨m', e⟩ := State.encoded_motion hm delta
    have tracked := State.trackEntry_follows (s := { s with feed := s.encoded delta }) (m := m') (by rw [e.record])
      (by rw [e.work, Feed.tailWork_kind]; exact hk) (e.owner.trans ho) hq (by rw [← feed]; exact hp) (by rw [e.record]; exact hg)
    rw [bare, tracked]
    rfl

end Sys2Proof.Machine
end

section
/-!
PROOFS. What follows a step, said more closely than Follows says it: forming the supply states again places no CAP and takes none away, and
where the supply states are those of Table 4.1.2 it resumes no ladder and places refills alone; the gate withdraws CAPs and places refills.
No condition is raised but CAPACITY and EVENTS LOST (R58, R24, R27, R28, R106).
-/

-- One declaration at a time: side by side, the threads' stacks come near the memory limit of the check.
set_option Elab.async false

namespace Sys2Proof.Machine

/-! ## The relations -/

/-- Where the supply states are formed, from s to t they are formed again, every ladder stands, and only refills are placed. -/
structure Forms (s t : State) : Prop where
  supply : s.SupplyInv → t.SupplyInv
  ladders : s.SupplyInv → t.service.ladders = s.service.ladders
  requests : s.SupplyInv → ∀ q ∈ t.service.pending, q.op.refillChannel = none → q ∈ s.service.pending

theorem Forms.refl (s : State) : Forms s s := ⟨id, fun _ => rfl, fun _ _ h _ => h⟩

theorem Forms.trans {s t u : State} (h : Forms s t) (k : Forms t u) : Forms s u where
  supply hs := k.supply (h.supply hs)
  ladders hs := (k.ladders (h.supply hs)).trans (h.ladders hs)
  requests hs q hq ho := h.requests hs q (k.requests (h.supply hs) q hq ho) ho

/-- From s to t no CAP is placed. -/
def NoCap (s t : State) : Prop := ∀ q ∈ t.service.pending, q.op = .cap → q ∈ s.service.pending

/-- From s to t the CAPs that pend stand, and no condition is raised but EVENTS LOST. -/
structure CapsStand (s t : State) : Prop where
  noCap : NoCap s t
  caps : ∀ q ∈ s.service.pending, q.op = .cap → q ∈ t.service.pending
  clear : ∀ k, k ≠ .eventsLost → t.lane.conditions.latched k = s.lane.conditions.latched k

theorem CapsStand.refl (s : State) : CapsStand s s := ⟨fun _ h _ => h, fun _ h _ => h, fun _ _ => rfl⟩

theorem CapsStand.trans {s t u : State} (h : CapsStand s t) (k : CapsStand t u) : CapsStand s u where
  noCap q hq ho := h.noCap q (k.noCap q hq ho) ho
  caps q hq ho := k.caps q (h.caps q hq ho) ho
  clear c hc := (k.clear c hc).trans (h.clear c hc)

/-- What forming supply states again does. -/
structure Reforms (s t : State) : Prop extends Forms s t, CapsStand s t

theorem Reforms.refl (s : State) : Reforms s s := ⟨.refl s, .refl s⟩

theorem Reforms.trans {s t u : State} (h : Reforms s t) (k : Reforms t u) : Reforms s u :=
  ⟨h.toForms.trans k.toForms, h.toCapsStand.trans k.toCapsStand⟩

/-- What the gate does besides: it withdraws CAPs and raises CAPACITY. -/
structure Tends (s t : State) : Prop extends Forms s t where
  noCap : NoCap s t
  clear : ∀ k, k ≠ .eventsLost → k ≠ .capacity → t.lane.conditions.latched k = s.lane.conditions.latched k

theorem Tends.refl (s : State) : Tends s s := ⟨.refl s, fun _ h _ => h, fun _ _ _ => rfl⟩

theorem Tends.trans {s t u : State} (h : Tends s t) (k : Tends t u) : Tends s u :=
  ⟨h.toForms.trans k.toForms, fun q hq ho => h.noCap q (k.noCap q hq ho) ho, fun c h1 h2 => (k.clear c h1 h2).trans (h.clear c h1 h2)⟩

theorem Reforms.tends {s t : State} (h : Reforms s t) : Tends s t := ⟨h.toForms, h.noCap, fun k hk _ => h.clear k hk⟩

/-- What is written besides supply records, accounts, tables, ladders, requests and the lane leaves everything of this. -/
theorem Reforms.of_eq {s t : State} (supply : t.supply = s.supply := by rfl) (accounts : t.accounts = s.accounts := by rfl)
    (tables : t.tables = s.tables := by rfl) (ladders : t.service.ladders = s.service.ladders := by rfl)
    (pending : t.service.pending = s.service.pending := by rfl) (lane : t.lane = s.lane := by rfl) : Reforms s t where
  supply h := supplyInv_congr supply accounts tables h
  ladders _ := ladders
  requests _ q hq _ := by rw [← pending]; exact hq
  noCap q hq _ := by rw [← pending]; exact hq
  caps q hq _ := by rw [pending]; exact hq
  clear k _ := by rw [lane]

/-! ## Supply states -/

theorem CapsStand.raise (s : State) (e : Event) : CapsStand s (s.raise e) :=
  ⟨fun _ h _ => h, fun _ h _ => h, fun _ hk => Lane.raise_latched_iff _ _ _ hk⟩

theorem mem_place {s : State} {op : StationOp} {a : Option Nat} {o : Origins} {q : Request} (h : q ∈ (s.place op a o).service.pending) :
    q ∈ s.service.pending ∨ q = ⟨op, a, o⟩ ∨ ∃ p ∈ s.service.pending, p.op.matches op = true ∧ q = p.merge ⟨op, a, o⟩ :=
  mem_addRequest h

/-- A merge of matching requests is a refill exactly where they are, and a CAP exactly where they are. -/
theorem StationOp.merge_refill {a b : StationOp} (h : a.matches b = true) : (a.merge b).refillChannel = b.refillChannel := by
  cases a <;> cases b <;> simp_all [StationOp.matches, StationOp.merge, StationOp.refillChannel]

theorem StationOp.merge_ne_cap {a b : StationOp} (h : a.matches b = true) (hb : b ≠ .cap) : a.merge b ≠ .cap := by
  have ha := StationOp.not_cap_of_matches h hb
  cases a <;> cases b <;> simp_all [StationOp.merge]

theorem mem_addRequest_of_unmatched {r q : Request} {l : List Request} (hq : q ∈ l) (h : q.op.matches r.op = false) :
    q ∈ addRequest r l := by
  induction l with
  | nil => cases hq
  | cons p ps ih =>
    unfold addRequest
    split
    next hm =>
      rcases List.mem_cons.1 hq with rfl | hq
      · rw [h] at hm; cases hm
      · exact List.mem_cons_of_mem _ hq
    next =>
      rcases List.mem_cons.1 hq with rfl | hq
      · exact List.mem_cons_self ..
      · exact List.mem_cons_of_mem _ (ih hq)

/-- Placing a request other than a CAP leaves the CAPs. -/
theorem CapsStand.place (s : State) {op : StationOp} (h : op ≠ .cap) (a : Option Nat) (o : Origins) : CapsStand s (s.place op a o) where
  noCap q hq ho := by
    rcases mem_place hq with old | rfl | ⟨p, -, hm, rfl⟩
    · exact old
    · exact absurd ho h
    · exact absurd ho (StationOp.merge_ne_cap hm h)
  caps q hq ho := mem_addRequest_of_unmatched hq (by
    rw [Bool.eq_false_iff]
    exact fun hm => absurd ho (StationOp.not_cap_of_matches hm h))
  clear _ _ := rfl

/-- A request that is no refill pends after a refill is placed only where it did before. -/
theorem place_refill_requests {s : State} {op : StationOp} (h : op.refillChannel ≠ none) {a : Option Nat} {o : Origins} {q : Request}
    (hq : q ∈ (s.place op a o).service.pending) (ho : q.op.refillChannel = none) : q ∈ s.service.pending := by
  rcases mem_place hq with old | rfl | ⟨p, -, hm, rfl⟩
  · exact old
  · exact absurd ho h
  · exact absurd ((StationOp.merge_refill hm).symm.trans ho) h

theorem Reforms.placeRefill (s : State) {op : StationOp} (h : op.refillChannel ≠ none) (a : Option Nat) (o : Origins) :
    Reforms s (s.place op a o) := by
  exact ⟨⟨fun hs => supplyInv_congr rfl rfl rfl hs, fun _ => rfl, fun _ q hq ho => place_refill_requests h hq ho⟩,
    .place s (by rintro rfl; exact h rfl) a o⟩

theorem RefillKind.op_refill (k : RefillKind) (c : Channel) : (k.op c).refillChannel ≠ none := by cases k <;> nofun

theorem LadderState.stepOp_ne_cap (st : LadderState) (c : Channel) : st.stepOp c ≠ some .cap := by
  cases st <;> simp [LadderState.stepOp]

theorem LadderState.asks_cap (st : LadderState) (c : Channel) : st.asks c .cap = false := by
  simp [LadderState.asks, st.stepOp_ne_cap c]

theorem CapsStand.dropAsked (s : State) (c : Channel) (st : LadderState) : CapsStand s (s.dropAsked c st) where
  noCap q hq ho := by
    obtain ⟨r, hr, e⟩ := List.mem_filterMap.1 hq
    split at e
    next asked =>
      rw [← Request.withoutLadder_op e, ho, LadderState.asks_cap] at asked
      simp at asked
    next => cases e; exact hr
  caps q hq ho := by
    refine List.mem_filterMap.2 ⟨q, hq, if_neg ?_⟩
    rw [ho, LadderState.asks_cap]
    simp
  clear _ _ := rfl

/-- A ladder record written, before what its change calls for. -/
def State.laddered (s : State) (c : Channel) (l : Ladder) : State :=
  { s with service := { s.service with ladders := setAt s.service.ladders c l } }

theorem State.setLadder_eq (s : State) (c : Channel) (l : Ladder) : s.setLadder c l =
    let old := s.service.ladders[c]
    let told := if old.state ≠ l.state ∨ old.phase ≠ l.phase then (s.laddered c l).raise (l.event c) else s.laddered c l
    if old.state ≠ l.state then told.dropAsked c old.state else told := rfl

/-- Writing a ladder leaves the CAPs. -/
theorem CapsStand.setLadder (s : State) (c : Channel) (l : Ladder) : CapsStand s (s.setLadder c l) := by
  have written : CapsStand s (s.laddered c l) := ⟨fun _ h _ => h, fun _ h _ => h, fun _ _ => rfl⟩
  rw [State.setLadder_eq]
  dsimp only
  split_ifs
  · exact (written.trans (.raise ..)).trans (.dropAsked ..)
  · exact written.trans (.dropAsked ..)
  · exact written.trans (.raise ..)
  · exact written

theorem CapsStand.placeStep (s : State) (c : Channel) (st : LadderState) (ph : LadderPhase) : CapsStand s (s.placeStep c st ph) := by
  unfold State.placeStep
  split
  next _ op h => exact .place s (fun e => st.stepOp_ne_cap c (e ▸ h)) none byLadder
  next => exact .refl s
  next => exact .place s (op := .check (channelSingle c)) (by simp) none byLadder

theorem CapsStand.resumeLadder (s : State) (c : Channel) : CapsStand s (s.resumeLadder c) := by
  simp only [State.resumeLadder]
  split
  next => exact (CapsStand.setLadder ..).trans (.placeStep ..)
  next => exact .refl s

/-- A channel that became LOW places a REFILL where its cartridge can supply (R59). -/
def State.lowPlaced (s : State) (c : Channel) (st : SupplyState) : State :=
  if st = .low ∧ s.canSupply c then s.place (.refill c) none bySupply else s

theorem State.reformSupply_eq (s : State) (c : Channel) : s.reformSupply c =
    if s.formedSupply c = s.supply[c].state then s
    else State.lowPlaced (if s.supply[c].state = .starved then (s.supplyTold c).resumeLadder c else s.supplyTold c) c
      (s.formedSupply c) := rfl

/-- A supply state formed again leaves the CAPs. -/
theorem CapsStand.reformSupply (s : State) (c : Channel) : CapsStand s (s.reformSupply c) := by
  have told : CapsStand s (s.supplyTold c) := ⟨fun _ h _ => h, fun _ h _ => h, fun _ hk => Lane.raise_latched_iff _ _ _ hk⟩
  have low (u : State) (st : SupplyState) : CapsStand u (u.lowPlaced c st) := by
    unfold State.lowPlaced
    split
    · exact .place u (op := .refill c) (by simp) none bySupply
    · exact .refl u
  rw [State.reformSupply_eq]
  split
  · exact .refl s
  · split
    · exact (told.trans (.resumeLadder ..)).trans (low ..)
    · exact told.trans (low ..)

/-- A supply state formed already is not told again. -/
theorem State.reformSupply_of_formed {s : State} {c : Channel} (h : s.Formed c) : s.reformSupply c = s := by
  rw [State.reformSupply_eq, if_pos h.symm]

theorem foldl_reformSupply_of_formed {s : State} (h : s.SupplyInv) (l : List Channel) : l.foldl State.reformSupply s = s := by
  induction l with
  | nil => rfl
  | cons c l ih => rw [List.foldl_cons, State.reformSupply_of_formed (h c), ih]

theorem State.reformAll_of_formed {s : State} (h : s.SupplyInv) : s.reformAll = s := foldl_reformSupply_of_formed h channels

theorem Reforms.reformAll (s : State) : Reforms s s.reformAll where
  supply h := by rw [State.reformAll_of_formed h]; exact h
  ladders h := by rw [State.reformAll_of_formed h]
  requests h := by rw [State.reformAll_of_formed h]; exact fun q hq _ => hq
  toCapsStand := foldl_keeps (P := CapsStand s) (fun t c h => h.trans (.reformSupply t c)) (.refl s) channels

/-! ## The gate -/

/-- Forming a channel's supply state again, where it resumes no ladder, places refills alone. -/
theorem reformSupply_requests {s : State} {c : Channel}
    (h : s.formedSupply c ≠ s.supply[c].state → s.supply[c].state ≠ .starved ∨ s.service.ladders[c].state ≠ .suspended) :
    (s.reformSupply c).service.ladders = s.service.ladders ∧
      ∀ q ∈ (s.reformSupply c).service.pending, q.op.refillChannel = none → q ∈ s.service.pending := by
  refine ⟨(State.reformSupply_raised h).2, ?_⟩
  rcases s.reformSupply_cases c with e | ⟨hne, e⟩
  · rw [e]; exact fun q hq _ => hq
  · rcases e (h hne) with e | e <;> rw [e]
    · exact fun q hq _ => hq
    · exact fun q hq ho => place_refill_requests (s := s.supplyTold c) (by nofun) hq ho

theorem CapsStand.requestRefill (s : State) (c : Channel) (k : RefillKind) (a : Option Nat) (o : Origins) :
    CapsStand s (s.requestRefill c k a o) := by
  rcases s.requestRefill_cases c k a o with e | ⟨-, e⟩ | ⟨-, e⟩ <;> rw [e]
  · exact .refl s
  · exact .place s (fun h => RefillKind.op_refill _ c (by rw [h]; rfl)) ..
  · exact ⟨fun _ h _ => h, fun _ h _ => h, fun _ _ => rfl⟩

/-- A refill request leaves the ladders, and of the requests it places a refill alone (R60). -/
theorem requestRefill_requests (s : State) (c : Channel) (k : RefillKind) (a : Option Nat) (o : Origins) :
    (s.requestRefill c k a o).service.ladders = s.service.ladders ∧
      ∀ q ∈ (s.requestRefill c k a o).service.pending, q.op.refillChannel = none → q ∈ s.service.pending := by
  rcases s.requestRefill_cases c k a o with e | ⟨-, e⟩ | ⟨-, e⟩ <;> rw [e]
  · exact ⟨rfl, fun q hq _ => hq⟩
  · exact ⟨rfl, fun q hq ho => place_refill_requests (RefillKind.op_refill _ c) hq ho⟩
  · exact ⟨rfl, fun q hq _ => hq⟩

/-- A refill request of the gate or a prime, with the supply state it leaves formed again (R60, R58). -/
theorem Reforms.requestReform (s : State) (c : Channel) (k : RefillKind) (a : Option Nat) (o : Origins) :
    Reforms s ((s.requestRefill c k a o).reformSupply c) := by
  obtain ⟨ladders, requests⟩ := requestRefill_requests s c k a o
  have quiet (hs : s.SupplyInv) : (s.requestRefill c k a o).formedSupply c ≠ (s.requestRefill c k a o).supply[c].state →
      (s.requestRefill c k a o).supply[c].state ≠ .starved ∨ (s.requestRefill c k a o).service.ladders[c].state ≠ .suspended := by
    refine fun hne => .inl fun starved => hne ?_
    rw [starved]
    rcases s.requestRefill_cases c k a o with e | ⟨-, e⟩ | ⟨-, e⟩ <;> rw [e] at starved ⊢
    · exact (hs c).symm.trans starved
    · exact (hs c).symm.trans starved
    · have was : s.formedSupply c = .starved := by
        rw [← hs c]
        simpa [State.recordNeed, -Fin.getElem_fin, getElem_modifyAt] using starved
      obtain ⟨mark, refill, -⟩ := State.formedSupply_eq_starved.1 was
      refine State.formedSupply_eq_starved.2 ⟨?_, ?_, ?_⟩ <;> simp [State.recordNeed, -Fin.getElem_fin, getElem_modifyAt, mark, refill]
  refine ⟨⟨fun hs => hs.requestReform c k a o, fun hs => ?_, fun hs q hq ho => ?_⟩, (CapsStand.requestRefill s c k a o).trans (.reformSupply ..)⟩
  · exact (reformSupply_requests (quiet hs)).1.trans ladders
  · exact requests q ((reformSupply_requests (quiet hs)).2 q hq ho) ho

theorem Reforms.gateRequest (s : State) (t : InkTest) (c : Channel) : Reforms s (s.gateRequest t c) := by
  unfold State.gateRequest
  split
  · exact .requestReform ..
  · exact .requestReform ..
  · exact .refl s

theorem Lane.raiseCondition_latched_ne (now : Nat) (r : CondRaise) (l : Lane) {k : Condition} (h1 : k ≠ .eventsLost)
    (h2 : k ≠ r.condition) : (l.raiseCondition now r).conditions.latched k = l.conditions.latched k := by
  unfold Lane.raiseCondition
  split
  · rfl
  · rw [Lane.raise_latched_iff _ _ _ h1, Conditions.latched_put, if_neg h2]

theorem Tends.reportCapacity (s : State) (sl : Slot) (i : SlotIx) (rep : Bool) (rest : List Entry) :
    Tends s (s.reportCapacity sl i rep rest) := by
  unfold State.reportCapacity
  split
  · exact ⟨⟨fun h => h, fun _ => rfl, fun _ _ h _ => h⟩, fun _ h _ => h,
      fun k h1 h2 => Lane.raiseCondition_latched_ne _ _ _ h1 h2⟩
  · exact .refl s

theorem Tends.askPass (s : State) : Tends s s.askPass where
  supply h := h
  ladders _ := rfl
  requests _ q hq _ := (List.mem_filter.1 hq).1
  noCap q hq _ := (List.mem_filter.1 hq).1
  clear _ _ _ := rfl

/-- The hold set and the pass flag are written besides. -/
theorem Tends.holds {s u : State} (h : Tends s u) (x : Holds) (b : Bool) :
    Tends s { u with holds := x, service := { u.service with passAsked := b } } := ⟨⟨h.supply, h.ladders, h.requests⟩, h.noCap, h.clear⟩

theorem Tends.evaluate (s : State) : Tends s s.evaluate := by
  unfold State.evaluate
  split
  next i rep rest _ =>
    have sent : Tends s (s.inkSent i rep rest) := foldl_keeps (P := Tends s) (fun t c h => h.trans (Reforms.gateRequest t _ c).tends)
      (.reportCapacity ..) channels
    have held : Tends s ((s.inkSent i rep rest).held (s.swathHolds s.slots[i])) := ⟨⟨sent.supply, sent.ladders, sent.requests⟩, sent.noCap,
      sent.clear⟩
    rw [State.evaluateSwath_eq]
    split
    · exact held.trans (.askPass _)
    · exact ⟨⟨held.supply, held.ladders, held.requests⟩, held.noCap, held.clear⟩
  next =>
    unfold State.evaluateAdvance
    dsimp only
    split
    · exact ⟨⟨fun h => h, fun _ => rfl, fun _ _ h _ => h⟩, fun _ h _ => h, fun k h1 _ => Lane.raise_latched_iff _ _ _ h1⟩
    · exact ⟨⟨fun h => h, fun _ => rfl, fun _ _ h _ => h⟩, fun _ h _ => h, fun _ _ _ => rfl⟩
  · exact ⟨⟨fun h => h, fun _ => rfl, fun _ _ h _ => h⟩, fun _ h _ => h, fun _ _ _ => rfl⟩
  · exact .refl s

theorem Reforms.idleGate (s : State) : Reforms s s.idleGate := by
  unfold State.idleGate
  split
  · exact .of_eq
  · split
    · exact .of_eq
    · split
      · exact .refl s
      · exact .of_eq

/-! ## The end of a step -/

/-- What the settling of every step tends to. -/
theorem Tends.settle (force : Bool) (s0 s : State) : Tends s (State.settle force s0 s) := by
  have gate : Tends s ((s.reformAll).runGate force s0) :=
    State.runGate_keeps (P := Tends s) (fun t h => h.trans (.evaluate t)) ((Reforms.reformAll s).trans (.idleGate _)).tends force s0
  exact ⟨⟨gate.supply, gate.ladders, gate.requests⟩, gate.noCap, gate.clear⟩

theorem State.evaluate_of_empty {s : State} (h : s.queue = []) : s.evaluate = s := by
  unfold State.evaluate
  rw [h]

theorem State.evaluateAgain_of_empty (n : Nat) {s : State} (h : s.queue = []) : State.evaluateAgain n s = s := by
  cases n with
  | zero => rfl
  | succ n =>
    unfold State.evaluateAgain
    rw [State.evaluate_of_empty h]
    exact if_pos rfl

/-- With the queue empty the gate has nothing to evaluate (R24). -/
theorem State.runGate_of_empty {s : State} (h : s.queue = []) (force : Bool) (s0 : State) : s.runGate force s0 = s.idleGate := by
  have queue : s.idleGate.queue = [] := by unfold State.idleGate; rw [h]
  unfold State.runGate
  dsimp only
  split
  · exact State.evaluateAgain_of_empty 3 queue
  · rfl

/-- With the queue empty, the settling of a step leaves CAPs and every condition but EVENTS LOST. -/
theorem Reforms.settle_of_empty {s : State} (h : s.queue = []) (force : Bool) (s0 : State) : Reforms s (State.settle force s0 s) := by
  have queue : s.reformAll.queue = [] := (Quiet.reformAll s).queue.trans h
  have gate : Reforms s ((s.reformAll).runGate force s0) := by
    rw [State.runGate_of_empty queue]
    exact (Reforms.reformAll s).trans (.idleGate _)
  exact gate.trans .of_eq

/-- The frame chosen for the return direction changes no condition. -/
theorem Lane.choose_latched (now : Nat) (l : Lane) (k : Condition) : (l.choose now).conditions.latched k = l.conditions.latched k := by
  unfold Lane.choose
  split
  · split <;> rfl
  · rfl

/-- What every step tends to. -/
theorem Tends.finish (force : Bool) (s0 s : State) : Tends s (State.finish force s0 s) := by
  have h := Tends.settle force s0 s
  rw [State.finish_eq]
  exact ⟨⟨h.supply, h.ladders, h.requests⟩, h.noCap, fun k h1 h2 => (Lane.choose_latched ..).trans (h.clear k h1 h2)⟩

theorem Reforms.finish_of_empty {s : State} (h : s.queue = []) (force : Bool) (s0 : State) : Reforms s (State.finish force s0 s) := by
  have r := Reforms.settle_of_empty h force s0
  rw [State.finish_eq]
  exact ⟨⟨r.supply, r.ladders, r.requests⟩, r.noCap, r.caps, fun k h1 => (Lane.choose_latched ..).trans (r.clear k h1)⟩

end Sys2Proof.Machine
end

section
/-!
PROOFS. Family 13, station and cartridge requests: WIPE, PRIME, CHECK NOZZLES and CAP (R110), FILL TO MARK (R67), TAG READ (R76) and
RESET LADDER (R116).
-/

-- One declaration at a time: side by side, the threads' stacks come near the memory limit of the check.
set_option Elab.async false

namespace Sys2Proof.Machine

/-! ## Requests placed (R110) -/

/-- A request answered by its block ends in the state that its reply leaves. -/
theorem served_finish {c : Instr} {s u : State} {k tag : Byte} {body : List Byte} {act : List Byte → State → Answer} {o : ReplyOutcome}
    {d : ReplyData} (h : s.asks k tag body) (hc : exec c s = serve (ofKind k) act s) (ha : act body s.popped = ⟨u, o, d⟩) :
    exec c s = .next (State.finish false s (u.replied k tag o d)) := by
  have step := hc.trans (serveWith_of_asks h false _ (ofKind_self ..) act)
  have ha' : act body { s with lane := s.lane.pop } = ⟨u, o, d⟩ := ha
  rw [ha'] at step
  exact step

theorem State.replied_pending (u : State) (k tag : Byte) (o : ReplyOutcome) (d : ReplyData) :
    (u.replied k tag o d).service.pending = u.service.pending := rfl

theorem State.replied_queue (u : State) (k tag : Byte) (o : ReplyOutcome) (d : ReplyData) : (u.replied k tag o d).queue = u.queue := rfl

theorem oneByte_some {α : Type} {read : Byte → Option α} {act : α → State → Answer} {b : Byte} {x : α} (h : read b = some x) (u : State) :
    oneByte read act [b] u = act x u := by unfold oneByte; simp only [h]

theorem oneByte_none {α : Type} {read : Byte → Option α} {act : α → State → Answer} {b : Byte} (h : read b = none) (u : State) :
    oneByte read act [b] u = .refuse u .range := by unfold oneByte; simp only [h]

/-- A request that some pending one stands for is stood for after what follows. -/
theorem Follows.covers {x t : State} (h : Follows x t) {r : Request} (hr : r.op ≠ .cap) (hx : ∃ q ∈ x.service.pending, q.covers r) :
    ∃ q ∈ t.service.pending, q.covers r := by
  obtain ⟨p, hp, hc⟩ := hx
  obtain ⟨q, hq, hqp⟩ := h.requests p hp (StationOp.not_cap_of_matches hc.1 hr)
  exact ⟨q, hq, Request.covers_trans hqp hc⟩

/-- A request done by placing an operation pends for it. -/
theorem served_places {c : Instr} {s : State} {k tag : Byte} {body : List Byte} {act : List Byte → State → Answer} {op : StationOp}
    (h : s.asks k tag body) (hc : exec c s = serve (ofKind k) act s) (hop : op ≠ .cap)
    (ha : act body s.popped = .done (s.popped.place op none byFormatter)) :
    ∃ t, exec c s = .next t ∧ Follows (s.answered k tag .done) t ∧ ∃ q ∈ t.service.pending, q.covers ⟨op, none, byFormatter⟩ := by
  obtain ⟨t, ht, follows, after⟩ := served_follows h hc ha (.place ..)
  exact ⟨t, ht, follows, after.covers hop (State.place_covers s.popped op none byFormatter)⟩

theorem byteHead_eq_none {b : Byte} (h : 3 ≤ b.toNat) : byteHead b = none := dif_neg (by omega)

theorem byteHead_eq_some {b : Byte} {x : Head} (h : b.toNat = x.val) : byteHead b = some x := by simp [byteHead, h]

theorem kindOf_eq_none {t : Tables} {c : Channel} : t.kindOf c = none ↔ t.channel[c].kind = none := by simp [Tables.kindOf]

/-- PRIME is placed where an ink kind is bound, and refused otherwise. -/
theorem askPrime_eq (c : Channel) (u : State) :
    askPrime c u = if u.tables.channel[c].kind = none then .refuse u .state else .done (u.place (.prime c) none byFormatter) := by
  unfold askPrime
  split
  next _ h => rw [if_neg (fun none => by rw [kindOf_eq_none.2 none] at h; cases h)]
  next h => rw [if_pos (kindOf_eq_none.1 h)]

/-! ## CAP (R110) -/

theorem Request.op_of_covers_cap {q : Request} {a : Option Nat} {o : Origins} (h : q.covers ⟨.cap, a, o⟩) : q.op = .cap := by
  have := h.1
  cases hop : q.op <;> simp_all [StationOp.matches, StationOp.refillChannel]

section

variable {s : State} {tag : Byte} (h : s.asks 0x10#8 tag [])
include h

theorem cap_done : Runs .cap s (s.answered 0x10#8 tag .done) := by
  have hc : exec .cap s = serve (ofKind 0x10#8) (noBody askCap) s := rfl
  by_cases wants : (!s.service.capped || s.service.uncapInFlight) = true
  · obtain ⟨t, ht, follows, -⟩ := served_follows (x := s.popped.place .cap none byFormatter) h hc (if_pos wants) (.place ..)
    exact ⟨t, ht, follows⟩
  · obtain ⟨t, ht, follows, -⟩ := served_follows (x := s.popped) h hc (if_neg wants) (.refl _)
    exact ⟨t, ht, follows⟩

/-- The gate withdraws no CAP where the queue is empty. -/
theorem cap_placed (queue : s.queue = []) (wants : s.service.capped = false ∨ s.service.uncapInFlight = true) :
    ∃ t, exec .cap s = .next t ∧ ∃ q ∈ t.service.pending, q.covers ⟨.cap, none, byFormatter⟩ := by
  have taken : noBody askCap [] s.popped = .done (s.popped.place .cap none byFormatter) := by
    refine if_pos ?_
    show (!s.service.capped || s.service.uncapInFlight) = true
    rcases wants with w | w <;> simp [w]
  obtain ⟨q, hq, hc⟩ := State.place_covers s.popped .cap none byFormatter
  have empty : (s.popped.place .cap none byFormatter).queue = [] := queue
  generalize s.popped.place .cap none byFormatter = x at taken hq empty
  have stand := (Reforms.finish_of_empty (s := x.replied 0x10#8 tag .done) empty false s).caps
  refine ⟨_, served_finish (c := .cap) (act := noBody askCap) h rfl taken, ?_⟩
  have isCap := Request.op_of_covers_cap hc
  exact ⟨q, stand q hq isCap, hc⟩

theorem cap_dropped (capped : s.service.capped = true) (settled : s.service.uncapInFlight = false)
    (none : ∀ q ∈ s.service.pending, q.op ≠ .cap) : ∃ t, exec .cap s = .next t ∧ ∀ q ∈ t.service.pending, q.op ≠ .cap := by
  have taken : noBody askCap [] s.popped = .done s.popped := by
    refine if_neg ?_
    show ¬ (!s.service.capped || s.service.uncapInFlight) = true
    simp [capped, settled]
  have stand := (Tends.finish false s (s.popped.replied 0x10#8 tag .done)).noCap
  exact ⟨_, served_finish (c := .cap) (act := noBody askCap) h rfl taken, fun q hq isCap => none q (stand q hq isCap) isCap⟩

end

/-- Settles O18. -/
theorem stationRequestsWaitPending : Obligations.StationRequestsWaitPending := by
  refine fun s tag b => ⟨fun h => ?wipe, fun h => ?prime, fun h => ?check, fun h => ⟨cap_done h, cap_placed h, cap_dropped h⟩⟩
  case wipe =>
    exact ⟨fun bad => runs_refused (c := .wipe) h rfl (oneByte_none (byteHead_eq_none bad) _),
      fun x hx => served_places (c := .wipe) h rfl nofun (oneByte_some (byteHead_eq_some hx) _)⟩
  case prime =>
    have hc : exec .prime s = serve (ofKind 0x0E#8) (oneByte byteChannel askPrime) s := rfl
    refine ⟨fun bad => runs_refused h hc (oneByte_none (byteChannel_eq_none bad) _), fun c hx => ⟨fun unbound => ?_, fun bound => ?_⟩⟩
    · exact runs_refused h hc (by rw [oneByte_some (byteChannel_eq_some hx), askPrime_eq]; exact if_pos unbound)
    · exact served_places h hc nofun (by rw [oneByte_some (byteChannel_eq_some hx), askPrime_eq]; exact if_neg bound)
  case check =>
    exact ⟨fun bad => runs_refused (c := .checkNozzles) h rfl (oneByte_none (if_pos bad) _),
      fun low high => served_places (c := .checkNozzles) h rfl nofun (oneByte_some (if_neg (by omega)) _)⟩

/-! ## FILL TO MARK and TAG READ (R67, R76) -/

/-- A FILL TO MARK of the formatter is placed under the fault mark too (R60). -/
theorem requestRefill_fill {s : State} {c : Channel} (h : s.canSupply c = true) :
    s.requestRefill c .fill none byFormatter = s.place (.fillToMark c) none byFormatter := by
  simp [State.requestRefill, byFormatter, h]
  rfl

theorem State.canSupply_iff (s : State) (c : Channel) :
    s.canSupply c = true ↔ s.carts[c].state = .accepted ∨ s.carts[c].state = .low := by
  unfold State.canSupply
  cases s.carts[c].state <;> simp [CartState.canSupply]

/-- A cartridge that could not supply and cannot still is written alone. -/
theorem State.setCart_quiet {s : State} {c : Channel} {r : Cartridge} (was : s.canSupply c = false) (is : r.state.canSupply = false) :
    s.setCart c r false = { s with carts := setAt s.carts c r } := by
  simp [State.setCart, was, is]

theorem tagRead_begins {s : State} {tag b : Byte} {c : Channel} (h : s.asks 0x14#8 tag [b]) (hb : b.toNat = c.val)
    (state : s.carts[c].state = .rejected ∨ s.carts[c].state = .tagFault) :
    Runs .tagRead s (({ s with carts := setAt s.carts c { s.carts[c] with
      state := .reading, reject := none, link := some (.read, s.now + 20) } } : State).answered 0x14#8 tag .done) := by
  have quiet : s.popped.beginInsertion c = { s.popped with carts := setAt s.carts c { s.carts[c] with
      state := .reading, reject := none, link := some (.read, s.now + 20) } } := by
    refine State.setCart_quiet ?_ rfl
    rw [Bool.eq_false_iff, ne_eq, State.canSupply_iff]
    show ¬ (s.carts[c].state = .accepted ∨ s.carts[c].state = .low)
    rcases state with h | h <;> rw [h] <;> decide
  have begins : oneByte byteChannel askTagRead [b] s.popped = .done (s.popped.beginInsertion c) := by
    rw [oneByte_some (byteChannel_eq_some hb)]
    unfold askTagRead
    have same : s.popped.carts[c].state = s.carts[c].state := rfl
    rcases state with e | e <;> rw [same, e]
  rw [quiet] at begins
  exact served_done h (c := .tagRead) rfl begins

/-- Settles O19. -/
theorem cartridgeRequestsStartFillAndReading : Obligations.CartridgeRequestsStartFillAndReading := by
  refine fun s tag b => ⟨fun h => ?fill, fun h => ?read⟩
  case fill =>
    have hc : exec .fillToMark s = serve (ofKind 0x11#8) (oneByte byteChannel askFill) s := rfl
    refine ⟨fun bad => runs_refused h hc (oneByte_none (byteChannel_eq_none bad) _), fun c hb => ⟨fun h1 h2 => ?_, fun able => ?_⟩⟩
    · refine runs_refused h hc ((oneByte_some (byteChannel_eq_some hb) _).trans (if_neg ?_))
      exact fun able => ((State.canSupply_iff s c).1 able).elim h1 h2
    · have able := (State.canSupply_iff s.popped c).2 able
      exact served_places h hc nofun
        ((oneByte_some (byteChannel_eq_some hb) _).trans ((if_pos able).trans (congrArg Answer.done (requestRefill_fill able))))
  case read =>
    have hc : exec .tagRead s = serve (ofKind 0x14#8) (oneByte byteChannel askTagRead) s := rfl
    have same (c : Channel) : s.popped.carts[c].state = s.carts[c].state := rfl
    refine ⟨fun bad => runs_refused h hc (oneByte_none (byteChannel_eq_none bad) _), fun c hb => ⟨fun st => ?_, fun st => ?_, fun st => ?_⟩⟩
    · refine runs_refused h hc ((oneByte_some (byteChannel_eq_some hb) _).trans ?_)
      simp only [List.mem_cons, List.not_mem_nil, or_false] at st
      unfold askTagRead
      rcases st with e | e | e | e <;> rw [same, e]
    · refine runs_refused h hc ((oneByte_some (byteChannel_eq_some hb) _).trans ?_)
      unfold askTagRead
      rw [same, st]
    · exact tagRead_begins h hb (by simpa using st)

/-! ## RESET LADDER (R116) -/

theorem withoutLadder_eq_some {r : Request} (h : ({ r.origins with ladder := false } : Origins).isEmpty = false) :
    r.withoutLadder = some { r with origins := { r.origins with ladder := false } } := by
  exact if_neg (by rw [h]; exact Bool.false_ne_true)

/-- What a request becomes where LADDER may be taken from its origins. -/
def Request.LessLadder (q r : Request) : Prop := q = r ∨ q = { r with origins := { r.origins with ladder := false } }

theorem Request.LessLadder.covers {q r : Request} (h : q.LessLadder r) : q.covers { r with origins := { r.origins with ladder := false } } := by
  rcases h with rfl | rfl
  · obtain ⟨h1, h2, -, h4⟩ := q.covers_self
    exact ⟨h1, h2, by simp [Origins.union], h4⟩
  · exact Request.covers_self _

/-- A request with another origin keeps it where LADDER is taken. -/
theorem mem_dropLadder_less {s : State} {p : StationOp → Bool} {q r : Request} (hq : q ∈ s.service.pending) (hqr : q.LessLadder r)
    (ho : ({ r.origins with ladder := false } : Origins).isEmpty = false) : ∃ q' ∈ (s.dropLadder p).service.pending, q'.LessLadder r := by
  have less : ({ q.origins with ladder := false } : Origins).isEmpty = false := by rcases hqr with rfl | rfl <;> exact ho
  by_cases taken : (q.origins.ladder && p q.op && !s.service.asked q.op) = true
  · refine ⟨_, List.mem_filterMap.2 ⟨q, hq, (if_pos taken).trans (withoutLadder_eq_some less)⟩, ?_⟩
    rcases hqr with rfl | rfl <;> exact .inr rfl
  · exact ⟨q, List.mem_filterMap.2 ⟨q, hq, if_neg taken⟩, hqr⟩

/-- A request without LADDER, or of another kind or target, stands as it was. -/
theorem mem_dropLadder_same {s : State} {p : StationOp → Bool} {q : Request} (hq : q ∈ s.service.pending)
    (other : p q.op = false ∨ q.origins.ladder = false) : q ∈ (s.dropLadder p).service.pending :=
  List.mem_filterMap.2 ⟨q, hq, if_neg (by rcases other with h | h <;> simp [h])⟩

/-- LADDER is left only where another ladder asks for the request. -/
theorem asked_of_mem_dropLadder {s : State} {p : StationOp → Bool} {q : Request} (hq : q ∈ (s.dropLadder p).service.pending)
    (named : p q.op = true) (ladder : q.origins.ladder = true) : s.service.asked q.op = true := by
  obtain ⟨r, -, e⟩ := List.mem_filterMap.1 hq
  split at e
  next =>
    unfold Request.withoutLadder at e
    dsimp only at e
    split at e
    · cases e
    · cases e; cases ladder
  next kept =>
    cases e
    simpa [named, ladder] using kept

theorem LadderState.ofLadder_of_asks {st : LadderState} {c : Channel} {op : StationOp} (h : st.asks c op = true) : op.ofLadder c = true := by
  unfold LadderState.asks at h
  cases op <;> cases st <;> simp_all [LadderState.stepOp, StationOp.ofLadder]

/-- What a ladder places is no refill. -/
theorem StationOp.not_refill_of_ofLadder {op : StationOp} {c : Channel} (h : op.ofLadder c = true) : op.refillChannel = none := by
  cases op <;> simp_all [StationOp.ofLadder, StationOp.refillChannel]

/-- The ladder of a channel, reset by the formatter. -/
def Ladder.afresh (l : Ladder) : Ladder := ⟨.normal, none, l.last, l.last, none, none, none⟩

/-- A ladder record written, with its event. -/
def State.ladderTold (s : State) (c : Channel) (l : Ladder) : State :=
  if s.service.ladders[c].state ≠ l.state ∨ s.service.ladders[c].phase ≠ l.phase then (s.laddered c l).raise (l.event c)
  else s.laddered c l

/-- The requests that the state left asked for, without LADDER where it is left. -/
def State.stepLeft (s : State) (old new : LadderState) (c : Channel) : State := if old ≠ new then s.dropAsked c old else s

theorem State.setLadder_told (s : State) (c : Channel) (l : Ladder) :
    s.setLadder c l = (s.ladderTold c l).stepLeft s.service.ladders[c].state l.state c := rfl

/-- A ladder reset in NORMAL is told too. -/
def State.toldAgain (s : State) (old : LadderState) (c : Channel) (l : Ladder) : State := if old = .normal then s.raise (l.event c) else s

theorem State.formatterResetsLadder_eq (s : State) (c : Channel) : s.formatterResetsLadder c =
    ((s.setLadder c s.service.ladders[c].afresh).toldAgain s.service.ladders[c].state c s.service.ladders[c].afresh).dropLadder
      (·.ofLadder c) := rfl

/-- What RESET LADDER leaves: the ladder, the lane's events, and the requests. -/
structure LadderReset (s x : State) (c : Channel) : Prop where
  frame : ∃ l, x = { s with lane := l, service := { s.service with
    ladders := setAt s.service.ladders c s.service.ladders[c].afresh, pending := x.service.pending } }
  lane : s.lane.Raised 2 x.lane
  told : s.lane.events.length ≤ 32 → ⟨s.now, s.service.ladders[c].afresh.event c⟩ ∈ x.lane.events
  same : ∀ r ∈ s.service.pending, (r.op.ofLadder c = false ∨ r.origins.ladder = false) → r ∈ x.service.pending
  less : ∀ r ∈ s.service.pending, ({ r.origins with ladder := false } : Origins).isEmpty = false →
    ∃ q ∈ x.service.pending, q.LessLadder r
  gone : ∀ q ∈ x.service.pending, q.op.ofLadder c = true → q.origins.ladder = true → x.service.asked q.op = true

theorem State.dropLadder_none (s : State) : s.dropLadder (fun _ => false) = s := by simp [State.dropLadder]

theorem formatterResetsLadder_service (s : State) (c : Channel) :
    ∃ p, (∀ op : StationOp, p op = true → op.ofLadder c = true) ∧ (s.formatterResetsLadder c).service =
      (((s.laddered c s.service.ladders[c].afresh).dropLadder p).dropLadder (·.ofLadder c)).service := by
  rw [State.formatterResetsLadder_eq, State.setLadder_told]
  generalize s.service.ladders[c].state = old
  have told (u : State) (l : Ladder) : (u.ladderTold c l).service = (u.laddered c l).service := by unfold State.ladderTold; split <;> rfl
  have again (u : State) (l : Ladder) : (u.toldAgain old c l).service = u.service := by unfold State.toldAgain; split <;> rfl
  have drop {u v : State} (h : u.service = v.service) (p : StationOp → Bool) : (u.dropLadder p).service = (v.dropLadder p).service := by
    simp only [State.dropLadder, h]
  unfold State.stepLeft
  split
  · exact ⟨LadderState.asks old c, fun _ h => LadderState.ofLadder_of_asks h, drop ((again ..).trans (drop (told ..) _)) _⟩
  · refine ⟨fun _ => false, nofun, ?_⟩
    rw [State.dropLadder_none]
    exact drop ((again ..).trans (told ..)) _

theorem formatterResetsLadder_lane (s : State) (c : Channel) : s.lane.Raised 2 (s.formatterResetsLadder c).lane ∧
    (s.lane.events.length ≤ 32 → ⟨s.now, s.service.ladders[c].afresh.event c⟩ ∈ (s.formatterResetsLadder c).lane.events) := by
  rw [State.formatterResetsLadder_eq, State.setLadder_told]
  generalize hl : s.service.ladders[c].afresh = l
  have normal : l.state = .normal := by rw [← hl]; rfl
  have step (u : State) : ((u.stepLeft s.service.ladders[c].state l.state c)).lane = u.lane ∧
      (u.stepLeft s.service.ladders[c].state l.state c).now = u.now := by unfold State.stepLeft; split <;> exact ⟨rfl, rfl⟩
  have told : s.lane.Raised 1 (s.ladderTold c l).lane ∧ (s.ladderTold c l).now = s.now := by
    unfold State.ladderTold
    split
    · exact ⟨Lane.raised_raise .., rfl⟩
    · exact ⟨(Lane.Raised.refl _).mono (by omega), rfl⟩
  by_cases was : s.service.ladders[c].state = .normal
  case pos =>
    have again (u : State) : u.toldAgain s.service.ladders[c].state c l = u.raise (l.event c) := if_pos was
    rw [again]
    refine ⟨?_, fun room => ?_⟩
    · have raised := (step (s.ladderTold c l)).1
      show s.lane.Raised (1 + 1) (State.raise _ _).lane
      exact told.1.trans (by rw [← raised]; exact Lane.raised_raise ..)
    · have mem := State.mem_raise ((s.ladderTold c l).stepLeft s.service.ladders[c].state l.state c) (l.event c)
        (by rw [(step _).1]; have := told.1.length_le; omega)
      rw [(step _).2, told.2] at mem
      exact mem
  case neg =>
    have again (u : State) : u.toldAgain s.service.ladders[c].state c l = u := if_neg was
    have changes : s.ladderTold c l = (s.laddered c l).raise (l.event c) := if_pos (.inl (by rw [normal]; exact was))
    rw [again]
    refine ⟨?_, fun room => ?_⟩
    · show s.lane.Raised 2 ((s.ladderTold c l).stepLeft s.service.ladders[c].state l.state c).lane
      rw [(step _).1]
      exact told.1.mono (by omega)
    · show _ ∈ ((s.ladderTold c l).stepLeft s.service.ladders[c].state l.state c).lane.events
      rw [(step _).1, changes]
      exact State.mem_raise (s.laddered c l) _ (by show s.lane.events.length < 64; omega)

theorem formatterResetsLadder_frame (s : State) (c : Channel) : s.formatterResetsLadder c =
    { s with lane := (s.formatterResetsLadder c).lane, service := (s.formatterResetsLadder c).service } := by
  rw [State.formatterResetsLadder_eq, State.setLadder_told]
  unfold State.toldAgain State.stepLeft State.ladderTold
  split_ifs <;> rfl

/-- RESET LADDER returns the ladder to NORMAL, tells it, and takes LADDER from the channel's requests that no ladder asks for. -/
theorem formatterResetsLadder_reset (s : State) (c : Channel) : LadderReset s (s.formatterResetsLadder c) c := by
  obtain ⟨p, named, service⟩ := formatterResetsLadder_service s c
  obtain ⟨lane, told⟩ := formatterResetsLadder_lane s c
  have frame := formatterResetsLadder_frame s c
  generalize s.formatterResetsLadder c = x at service lane told frame
  refine ⟨⟨x.lane, ?_⟩, lane, told, fun r hr other => ?_, fun r hr ho => ?_, fun q hq asks ladder => ?_⟩
  · rw [service] at frame ⊢
    exact frame
  · rw [service]
    refine mem_dropLadder_same (mem_dropLadder_same (s := s.laddered c _) hr (other.imp_left fun no => ?_)) other
    rw [Bool.eq_false_iff]
    exact fun yes => by rw [named _ yes] at no; cases no
  · rw [service]
    obtain ⟨q, hq, hqr⟩ := mem_dropLadder_less (s := s.laddered c s.service.ladders[c].afresh) (p := p) hr (.inl rfl) ho
    exact mem_dropLadder_less hq hqr ho
  · rw [service] at hq ⊢
    exact asked_of_mem_dropLadder (s := (s.laddered c s.service.ladders[c].afresh).dropLadder p) (p := (·.ofLadder c)) hq asks ladder

/-- The requests stand as a later state has them. -/
theorem Follows.withPending {x t : State} (h : Follows x t) :
    Follows { x with service := { x.service with pending := t.service.pending } } t :=
  { h with requests := fun r hr _ => ⟨r, hr, r.covers_self⟩ }

/-- Settles O20. -/
theorem resetLadderReturnsToNormal : Obligations.ResetLadderReturnsToNormal := by
  refine fun s tag b h => ⟨fun bad => ?range, fun c hb => ?done⟩
  case range => exact runs_refused (c := .resetLadder) h rfl (oneByte_none (byteChannel_eq_none bad) _)
  case done =>
    have taken : oneByte byteChannel (fun c t => .done (t.formatterResetsLadder c)) [b] s.popped =
        .done (s.popped.formatterResetsLadder c) := oneByte_some (byteChannel_eq_some hb) _
    have reset := formatterResetsLadder_reset s.popped c
    generalize s.popped.formatterResetsLadder c = x at taken reset
    obtain ⟨⟨l, frame⟩, lane, told, same, less, gone⟩ := reset
    have step := served_finish (c := .resetLadder) h rfl taken
    have after := Follows.finish false s (x.replied 0x12#8 tag .done)
    have tends := Tends.finish false s (x.replied 0x12#8 tag .done)
    generalize State.finish false s (x.replied 0x12#8 tag .done) = t at step after tends
    have covers {r : Request} (hr : r.op ≠ .cap) (hx : ∃ q ∈ x.service.pending, q.covers r) : ∃ q ∈ t.service.pending, q.covers r :=
      after.covers hr hx
    refine ⟨t, step, ?_, tells_of_mem (x := x.replied 0x12#8 tag .done) told after, fun r hr hcap other => covers hcap ⟨r, same r hr other, r.covers_self⟩,
      fun r hr hcap ho => covers hcap ?_, fun supply q hq asks ladder => ?_⟩
    · have base := (Follows.of_raised (u := ({ s.popped with service := { s.service with
          ladders := setAt s.service.ladders c s.service.ladders[c].afresh, pending := t.service.pending } } : State)) lane).replied
            0x12#8 tag .done
      refine base.trans (Eq.mp (congrArg (Follows · t) ?_) after.withPending)
      have pending : ({ x with service := { x.service with pending := t.service.pending } } : State) = { s.popped with
          lane := x.lane, service := { s.service with
            ladders := setAt s.service.ladders c s.service.ladders[c].afresh, pending := t.service.pending } } := by
        rw [frame]
        rfl
      exact congrArg (State.replied · 0x12#8 tag .done .none) pending
    · obtain ⟨q, hq, hqr⟩ := less r hr ho
      exact ⟨q, hq, hqr.covers⟩
    · have formed : (x.replied 0x12#8 tag .done).SupplyInv :=
        supplyInv_congr (s := s) (by rw [frame]; rfl) (by rw [frame]; rfl) (by rw [frame]; rfl) supply
      have here : q ∈ x.service.pending := tends.requests formed q hq (StationOp.not_refill_of_ofLadder asks)
      have asked := gone q here asks ladder
      have ladders : t.service.ladders = x.service.ladders := tends.ladders formed
      unfold Service.asked at asked ⊢
      rw [ladders]
      exact asked

end Sys2Proof.Machine
end

section
/-!
PROOFS. CLEAR CONDITIONS (R169), with the test of the wear (R104), and how many events the settling of a step can queue: at most 21, since a
channel is told STARVED once.
-/

-- One declaration at a time: side by side, the threads' stacks come near the memory limit of the check.
set_option Elab.async false

namespace Sys2Proof.Machine

/-! ## Events lost (R166, R167) -/

/-- From l to l' no event leaves, and where the return queue has room at the end none was lost. -/
structure Lane.Fits (l l' : Lane) : Prop where
  grows : l.events.length ≤ l'.events.length
  kept : l'.events.length < 64 → l'.conditions.latched .eventsLost = l.conditions.latched .eventsLost ∧ l'.notice = l.notice

theorem Lane.Fits.refl (l : Lane) : l.Fits l := ⟨le_refl _, fun _ => ⟨rfl, rfl⟩⟩

theorem Lane.Fits.trans {a b c : Lane} (h : a.Fits b) (k : b.Fits c) : a.Fits c where
  grows := h.grows.trans k.grows
  kept room := by
    obtain ⟨k1, k2⟩ := k.kept room
    obtain ⟨h1, h2⟩ := h.kept (by have := k.grows; omega)
    exact ⟨k1.trans h1, k2.trans h2⟩

theorem Lane.fits_raise (now : Nat) (e : Event) (l : Lane) : l.Fits (l.raise now e) := by
  unfold Lane.raise
  split
  · exact ⟨by simp, fun _ => ⟨rfl, rfl⟩⟩
  · split
    · exact .refl l
    next full _ => exact ⟨le_refl _, fun room => absurd room full⟩

theorem Lane.fits_raiseCondition (now : Nat) {r : CondRaise} (hr : r.condition ≠ .eventsLost) (l : Lane) :
    l.Fits (l.raiseCondition now r) := by
  unfold Lane.raiseCondition
  split
  · exact .refl l
  · have put : l.Fits { l with conditions := l.conditions.put true r.condition } :=
      ⟨le_refl _, fun _ => ⟨(Conditions.latched_put ..).trans (if_neg hr.symm), rfl⟩⟩
    exact put.trans (Lane.fits_raise ..)

/-! ## What the settling of a step queues -/

/-- The channels whose supply state is STARVED. -/
def State.starvedCount (s : State) : Nat := channels.countP fun c => s.supply[c].state = .starved

/-- Events queued beyond n are each of a channel that becomes STARVED, where the supply states are formed. -/
structure Tame (n : Nat) (s t : State) : Prop where
  fits : s.lane.Fits t.lane
  counts : s.SupplyInv → t.SupplyInv ∧ ∃ k, s.lane.Raised k t.lane ∧ k + s.starvedCount ≤ n + t.starvedCount

theorem Tame.refl (s : State) : Tame 0 s s := ⟨.refl _, fun h => ⟨h, 0, .refl _, le_refl _⟩⟩

theorem Tame.trans {m n : Nat} {s t u : State} (h : Tame m s t) (k : Tame n t u) : Tame (m + n) s u where
  fits := h.fits.trans k.fits
  counts hs := by
    obtain ⟨ht, i, hi, ci⟩ := h.counts hs
    obtain ⟨hu, j, hj, cj⟩ := k.counts ht
    exact ⟨hu, i + j, hi.trans hj, by omega⟩

theorem Tame.mono {m n : Nat} {s t : State} (h : Tame m s t) (hmn : m ≤ n) : Tame n s t :=
  ⟨h.fits, fun hs => by obtain ⟨ht, k, hk, ck⟩ := h.counts hs; exact ⟨ht, k, hk, by omega⟩⟩

/-- One event beside the supply states, accounts and tables. -/
theorem Tame.of_raised {n : Nat} {s t : State} (fits : s.lane.Fits t.lane) (raised : s.lane.Raised n t.lane)
    (supply : t.supply = s.supply := by rfl) (accounts : t.accounts = s.accounts := by rfl) (tables : t.tables = s.tables := by rfl) :
    Tame n s t :=
  ⟨fits, fun hs => ⟨supplyInv_congr supply accounts tables hs, n, raised, by simp only [State.starvedCount, supply]; omega⟩⟩

theorem Tame.of_eq {s t : State} (supply : t.supply = s.supply := by rfl) (accounts : t.accounts = s.accounts := by rfl)
    (tables : t.tables = s.tables := by rfl) (lane : t.lane = s.lane := by rfl) : Tame 0 s t :=
  .of_raised (by rw [lane]; exact .refl _) (by rw [lane]; exact .refl _) supply accounts tables

theorem State.setLadder_fits (s : State) (c : Channel) (l : Ladder) : s.lane.Fits (s.setLadder c l).lane := by
  have told : s.lane.Fits (s.ladderTold c l).lane := by
    unfold State.ladderTold
    split
    · exact Lane.fits_raise ..
    · exact .refl _
  rw [State.setLadder_told]
  unfold State.stepLeft
  split <;> exact told

theorem State.placeStep_lane (s : State) (c : Channel) (st : LadderState) (ph : LadderPhase) : (s.placeStep c st ph).lane = s.lane := by
  unfold State.placeStep; split <;> rfl

theorem State.resumeLadder_fits (s : State) (c : Channel) : s.lane.Fits (s.resumeLadder c).lane := by
  unfold State.resumeLadder
  dsimp only
  split
  · rw [State.placeStep_lane]; exact s.setLadder_fits ..
  · exact .refl _

theorem State.reformSupply_fits (s : State) (c : Channel) : s.lane.Fits (s.reformSupply c).lane := by
  have told : s.lane.Fits (s.supplyTold c).lane := Lane.fits_raise ..
  have low (u : State) (st : SupplyState) : (u.lowPlaced c st).lane = u.lane := by unfold State.lowPlaced; split <;> rfl
  rw [State.reformSupply_eq]
  split
  · exact .refl _
  · rw [low]
    split
    · exact told.trans (State.resumeLadder_fits ..)
    · exact told

theorem State.requestRefill_lane (s : State) (c : Channel) (k : RefillKind) (a : Option Nat) (o : Origins) :
    (s.requestRefill c k a o).lane = s.lane := by
  rcases s.requestRefill_cases c k a o with e | ⟨-, e⟩ | ⟨-, e⟩ <;> rw [e] <;> rfl

theorem countP_modifyAt_starved (v : Vector Supply 6) (c : Channel) (h : v[c].state ≠ .starved) :
    channels.countP (fun d => (modifyAt v c fun r => { r with state := .starved })[d].state = .starved) =
      channels.countP (fun d => v[d].state = .starved) + 1 := by
  have split : ∀ l : List Channel, l.Nodup → l.countP (fun d => (modifyAt v c fun r => { r with state := .starved })[d].state = .starved) =
      l.countP (fun d => v[d].state = .starved) + if c ∈ l then 1 else 0 := by
    intro l
    induction l with
    | nil => exact fun _ => rfl
    | cons d l ih =>
      intro nodup
      obtain ⟨hd, hl⟩ := List.nodup_cons.1 nodup
      rw [List.countP_cons, List.countP_cons, ih hl, getElem_modifyAt]
      by_cases same : d = c
      · subst same
        simp [hd, h, -Fin.getElem_fin]
      · have other : c ≠ d := fun e => same e.symm
        simp [same, other, -Fin.getElem_fin]
        omega
  have := split channels (by decide)
  rwa [if_pos (mem_channels c)] at this

/-- An ink need recorded makes the formed state STARVED, or leaves it. -/
theorem State.recordNeed_formed (s : State) (c : Channel) (n : Need) : (s.recordNeed c n).supply[c].state = s.supply[c].state ∧
    ((s.recordNeed c n).formedSupply c = s.formedSupply c ∨ (s.recordNeed c n).formedSupply c = .starved) := by
  have record : (s.recordNeed c n).supply[c] = { s.supply[c] with need := some (Need.join s.supply[c].need n) } :=
    (getElem_modifyAt ..).trans (if_pos rfl)
  refine ⟨by rw [record], ?_⟩
  by_cases held : s.supply[c].faultMark = false ∧ s.supply[c].refill.isSome = false
  · exact .inr (State.formedSupply_eq_starved.2 (by rw [record]; exact ⟨held.1, held.2, rfl⟩))
  · refine .inl ?_
    unfold State.formedSupply
    rw [record]
    dsimp only
    split_ifs <;> simp_all

theorem State.recordNeed_starvedCount (s : State) (c : Channel) (n : Need) : (s.recordNeed c n).starvedCount = s.starvedCount := by
  refine List.countP_congr fun d _ => ?_
  have : (s.recordNeed c n).supply[d].state = s.supply[d].state := by
    simp only [State.recordNeed, getElem_modifyAt]
    split
    next e => subst e; rfl
    next => rfl
  rw [this]

/-- A refill request sent queues an event only for a channel that becomes STARVED. -/
theorem Tame.requestReform (s : State) (c : Channel) (k : RefillKind) (a : Option Nat) (o : Origins) :
    Tame 0 s ((s.requestRefill c k a o).reformSupply c) := by
  have lane := s.requestRefill_lane c k a o
  refine ⟨by rw [← lane]; exact State.reformSupply_fits .., fun hs => ⟨hs.requestReform c k a o, ?_⟩⟩
  have formed (h : (s.requestRefill c k a o).formedSupply c = (s.requestRefill c k a o).supply[c].state)
      (same : (s.requestRefill c k a o).starvedCount = s.starvedCount) :
      ∃ j, s.lane.Raised j ((s.requestRefill c k a o).reformSupply c).lane ∧
        j + s.starvedCount ≤ 0 + ((s.requestRefill c k a o).reformSupply c).starvedCount := by
    rw [State.reformSupply_of_formed h.symm, lane, same]
    exact ⟨0, .refl _, by omega⟩
  rcases s.requestRefill_cases c k a o with e | ⟨-, e⟩ | ⟨-, e⟩
  · exact formed (by rw [e]; exact (hs c).symm) (by rw [e])
  · exact formed (by rw [e]; exact (hs c).symm) (by rw [e]; rfl)
  · have count : (s.requestRefill c k a o).starvedCount = s.starvedCount := by rw [e]; exact s.recordNeed_starvedCount ..
    by_cases same : (s.requestRefill c k a o).formedSupply c = (s.requestRefill c k a o).supply[c].state
    · exact formed same count
    · have starved : (s.requestRefill c k a o).formedSupply c = .starved := by
        rw [e] at same ⊢
        obtain ⟨state, formed⟩ := s.recordNeed_formed c ⟨s.refillKind c k, a, o⟩
        exact formed.resolve_left fun h => same (h.trans ((hs c).symm.trans state.symm))
      generalize s.requestRefill c k a o = u at *
      have was : u.supply[c].state ≠ .starved := fun h => same (starved.trans h.symm)
      have more : (u.reformSupply c).starvedCount = u.starvedCount + 1 := by
        have written : (u.reformSupply c).supply = modifyAt u.supply c fun r => { r with state := .starved } := by
          rcases u.reformSupply_cases c with h | ⟨-, h⟩
          · exact absurd (h ▸ u.reformSupply_formed c).symm same
          · rw [← starved]
            rcases h (.inl was) with h | h <;> rw [h] <;> rfl
        unfold State.starvedCount
        rw [written]
        exact countP_modifyAt_starved u.supply c was
      refine ⟨1, ?_, by omega⟩
      rw [← lane]
      exact (State.reformSupply_raised fun _ => .inl was).1

theorem Tame.gateRequest (s : State) (t : InkTest) (c : Channel) : Tame 0 s (s.gateRequest t c) := by
  unfold State.gateRequest
  split
  · exact .requestReform ..
  · exact .requestReform ..
  · exact .refl s

theorem Tame.reportCapacity (s : State) (sl : Slot) (i : SlotIx) (rep : Bool) (rest : List Entry) :
    Tame 1 s (s.reportCapacity sl i rep rest) := by
  unfold State.reportCapacity
  split
  · exact .of_raised (Lane.fits_raiseCondition _ (by nofun) _) (Lane.raised_raiseCondition ..)
  · exact (Tame.refl s).mono (by omega)

/-- One evaluation queues one event beside the channels that become STARVED. -/
theorem Tame.evaluate (s : State) : Tame 1 s s.evaluate := by
  unfold State.evaluate
  split
  next i rep rest _ =>
    have sent : Tame 1 s (s.inkSent i rep rest) := foldl_keeps (P := Tame 1 s) (fun t c h => h.trans (Tame.gateRequest t _ c))
      (.reportCapacity ..) channels
    rw [State.evaluateSwath_eq]
    split <;> exact sent.trans (n := 0) .of_eq
  next =>
    unfold State.evaluateAdvance
    dsimp only
    split
    · exact .of_raised (Lane.fits_raise ..) (Lane.raised_raise ..)
    · exact Tame.mono (m := 0) .of_eq (by omega)
  · exact Tame.mono (m := 0) .of_eq (by omega)
  · exact (Tame.refl s).mono (by omega)

theorem Tame.evaluateAgain (n : Nat) (s : State) : Tame n s (State.evaluateAgain n s) := by
  induction n generalizing s with
  | zero => exact .refl s
  | succ n ih =>
    simp only [State.evaluateAgain]
    split
    · exact (Tame.evaluate s).mono (by omega)
    · exact ((Tame.evaluate s).trans (ih _)).mono (by omega)

theorem Tame.idleGate (s : State) : Tame 0 s s.idleGate := by
  unfold State.idleGate
  split
  · exact .of_eq
  · split
    · exact .of_eq
    · split
      · exact .refl s
      · exact .of_eq

theorem Tame.runGate (s s0 : State) (force : Bool) : Tame 3 s (s.runGate force s0) := by
  simp only [State.runGate]
  split
  · exact (Tame.idleGate s).trans (Tame.evaluateAgain 3 _)
  · exact (Tame.idleGate s).mono (by omega)

theorem State.starvedCount_le (s : State) : s.starvedCount ≤ 6 := List.countP_le_length

/-- The settling of a step queues at most 21 events. -/
theorem State.settle_raised (force : Bool) (s0 s : State) : s.lane.Raised 21 (State.settle force s0 s).lane ∧
    s.lane.Fits (State.settle force s0 s).lane := by
  have formed : s.lane.Fits s.reformAll.lane :=
    foldl_keeps (P := fun t : State => s.lane.Fits t.lane) (fun t c h => h.trans (t.reformSupply_fits c)) (.refl _) channels
  obtain ⟨fits, counts⟩ := Tame.runGate s.reformAll s0 force
  obtain ⟨-, k, raised, bound⟩ := counts s.reformAll_formed
  have := State.starvedCount_le ((s.reformAll).runGate force s0)
  exact ⟨((Quiet.reformAll s).lane.trans raised).mono (by omega), formed.trans fits⟩

theorem Lane.choose_notice {l : Lane} (h : l.notice = false) (now : Nat) : (l.choose now).notice = false := by
  unfold Lane.choose
  split
  · split
    · exact h
    · rfl
    · exact h
  · exact h

/-- With room in the return queue, a step that queues nothing before its settling loses no event. -/
theorem State.finish_lost {s : State} (room : s.lane.events.length ≤ 32) (force : Bool) (s0 : State) :
    (State.finish force s0 s).lane.conditions.latched .eventsLost = s.lane.conditions.latched .eventsLost ∧
      (s.lane.notice = false → (State.finish force s0 s).lane.notice = false) := by
  obtain ⟨raised, fits⟩ := State.settle_raised force s0 s
  obtain ⟨lost, notice⟩ := fits.kept (by have := raised.length_le; omega)
  rw [State.finish_eq]
  exact ⟨(Lane.choose_latched ..).trans lost, fun h => Lane.choose_notice (notice.trans h) _⟩

/-! ## The wear test (R104) -/

theorem Follows.wearTest (s : State) (h : Head) : Follows s (s.wearTest h) := by
  unfold State.wearTest
  split
  · exact .place ..
  · exact .refl s

theorem Follows.wearTests (s : State) : Follows s s.wearTests := Follows.foldl _ Follows.wearTest _ _

theorem Follows.capTest (s : State) : Follows s s.capTest := by
  unfold State.capTest
  split
  · exact .place ..
  · exact .refl s

/-- The wear test places requests alone. -/
theorem State.wearTest_frame (s : State) (h : Head) :
    s.wearTest h = { s with service := { s.service with pending := (s.wearTest h).service.pending } } := by
  unfold State.wearTest
  split <;> rfl

/-- A head that has worn its interval has its WIPE asked, or pending for it. -/
def WipeComes (h : Head) (s : State) : Prop :=
  s.service.wipeAsked h = false ∨ ∃ q ∈ s.service.pending, q.covers ⟨.wipe h, none, byWear⟩

theorem place_wipe_asked {s : State} {g h : Head} (hg : g ≠ h) (hs : s.service.wipeAsked h = false) (o : Origins) :
    (s.place (.wipe g) none o).service.wipeAsked h = false := by
  unfold Service.wipeAsked at hs ⊢
  rw [Bool.or_eq_false_iff] at hs ⊢
  refine ⟨?_, hs.2⟩
  rw [List.any_eq_false] at hs ⊢
  intro q hq
  rcases mem_place hq with old | rfl | ⟨p, hp, hm, rfl⟩
  · exact hs.1 q old
  · simpa using hg
  · have isWipe : p.op = .wipe g := by cases hop : p.op <;> simp_all [StationOp.matches, StationOp.refillChannel]
    simpa [Request.merge, isWipe, StationOp.merge] using hg

theorem WipeComes.wearTest {s : State} {h : Head} (hs : WipeComes h s) (g : Head) : WipeComes h (s.wearTest g) := by
  unfold State.wearTest
  split
  · rcases hs with asked | ⟨q, hq, hc⟩
    · by_cases e : g = h
      · exact .inr (e ▸ s.place_covers ..)
      · exact .inl (place_wipe_asked e asked _)
    · obtain ⟨p, hp, hpq⟩ := addRequest_covers_old ⟨.wipe g, none, byWear⟩ s.service.pending q hq
      exact .inr ⟨p, hp, Request.covers_trans hpq hc⟩
  · exact hs

/-- The wear test of a worn head, with STATION FAULT clear, makes its WIPE pending. -/
theorem WipeComes.asks {s : State} {h : Head} (hs : WipeComes h s) (worn : s.tables.service.wipeInterval ≤ s.service.drops[h])
    (clear : s.lane.conditions.stationFault = false) : ∃ q ∈ (s.wearTest h).service.pending, q.covers ⟨.wipe h, none, byWear⟩ := by
  rcases hs with asked | ⟨q, hq, hc⟩
  · have placed : s.wearTest h = s.place (.wipe h) none byWear := if_pos (by simp [-Fin.getElem_fin, worn, asked, clear])
    rw [placed]
    exact s.place_covers ..
  · obtain ⟨p, hp, hpq⟩ := (Follows.wearTest s h).requests q hq (StationOp.not_cap_of_matches hc.1 nofun)
    exact ⟨p, hp, Request.covers_trans hpq hc⟩

/-- A wear test of each head of a list, among them a worn one, makes its WIPE pending. -/
theorem foldl_wearTest_asks {h : Head} (l : List Head) {s : State} (hs : WipeComes h s)
    (worn : s.tables.service.wipeInterval ≤ s.service.drops[h]) (clear : s.lane.conditions.stationFault = false)
    (hl : h ∈ l ∨ ∃ q ∈ s.service.pending, q.covers ⟨.wipe h, none, byWear⟩) :
    ∃ q ∈ (l.foldl State.wearTest s).service.pending, q.covers ⟨.wipe h, none, byWear⟩ := by
  induction l generalizing s with
  | nil => exact hl.resolve_left nofun
  | cons g l ih =>
    have frame := s.wearTest_frame g
    refine ih (hs.wearTest g) (by rw [frame]; exact worn) (by rw [frame]; exact clear) ?_
    by_cases e : g = h
    · exact .inr (e ▸ hs.asks worn clear)
    · rcases hl with mem | here
      · exact .inl ((List.mem_cons.1 mem).resolve_left fun h' => e h'.symm)
      · exact .inr ((Follows.wearTest s g).covers nofun here)

theorem wearTests_asks {s : State} {h : Head} (asked : s.service.wipeAsked h = false)
    (worn : s.tables.service.wipeInterval ≤ s.service.drops[h]) (clear : s.lane.conditions.stationFault = false) :
    ∃ q ∈ s.wearTests.service.pending, q.covers ⟨.wipe h, none, byWear⟩ := by
  have all : h ∈ ([0, 1, 2] : List Head) := by
    clear asked worn
    revert h; decide
  have := foldl_wearTest_asks _ (.inl asked) worn clear (.inl all)
  unfold State.wearTests
  exact this

/-! ## CLEAR CONDITIONS (R169) -/

theorem Conditions.latched_foldl_clear (named : List Condition) (x : Conditions) (k : Condition) :
    (named.foldl (fun set k => set.put false k) x).latched k = (x.latched k && !named.contains k) := by
  induction named generalizing x with
  | nil => simp
  | cons j named ih =>
    rw [List.foldl_cons, ih, Conditions.latched_put, List.contains_cons]
    by_cases e : k = j
    · simp [e]
    · simp [e, beq_eq_false_iff_ne.2 e]

/-- The conditions that a mask names. -/
def maskNamed (m : Byte) : List Condition := conditionBits.filterMap fun p => if m.toNat.testBit p.1 then some p.2 else none

theorem maskConditions_of_lt {m : Byte} (h : m.toNat < 128) : maskConditions m = some (maskNamed m) := if_neg (by omega)

theorem maskNamed_contains (m : Byte) : ∀ k ∈ conditionBits, (maskNamed m).contains k.2 = m.toNat.testBit k.1 := by
  have distinct : ∀ p ∈ conditionBits, ∀ k ∈ conditionBits, p.2 = k.2 → p = k := by decide
  intro k hk
  rw [Bool.eq_iff_iff, List.contains_iff_mem, maskNamed, List.mem_filterMap]
  constructor
  · rintro ⟨p, hp, e⟩
    split at e
    next bit =>
      rw [distinct p hp k hk (Option.some.inj e)] at bit
      exact bit
    next => cases e
  · exact fun bit => ⟨k, hk, if_pos bit⟩

/-- The state with the named conditions cleared, before the tests that the clearing of STATION FAULT makes. -/
def State.unlatch (s : State) (named : List Condition) : State := s.withLane (s.lane.clear named)

/-- The tests place requests alone. -/
theorem State.clearNamed_frame (s : State) (named : List Condition) : Follows (s.unlatch named) (s.clearNamed named) ∧
    (s.clearNamed named).lane = s.lane.clear named ∧ (s.clearNamed named).queue = s.queue := by
  have placed : (s.unlatch named).wearTests.capTest.lane = (s.unlatch named).lane ∧
      (s.unlatch named).wearTests.capTest.queue = (s.unlatch named).queue := by
    have worn : (s.unlatch named).wearTests.lane = (s.unlatch named).lane ∧ (s.unlatch named).wearTests.queue = (s.unlatch named).queue :=
      foldl_keeps (P := fun t : State => t.lane = (s.unlatch named).lane ∧ t.queue = (s.unlatch named).queue)
        (fun t h ht => by rw [t.wearTest_frame h]; exact ht) ⟨rfl, rfl⟩ _
    unfold State.capTest
    split <;> exact worn
  rw [State.clearNamed_eq]
  split
  · exact ⟨(Follows.wearTests _).trans (.capTest _), placed.1, placed.2⟩
  · exact ⟨.refl _, rfl, rfl⟩

section

variable {s : State} {named : List Condition} (fault : s.lane.conditions.stationFault = true) (clears : named.contains .stationFault = true)
include fault clears

theorem State.clearNamed_tests : s.clearNamed named = (s.unlatch named).wearTests.capTest := by
  rw [State.clearNamed_eq, fault, clears]; rfl

omit fault in
theorem State.unlatch_fault : (s.unlatch named).lane.conditions.stationFault = false := by
  have := Conditions.latched_foldl_clear named s.lane.conditions .stationFault
  rw [clears, Bool.not_true, Bool.and_false] at this
  exact this

theorem clearNamed_wipes {h : Head} (worn : s.tables.service.wipeInterval ≤ s.service.drops[h])
    (asked : s.service.wipeAsked h = false) : ∃ q ∈ (s.clearNamed named).service.pending, q.covers ⟨.wipe h, none, byWear⟩ := by
  rw [State.clearNamed_tests fault clears]
  exact (Follows.capTest _).covers nofun (wearTests_asks (s := s.unlatch named) asked worn (State.unlatch_fault clears))

theorem clearNamed_caps (uncapped : s.service.capped = false) (free : s.service.holder = .free)
    (due : max s.service.idleSince (s.service.capWithdrawnAt.getD 0) + s.tables.service.capDelay ≤ s.now) :
    ∃ q ∈ (s.clearNamed named).service.pending, q.op = .cap ∧ q.covers ⟨.cap, none, byWear⟩ := by
  have same : ∃ p, (s.unlatch named).wearTests = { s.unlatch named with service := { s.service with pending := p } } :=
    foldl_keeps (P := fun t : State => ∃ p, t = { s.unlatch named with service := { s.service with pending := p } })
      (fun t h ht => by
        obtain ⟨p, rfl⟩ := ht
        exact ⟨_, State.wearTest_frame _ h⟩) ⟨_, rfl⟩ _
  obtain ⟨p, worn⟩ := same
  have clear := State.unlatch_fault (s := s) clears
  rw [State.clearNamed_tests fault clears, worn]
  generalize hu : ({ s.unlatch named with service := { s.service with pending := p } } : State) = u
  have placed : u.capTest = u.place .cap none byWear := by
    refine if_pos ?_
    subst hu
    simp only [Bool.and_eq_true, Bool.not_eq_true', decide_eq_true_eq]
    exact ⟨⟨⟨uncapped, free⟩, clear⟩, due⟩
  rw [placed]
  obtain ⟨q, hq, hc⟩ := u.place_covers .cap none byWear
  exact ⟨q, hq, Request.op_of_covers_cap hc, hc⟩

end

/-- Settles O8. -/
theorem clearConditionsClearsTheNamed : Obligations.ClearConditionsClearsTheNamed := by
  refine fun s tag m h => ⟨fun bad => ?range, fun low => ?done⟩
  case range => exact runs_refused (c := .clearConditions) h rfl (oneByte_none (if_pos bad) _)
  case done =>
    have named := maskNamed_contains m
    have taken : oneByte maskConditions (fun named t => ⟨t.clearNamed named, .done, .conditions (t.clearNamed named).lane.conditions⟩) [m]
        s.popped = ⟨s.popped.clearNamed (maskNamed m), .done, .conditions (s.popped.clearNamed (maskNamed m)).lane.conditions⟩ :=
      oneByte_some (maskConditions_of_lt low) _
    obtain ⟨follows, lane, queue⟩ := s.popped.clearNamed_frame (maskNamed m)
    have wipes := fun fault bit (head : Head) => clearNamed_wipes (s := s.popped) (h := head) fault ((named (4, .stationFault) (by decide)).trans bit)
    have caps := fun fault bit => clearNamed_caps (s := s.popped) fault ((named (4, .stationFault) (by decide)).trans bit)
    generalize s.popped.clearNamed (maskNamed m) = x at taken follows lane queue wipes caps
    have step := served_finish (c := .clearConditions) h rfl taken
    have cleared (k : Condition) : x.lane.conditions.latched k = (s.lane.conditions.latched k && !(maskNamed m).contains k) := by
      rw [lane]
      exact Conditions.latched_foldl_clear ..
    have notice : x.lane.notice = (s.lane.notice && !m.toNat.testBit 1) := by
      rw [lane, ← named (1, .eventsLost) (by decide)]
      rfl
    have events : x.lane.events = s.lane.events := by rw [lane]; rfl
    have base := follows.replied 0x1B#8 tag .done (.conditions x.lane.conditions)
    have start : (s.popped.unlatch (maskNamed m)).replied 0x1B#8 tag .done (.conditions x.lane.conditions) =
        (({ s with lane := { s.lane with conditions := x.lane.conditions, notice := s.lane.notice && !m.toNat.testBit 1 } } : State).answered
          0x1B#8 tag .done (.conditions x.lane.conditions)) := by
      rw [← notice, lane]
      rfl
    rw [start] at base
    generalize hy : x.replied 0x1B#8 tag .done (.conditions x.lane.conditions) = y at step base
    have same : y.lane.conditions = x.lane.conditions ∧ y.lane.notice = x.lane.notice ∧ y.lane.events = x.lane.events ∧
        y.queue = x.queue ∧ y.service = x.service := by subst hy; exact ⟨rfl, rfl, rfl, rfl, rfl⟩
    obtain ⟨conditions, yNotice, yEvents, yQueue, service⟩ := same
    have after := Follows.finish false s y
    refine ⟨_, x.lane.conditions, step, base.trans after, fun k hk => by rw [cleared, named k hk], fun room => ⟨fun k hk empty => ?_,
      fun bit => ?_⟩, fun fault bit head worn asked => ?_, fun fault bit uncapped free due empty => ?_⟩
    · rw [← conditions]
      by_cases lost : k.2 = .eventsLost
      · rw [lost]
        exact (State.finish_lost (by rw [yEvents, events]; exact room) false s).1
      · by_cases capacity : k.2 = .capacity
        · exact (Reforms.finish_of_empty (by rw [yQueue, queue]; exact empty capacity) false s).clear _ lost
        · exact (Tends.finish false s y).clear _ lost capacity
    · exact (State.finish_lost (by rw [yEvents, events]; exact room) false s).2 (by rw [yNotice, notice, bit, Bool.not_true, Bool.and_false])
    · exact after.covers nofun (by rw [service]; exact wipes fault bit head worn asked)
    · obtain ⟨q, hq, isCap, hc⟩ := caps fault bit uncapped free due
      exact ⟨q, (Reforms.finish_of_empty (by rw [yQueue, queue]; exact empty) false s).caps q (by rw [service]; exact hq) isCap, hc⟩

end Sys2Proof.Machine
end

section
/-!
PROOFS. Family 14, the arbiter's grants: the request that goes first is granted (R108, R109), its sequence runs at once where the carriage is
docked.
-/

-- One declaration at a time: side by side, the threads' stacks come near the memory limit of the check.
set_option Elab.async false

namespace Sys2Proof.Machine

/-! ## The first request (R108) -/

/-- With no PRIME pending none is tested. -/
theorem arbitratePrimes_of_none {s : State} (h : ∀ q ∈ s.service.pending, ∀ c, q.op ≠ .prime c) (l : List Channel) :
    State.arbitratePrimes l s = s := by
  induction l with
  | nil => rfl
  | cons c l ih =>
    have none : s.service.pending.find? (fun r => r.op = .prime c) = none := by
      rw [List.find?_eq_none]
      exact fun q hq => by simpa using h q hq c
    unfold State.arbitratePrimes
    rw [none]
    split
    · rfl
    · exact ih

/-- The request kept of two in the order of Table 6.4.2. -/
def firstOf (best : Option Request) (r : Request) : Option Request :=
  match best with
  | none => some r
  | some b => if r.before b then some r else some b

theorem foldl_firstOf {r : Request} (l : List Request) (hl : ∀ q ∈ l, q ≠ r → r.before q = true ∧ q.before r = false)
    {best : Option Request} (hb : best = some r ∨ r ∈ l ∧ ∀ b, best = some b → b ≠ r → r.before b = true) :
    l.foldl firstOf best = some r := by
  induction l generalizing best with
  | nil => exact hb.resolve_right (by simp)
  | cons q l ih =>
    refine ih (fun p hp => hl p (List.mem_cons_of_mem _ hp)) ?_
    by_cases hq : q = r
    · subst hq
      left
      rcases hb with rfl | ⟨-, first⟩
      · simp [firstOf]
      · cases best with
        | none => rfl
        | some b =>
          by_cases e : b = q
          · simp [firstOf, e]
          · exact if_pos (first b rfl e)
    · obtain ⟨before, after⟩ := hl q (List.mem_cons_self ..) hq
      rcases hb with rfl | ⟨mem, first⟩
      · exact .inl (if_neg (by simp [after]))
      · refine .inr ⟨(List.mem_cons.1 mem).resolve_left fun e => hq e.symm, fun b hb hne => ?_⟩
        cases best with
        | none => cases hb; exact before
        | some b' =>
          unfold firstOf at hb
          dsimp only at hb
          split at hb
          · cases hb; exact before
          · cases hb; exact first _ rfl hne

theorem Request.before_iff (a b : Request) :
    a.before b = true ↔ a.op.rank < b.op.rank ∨ (a.op.rank = b.op.rank ∧ a.op.order < b.op.order) := by
  simp [Request.before]

theorem firstRequest_of_mayGrantFirst {s : State} {r : Request} (h : mayGrantFirst s r) : s.firstRequest = some r := by
  obtain ⟨-, -, -, mem, noPrime, first, -⟩ := h
  have grantable : ∀ q ∈ s.service.pending, s.grantable q = true := by
    intro q hq
    have := noPrime q hq
    unfold State.grantable
    split
    next c hc => exact absurd hc (this c)
    next => rfl
  have all : s.service.pending.filter s.grantable = s.service.pending := List.filter_eq_self.2 grantable
  have goes := foldl_firstOf s.service.pending (r := r) (fun q hq hne => by
    have := first q hq hne
    refine ⟨(Request.before_iff r q).2 this, ?_⟩
    rw [Bool.eq_false_iff, ne_eq, Request.before_iff]
    omega) (best := none) (.inr ⟨mem, nofun⟩)
  unfold State.firstRequest
  rw [all]
  exact goes

/-- The request that goes first is granted. -/
theorem arbiterGrant_first {s : State} {r : Request} (h : mayGrantFirst s r) :
    exec .arbiterGrant s = ends false s (s.grantOp r) := by
  have first := firstRequest_of_mayGrantFirst h
  obtain ⟨free, noPass, latch, -, noPrime, -, asked⟩ := h
  have may : s.mayGrant = true := by simp [State.mayGrant, free, noPass, latch]
  have arbitrated : s.arbitrate = s.grantOp r := by
    unfold State.arbitrate
    rw [arbitratePrimes_of_none noPrime]
    dsimp only
    rw [first]
    refine if_neg ?_
    rw [Bool.and_eq_true, decide_eq_true_eq]
    rintro ⟨h1, h2⟩
    have := asked h1
    omega
  show execArbiterGrant s = _
  unfold execArbiterGrant
  rw [if_pos may, arbitrated]

/-! ## WIPE, CHECK and CAP (R109, R103) -/

theorem grantOp_of_notRefill {s : State} {r : Request} (h : r.op.refillChannel = none) :
    s.grantOp r = if s.service.docked then (s.granted r).beginSequence (s.grantedOp r) else s.granted r := by
  rw [State.grantOp_eq, h]

theorem beginSequence_of_notRefill {s : State} {o : OpInFlight} (h : o.req.op.refillChannel = none) :
    s.beginSequence o = (s.sequenced o).uncappedFor o.req.op := by
  rw [State.beginSequence_eq, h]

theorem stampGroups_all (now : Nat) (stamps : Vector Nat 24) (g : Fin 24) :
    (stampGroups now allGroups stamps)[g] = max stamps[g] now := by
  simp [stampGroups, allGroups]

/-- An uncap stamps every group (R97, R103). -/
theorem State.uncap_frame (s : State) : s.uncap = { s with service := { s.service with
      capped := false, uncapInFlight := false, stamps := s.uncap.service.stamps } } ∧
    ∀ (c : Channel) (g : Fin 24), s.uncap.service.stamps[c][g] = max s.now s.service.stamps[c][g] := by
  refine ⟨rfl, fun c g => ?_⟩
  have : s.uncap.service.stamps[c] = stampGroups s.now allGroups s.service.stamps[c] := by
    simp [State.uncap, State.stamp]
  rw [this, stampGroups_all, Nat.max_comm]

/-- An operation that uncaps where the heads are CAPPED stamps every group, and otherwise leaves the caps and the stamps. -/
theorem State.uncappedFor_frame (s : State) (op : StationOp) : (s.uncappedFor op) = { s with service := { s.service with
      capped := (s.service.capped && !op.uncaps)
      uncapInFlight := if op.uncaps && s.service.capped then false else s.service.uncapInFlight
      stamps := (s.uncappedFor op).service.stamps } } ∧
    ∀ (c : Channel) (g : Fin 24), (s.uncappedFor op).service.stamps[c][g] =
      if op.uncaps && s.service.capped then max s.now s.service.stamps[c][g] else s.service.stamps[c][g] := by
  unfold State.uncappedFor
  by_cases both : (op.uncaps && s.service.capped) = true
  · have uncapped : (s.service.capped && !op.uncaps) = false := by
      rw [Bool.and_eq_true] at both
      simp [both.1]
    simp only [if_pos both, uncapped]
    exact s.uncap_frame
  · have same : (s.service.capped && !op.uncaps) = s.service.capped := by
      cases hu : op.uncaps <;> cases hc : s.service.capped <;> simp_all
    simp only [if_neg both, same, implies_true, and_self]

/-- The operations of O27: they are neither a refill nor a PRIME. -/
def StationOp.plain (op : StationOp) : Prop := op = .cap ∨ (∃ h, op = .wipe h) ∨ ∃ m, op = .check m

theorem StationOp.plain.refill {op : StationOp} (h : op.plain) : op.refillChannel = none := by
  rcases h with rfl | ⟨h, rfl⟩ | ⟨m, rfl⟩ <;> rfl

theorem StationOp.plain.uncaps {op : StationOp} (h : op.plain) : op.uncaps = decide (op ≠ .cap) := by
  rcases h with rfl | ⟨h, rfl⟩ | ⟨m, rfl⟩ <;> rfl

theorem StationOp.plain.purge {op : StationOp} (h : op.plain) (s : State) : s.purgeOf op = none := by
  rcases h with rfl | ⟨h, rfl⟩ | ⟨m, rfl⟩ <;> rfl

/-- A request of the same kind and target goes at the same place. -/
theorem StationOp.plain.same_place {a b : StationOp} (h : b.plain) (m : a.matches b = true) : a.rank = b.rank ∧ a.order = b.order := by
  rcases h with rfl | ⟨h, rfl⟩ | ⟨m, rfl⟩ <;> cases a <;> simp_all [StationOp.matches, StationOp.refillChannel, StationOp.rank, StationOp.order]

/-- A refill matches none of them. -/
theorem StationOp.plain.refill_matches {a b : StationOp} (h : b.plain) (ha : a.refillChannel ≠ none) : a.matches b = false := by
  rcases h with rfl | ⟨h, rfl⟩ | ⟨m, rfl⟩ <;> cases a <;> simp_all [StationOp.matches, StationOp.refillChannel]

/-- The state in which the sequence of a granted request begins. -/
theorem State.granted_docked {s : State} {r : Request} (h : s.service.docked = true) : s.granted r = { s with
    service := { s.service with
      pending := s.service.pending.filter fun q => q ≠ r, holder := .op (s.grantedOp r), uncapInFlight := false } } := by
  simp [State.granted, h]

theorem State.granted_undocked {s : State} {r : Request} (h : s.service.docked = false) : s.granted r = { s with
    service := { s.service with
      pending := s.service.pending.filter fun q => q ≠ r, holder := .op (s.grantedOp r)
      uncapInFlight := r.op.uncaps && s.service.capped }
    out := { s.out with carriage := .dock } } := by
  simp [State.granted, h]

section

variable {s : State} {r : Request} (first : mayGrantFirst s r) (plain : r.op.plain)
include first plain

theorem grant_undocked (undocked : s.service.docked = false) : exec .arbiterGrant s = ends false s (s.granted r) := by
  rw [arbiterGrant_first first, grantOp_of_notRefill plain.refill, if_neg (by rw [undocked]; exact Bool.false_ne_true)]

theorem grant_docked (docked : s.service.docked = true) : exec .arbiterGrant s =
    ends false s (((s.granted r).sequenced (s.grantedOp r)).uncappedFor r.op) := by
  rw [arbiterGrant_first first, grantOp_of_notRefill plain.refill, if_pos docked,
    beginSequence_of_notRefill (o := s.grantedOp r) plain.refill]
  rfl

/-- No request that pends beside the one granted matches it. -/
theorem others_unmatched {q : Request} (hq : q ∈ s.service.pending.filter fun q => q ≠ r) : q.op.matches r.op = false := by
  obtain ⟨mem, ne⟩ := List.mem_filter.1 hq
  rw [Bool.eq_false_iff]
  intro m
  have order := first.2.2.2.2.2.1 q mem (by simpa using ne)
  obtain ⟨h1, h2⟩ := plain.same_place m
  omega

/-- After the grant, where the supply states are formed, none that pends matches it. -/
theorem finish_unmatched {x : State} (supply : x.SupplyInv) (pending : x.service.pending = s.service.pending.filter fun q => q ≠ r) :
    ∀ q ∈ (State.finish false s x).service.pending, q.op.matches r.op = false := by
  intro q hq
  by_cases refill : q.op.refillChannel = none
  · have here := (Tends.finish false s x).requests supply q hq refill
    rw [pending] at here
    exact others_unmatched first plain here
  · exact plain.refill_matches refill

end

/-- Settles O27. -/
theorem arbiterGrantsTheFirstRequest : Obligations.ArbiterGrantsTheFirstRequest := by
  intro s r first plain o others
  have op : r.op.plain := plain
  have begun (docked : s.service.docked = true) : (s.granted r).sequenced (s.grantedOp r) = { s with
      service := { s.service with pending := others, holder := .op o, uncapInFlight := false }
      out := { s.out with station := .run r.op } } := by
    rw [State.granted_docked docked]
    unfold State.sequenced
    simp only [State.grantedOp, op.purge, o, docked]
    rfl
  refine ⟨fun undocked => ?undocked, fun docked caps => ?docked, fun docked capped notCap => ?uncaps, fun supply => ?unmatched⟩
  case undocked =>
    have step := grant_undocked first op undocked
    have held : s.grantedOp r = o := by simp only [State.grantedOp, o, undocked]
    rw [State.granted_undocked undocked, op.uncaps, Bool.and_comm (decide _) s.service.capped, held] at step
    exact runs_of_ends false step
  case docked =>
    have step := grant_docked first op docked
    have caps' : ((s.granted r).sequenced (s.grantedOp r)).uncappedFor r.op = (s.granted r).sequenced (s.grantedOp r) := by
      refine if_neg ?_
      rw [begun docked, op.uncaps]
      rcases caps with h | h <;> simp [h]
    rw [caps', begun docked] at step
    exact runs_of_ends _ step
  case uncaps =>
    have step := grant_docked first op docked
    rw [begun docked] at step
    have uncaps : r.op.uncaps = true := by rw [op.uncaps]; simpa using notCap
    obtain ⟨frame, stamps⟩ := State.uncappedFor_frame { s with
      service := { s.service with pending := others, holder := .op o, uncapInFlight := false }
      out := { s.out with station := .run r.op } } r.op
    generalize State.uncappedFor _ r.op = x at step frame stamps
    obtain ⟨t, ht, follows⟩ := ends_follows false s x
    refine ⟨t, step.trans ht, ?_, fun c g => ?_⟩
    · rw [follows.stamps]
      simp only [capped, uncaps] at frame
      rw [frame] at follows
      exact follows
    · rw [follows.stamps, stamps]
      simp [capped, uncaps]
  case unmatched =>
    cases docked : s.service.docked with
    | false =>
      refine ⟨_, grant_undocked first op docked, finish_unmatched first op ?_ ?_⟩
      · rw [State.granted_undocked docked]; exact supply
      · rw [State.granted_undocked docked]
    | true =>
      refine ⟨_, grant_docked first op docked, finish_unmatched first op ?_ ?_⟩
      · rw [begun docked, (State.uncappedFor_frame _ r.op).1]; exact supply
      · rw [begun docked, (State.uncappedFor_frame _ r.op).1]

end Sys2Proof.Machine
end

section
/-!
PROOFS. Refills (R62 to R66, R73, R74): what the operations on one channel's refill and cartridge leave of the other channels, of the
requests and of the ladders, and how a refill ends.
-/

-- One declaration at a time: side by side, the threads' stacks come near the memory limit of the check.
set_option Elab.async false

namespace Sys2Proof.Machine

/-! ## Operations on one channel's refill and cartridge -/

/-- From s to t only channel c's account, refill, fault mark and cartridge have changed, with the station, the carriage's holder, supply states,
ink needs, ladders resumed and requests; at most n events were raised. Every request but a CAP or a refill of c is stood for. -/
structure Refills (c : Channel) (n : Nat) (s t : State) : Prop where
  frame : t = { s with
    lane := t.lane, accounts := t.accounts, supply := t.supply, carts := t.carts, out := { s.out with station := t.out.station }
    service := { s.service with
      holder := t.service.holder, idleSince := t.service.idleSince, uncapInFlight := t.service.uncapInFlight
      pending := t.service.pending, ladders := t.service.ladders } }
  lane : s.lane.Raised n t.lane
  others : ∀ d : Channel, d ≠ c → t.accounts[d] = s.accounts[d] ∧ t.carts[d] = s.carts[d] ∧
    t.supply[d].refill = s.supply[d].refill ∧ t.supply[d].faultMark = s.supply[d].faultMark
  requests : ∀ q ∈ s.service.pending, q.op.refillChannel ≠ some c → q.op ≠ .cap → ∃ p ∈ t.service.pending, p.covers q
  ladders : ∀ d : Channel, s.service.ladders[d].state ≠ .suspended → t.service.ladders[d] = s.service.ladders[d]

theorem StationOp.refillChannel_of_matches {a b : StationOp} (h : a.matches b = true) : a.refillChannel = b.refillChannel := by
  cases a <;> cases b <;> simp_all [StationOp.matches, StationOp.refillChannel]

theorem Refills.refl (c : Channel) (s : State) : Refills c 0 s s :=
  ⟨rfl, .refl _, fun _ _ => ⟨rfl, rfl, rfl, rfl⟩, fun q hq _ _ => ⟨q, hq, q.covers_self⟩, fun _ _ => rfl⟩

theorem Refills.trans {c : Channel} {m n : Nat} {s t u : State} (h : Refills c m s t) (k : Refills c n t u) : Refills c (m + n) s u where
  frame := by rw [k.frame, h.frame]
  lane := h.lane.trans k.lane
  others d hd := by
    obtain ⟨h1, h2, h3, h4⟩ := h.others d hd
    obtain ⟨k1, k2, k3, k4⟩ := k.others d hd
    exact ⟨k1.trans h1, k2.trans h2, k3.trans h3, k4.trans h4⟩
  requests q hq hc ho := by
    obtain ⟨p, hp, hpq⟩ := h.requests q hq hc ho
    obtain ⟨r, hr, hrp⟩ := k.requests p hp (by rwa [StationOp.refillChannel_of_matches hpq.1]) (StationOp.not_cap_of_matches hpq.1 ho)
    exact ⟨r, hr, Request.covers_trans hrp hpq⟩
  ladders d hd := by
    have e := h.ladders d hd
    exact (k.ladders d (by rw [e]; exact hd)).trans e

theorem Refills.mono {c : Channel} {m n : Nat} {s t : State} (h : Refills c m s t) (hmn : m ≤ n) : Refills c n s t :=
  { h with lane := h.lane.mono hmn }

/-- A quiet operation that leaves its requests. -/
theorem Refills.of_quiet {c : Channel} {n : Nat} {s t : State} (q : Quiet n s t)
    (requests : ∀ q ∈ s.service.pending, q.op.refillChannel ≠ some c → q.op ≠ .cap → ∃ p ∈ t.service.pending, p.covers q)
    (ladders : ∀ d : Channel, s.service.ladders[d].state ≠ .suspended → t.service.ladders[d] = s.service.ladders[d]) : Refills c n s t where
  frame := by rw [q.frame]
  lane := q.lane
  others d _ := by rw [q.accounts, q.carts]; exact ⟨rfl, rfl, (q.refills d).1, (q.refills d).2⟩
  requests := requests
  ladders := ladders

theorem Refills.of_follows {c : Channel} {n : Nat} {s t : State} (q : Quiet n s t) (f : Follows s t) : Refills c n s t :=
  .of_quiet q (fun r hr _ ho => f.requests r hr ho) f.ladders

/-- What is written of channel c, the station, the holder and its times besides. -/
theorem Refills.write {c : Channel} {s t : State}
    (frame : t = { s with
      accounts := t.accounts, supply := t.supply, carts := t.carts, out := { s.out with station := t.out.station }
      service := { s.service with
        holder := t.service.holder, idleSince := t.service.idleSince, uncapInFlight := t.service.uncapInFlight } } := by rfl)
    (others : ∀ d : Channel, d ≠ c → t.accounts[d] = s.accounts[d] ∧ t.carts[d] = s.carts[d] ∧
      t.supply[d].refill = s.supply[d].refill ∧ t.supply[d].faultMark = s.supply[d].faultMark) : Refills c 0 s t where
  frame := by rw [frame]
  lane := by rw [frame]; exact .refl _
  others := others
  requests q hq _ _ := ⟨q, by rw [frame]; exact hq, q.covers_self⟩
  ladders d _ := by rw [frame]

theorem Refills.raise (c : Channel) (s : State) (e : Event) : Refills c 1 s (s.raise e) := .of_follows (.raise s e) (.raise s e)

theorem Refills.raiseCondition (c : Channel) (s : State) (r : CondRaise) : Refills c 1 s (s.raiseCondition r) :=
  .of_follows (.raiseCondition s r) (.raiseCondition s r)

theorem Refills.reformSupply (c : Channel) (s : State) (d : Channel) : Refills c 2 s (s.reformSupply d) :=
  .of_follows (.reformSupply s d) (.reformSupply s d)

theorem modifyAt_ne {α : Type} {v : Vector α 6} {c d : Channel} (h : d ≠ c) (f : α → α) : (modifyAt v c f)[d] = v[d] :=
  (getElem_modifyAt ..).trans (if_neg h)

theorem modifyAt_self {α : Type} (v : Vector α 6) (c : Channel) (f : α → α) : (modifyAt v c f)[c] = f v[c] :=
  (getElem_modifyAt ..).trans (if_pos rfl)

theorem setAt_ne {α : Type} {v : Vector α 6} {c d : Channel} (h : d ≠ c) (x : α) : (setAt v c x)[d] = v[d] :=
  (getElem_setAt ..).trans (if_neg h)

theorem setAt_self {α : Type} (v : Vector α 6) (c : Channel) (x : α) : (setAt v c x)[c] = x := (getElem_setAt ..).trans (if_pos rfl)

theorem Refills.closeRefill (s : State) (c : Channel) (k : Refill) : Refills c 0 s (s.closeRefill c k) :=
  .write (frame := rfl) fun _ hd => ⟨rfl, modifyAt_ne hd _, congrArg Supply.refill (modifyAt_ne hd _), congrArg Supply.faultMark (modifyAt_ne hd _)⟩

theorem Refills.strokeBegun (s : State) (c : Channel) (k : Refill) : Refills c 0 s (s.strokeBegun c k) :=
  .write (frame := rfl) fun _ hd => ⟨rfl, rfl, congrArg Supply.refill (modifyAt_ne hd _), congrArg Supply.faultMark (modifyAt_ne hd _)⟩

theorem Refills.endRefill (s : State) (c : Channel) (k : Refill) (why : RefillEnd) : Refills c 3 s (s.endRefill c k why) :=
  ((Refills.closeRefill s c k).trans (.raise ..)).trans (.reformSupply ..)

theorem Refills.setFaultMark (s : State) (c : Channel) : Refills c 0 s (s.setFaultMark c) where
  frame := rfl
  lane := .refl _
  others d hd := ⟨rfl, rfl, congrArg Supply.refill (modifyAt_ne hd _), congrArg Supply.faultMark (modifyAt_ne hd _)⟩
  requests q hq hc _ := ⟨q, List.mem_filter.2 ⟨hq, by simp [hc]⟩, q.covers_self⟩
  ladders _ _ := rfl

theorem Refills.faultRefill (s : State) (c : Channel) (k : Refill) (why : RefillFaultReason) : Refills c 4 s (s.faultRefill c k why) :=
  ((((Refills.closeRefill s c k).trans (.setFaultMark ..)).trans (.raise ..)).trans (.raiseCondition ..)).trans (.reformSupply ..)

/-! ## Cartridge records written (R59, R61, R107) -/

theorem Refills.handBack (s : State) (c : Channel) : Refills c 0 s (s.handBack c) := by
  have again : Follows (s.withdraw fun op => op.refillChannel = some c) (s.handBack c) :=
    Follows.foldl (fun t (r : Request) => t.requestRefill c (r.op.refillKind.getD .refill) r.amount r.origins)
      (fun t r => .requestRefill ..) _ _
  refine .of_quiet (.handBack s c) (fun q hq hc ho => ?_) again.ladders
  exact again.requests q (List.mem_filter.2 ⟨hq, by simpa using hc⟩) ho

theorem Follows.cartridgeAble (s : State) (c : Channel) (h : s.supply[c].need = none) : Follows s (s.cartridgeAble c) := by
  unfold State.cartridgeAble
  rw [h]
  dsimp only
  split_ifs
  · exact .refl s
  · exact .place ..
  · exact .place ..
  · exact .refl s

theorem Refills.cartridgeAble (s : State) (c : Channel) : Refills c 2 s (s.cartridgeAble c) := by
  have placed : ∀ t : State, Refills c 0 t (if t.supply[c].faultMark then t
      else if t.accounts[c].known = false then t.place (.fillToMark c) none bySupply
      else if t.supply[c].state = SupplyState.low then t.place (.refill c) none bySupply else t) := by
    intro t
    split_ifs
    · exact .refl c t
    · exact .of_follows (.place ..) (.place ..)
    · exact .of_follows (.place ..) (.place ..)
    · exact .refl c t
  unfold State.cartridgeAble
  split
  next n hn =>
    have cleared : Refills c 0 s { s with supply := modifyAt s.supply c fun r => { r with need := none } } :=
      .write (frame := rfl) fun _ hd => ⟨rfl, rfl, congrArg Supply.refill (modifyAt_ne hd _), congrArg Supply.faultMark (modifyAt_ne hd _)⟩
    exact ((cleared.trans (.of_follows (.place ..) (.place ..))).trans (.reformSupply ..)).trans (placed _)
  next => exact (placed s).mono (by omega)

theorem Refills.setCart (s : State) (c : Channel) (r : Cartridge) (report : Bool) : Refills c 3 s (s.setCart c r report) := by
  have written : Refills c 0 s { s with carts := setAt s.carts c r } :=
    .write (frame := rfl) fun d hd => ⟨rfl, setAt_ne hd _, rfl, rfl⟩
  have reported : Refills c 1 s
      (if report then State.raise { s with carts := setAt s.carts c r } (r.event c) else { s with carts := setAt s.carts c r }) := by
    split
    · exact written.trans (.raise ..)
    · exact written.mono (by omega)
  unfold State.setCart
  dsimp only
  split
  · exact (reported.trans (.handBack ..)).mono (by omega)
  · split
    · exact reported.trans (.cartridgeAble ..)
    · exact reported.mono (by omega)

theorem Refills.emptied (s : State) (c : Channel) : Refills c 3 s (s.emptied c) := by
  unfold State.emptied
  split
  · exact (Refills.refl c s).mono (by omega)
  · exact .setCart ..

theorem Refills.reformCart (s : State) (c : Channel) : Refills c 3 s (s.reformCart c) := by
  unfold State.reformCart
  dsimp only
  split
  · exact .setCart ..
  · exact (Refills.refl c s).mono (by omega)

theorem Refills.beginStroke (s : State) (c : Channel) : Refills c 6 s (s.beginStroke c) := by
  cases hk : s.supply[c].refill with
  | none => rw [State.beginStroke_of_none hk]; exact (Refills.refl c s).mono (by omega)
  | some k =>
    rw [State.beginStroke_eq hk]
    split
    · exact (Refills.endRefill ..).mono (by omega)
    · split
      · exact (Refills.emptied s c).trans (.endRefill ..)
      · split
        · exact (Refills.faultRefill ..).mono (by omega)
        · split
          · exact (Refills.faultRefill ..).mono (by omega)
          · exact (Refills.strokeBegun ..).mono (by omega)

theorem Refills.refillWritten (s : State) (c : Channel) (kind : RefillKind) (a : Option Nat) : Refills c 2 s (s.refillWritten c kind a) := by
  have zeroed : Refills c 0 s { s.zeroed c kind with supply := modifyAt s.supply c fun q => { q with
      refill := some (newRefill s.tables.channel[c] s.accounts[c].reserved kind a) } } :=
    .write (frame := rfl) fun d hd => ⟨by unfold State.zeroed; dsimp only; split; exacts [modifyAt_ne hd _, rfl], rfl,
      congrArg Supply.refill (modifyAt_ne hd _), congrArg Supply.faultMark (modifyAt_ne hd _)⟩
  exact (zeroed.trans (.reformSupply ..)).mono (by omega)

theorem Refills.startRefill (s : State) (c : Channel) (kind : RefillKind) (a : Option Nat) : Refills c 8 s (s.startRefill c kind a) := by
  have h := Refills.refillWritten s c kind a
  rw [State.startRefill_eq]
  dsimp only
  split
  · exact (h.trans (.endRefill ..)).mono (by omega)
  · split
    · exact h.trans (.beginStroke ..)
    · exact h.mono (by omega)

theorem Refills.markDetected (s : State) (c : Channel) (k : Refill) : Refills c 4 s (s.markDetected c k) := by
  have reached : Refills c 0 s (s.markReached c k) :=
    .write (frame := rfl) fun d hd => ⟨modifyAt_ne hd _, rfl, congrArg Supply.refill (modifyAt_ne hd _),
      congrArg Supply.faultMark (modifyAt_ne hd _)⟩
  rw [State.markDetected_eq]
  exact ((((reached.trans (.closeRefill ..)).trans (.raise ..)).trans (.raise ..)).trans (.reformSupply ..)).mono (by omega)

theorem Refills.strokeDone (s : State) (c : Channel) (k : Refill) : Refills c 9 s (s.strokeDone c k) := by
  have counted : Refills c 0 s (s.strokeCounted c k) :=
    .write (frame := rfl) fun d hd => ⟨modifyAt_ne hd _, modifyAt_ne hd _, congrArg Supply.refill (modifyAt_ne hd _),
      congrArg Supply.faultMark (modifyAt_ne hd _)⟩
  have h := counted.trans (.reformCart ..)
  rw [State.strokeDone_eq]
  dsimp only
  split
  · exact (h.trans (.markDetected ..)).mono (by omega)
  · split
    · exact (h.trans (.endRefill ..)).mono (by omega)
    · exact h.trans (.beginStroke ..)

/-! ## What the settling of a step leaves of cartridges and needs -/

/-- The gate records no ink need for the channel: its fault mark stands, or its cartridge can supply it (R60). -/
def State.spared (s : State) (c : Channel) : Prop := s.supply[c].faultMark = true ∨ s.canSupply c = true

theorem State.spared_congr {s t : State} {c : Channel} (faultMark : t.supply[c].faultMark = s.supply[c].faultMark)
    (carts : t.carts = s.carts) (h : s.spared c) : t.spared c := by
  unfold State.spared State.canSupply
  rwa [faultMark, carts]

/-- The cartridges stand, and the ink need of a channel for which none is recorded. -/
structure NeedStands (c : Channel) (s t : State) : Prop where
  carts : t.carts = s.carts
  now : t.now = s.now
  need : s.spared c → t.spared c ∧ t.supply[c].need = s.supply[c].need

theorem NeedStands.refl (c : Channel) (s : State) : NeedStands c s s := ⟨rfl, rfl, fun h => ⟨h, rfl⟩⟩

theorem NeedStands.trans {c : Channel} {s t u : State} (h : NeedStands c s t) (k : NeedStands c t u) : NeedStands c s u :=
  ⟨k.carts.trans h.carts, k.now.trans h.now, fun hs => by
    obtain ⟨ht, e⟩ := h.need hs
    obtain ⟨hu, e'⟩ := k.need ht
    exact ⟨hu, e'.trans e⟩⟩

theorem NeedStands.of_supply {c : Channel} {s t : State} (supply : t.supply = s.supply := by rfl) (carts : t.carts = s.carts := by rfl)
    (now : t.now = s.now := by rfl) : NeedStands c s t :=
  ⟨carts, now, fun h => ⟨State.spared_congr (by rw [supply]) carts h, by rw [supply]⟩⟩

theorem State.reformSupply_need (s : State) (c d : Channel) : (s.reformSupply c).supply[d].need = s.supply[d].need := by
  rw [State.reformSupply_supply, getElem_modifyAt]
  split
  next e => rw [e]
  next => rfl

theorem NeedStands.reformSupply (c : Channel) (s : State) (d : Channel) : NeedStands c s (s.reformSupply d) where
  carts := (Quiet.reformSupply s d).carts
  now := (Quiet.reformSupply s d).now
  need h := ⟨State.spared_congr ((Quiet.reformSupply s d).refills c).2 (Quiet.reformSupply s d).carts h, s.reformSupply_need d c⟩

theorem State.requestRefill_supply_of_able (s : State) {c : Channel} (able : s.canSupply c = true) (k : RefillKind) (a : Option Nat)
    (o : Origins) : (s.requestRefill c k a o).supply[c] = s.supply[c] := by
  rcases s.requestRefill_cases c k a o with e | ⟨-, e⟩ | ⟨unable, e⟩
  · rw [e]
  · rw [e]; rfl
  · rw [able] at unable
    exact Bool.noConfusion unable

theorem NeedStands.requestRefill (c : Channel) (s : State) (d : Channel) (k : RefillKind) (a : Option Nat) {o : Origins}
    (ho : o.formatter = false) : NeedStands c s (s.requestRefill d k a o) where
  carts := (Quiet.requestRefill s d k a o).carts
  now := (Quiet.requestRefill s d k a o).now
  need h := by
    have q := Quiet.requestRefill s d k a o
    refine ⟨State.spared_congr (q.refills c).2 q.carts h, ?_⟩
    by_cases hd : c = d
    · subst hd
      rcases h with marked | able
      · have dropped : s.requestRefill c k a o = s := if_pos (by simp [-Fin.getElem_fin, marked, ho])
        rw [dropped]
      · exact congrArg Supply.need (s.requestRefill_supply_of_able able k a o)
    · rw [s.requestRefill_supply_ne hd k a o]

theorem NeedStands.gateRequest (c : Channel) (s : State) (t : InkTest) (d : Channel) : NeedStands c s (s.gateRequest t d) := by
  unfold State.gateRequest
  split
  · exact (NeedStands.requestRefill c s d _ _ rfl).trans (.reformSupply ..)
  · exact (NeedStands.requestRefill c s d _ _ rfl).trans (.reformSupply ..)
  · exact .refl c s

theorem NeedStands.evaluate (c : Channel) (s : State) : NeedStands c s s.evaluate := by
  unfold State.evaluate
  split
  next i rep rest _ =>
    have reported : NeedStands c s (s.reportCapacity s.slots[i] i rep rest) := by
      unfold State.reportCapacity
      split
      · exact .of_supply
      · exact .refl c s
    have sent : NeedStands c s (s.inkSent i rep rest) :=
      foldl_keeps (P := NeedStands c s) (fun t d h => h.trans (.gateRequest c t _ d)) reported channels
    rw [State.evaluateSwath_eq]
    split <;> exact sent.trans .of_supply
  next =>
    unfold State.evaluateAdvance
    dsimp only
    split <;> exact .of_supply
  · exact .of_supply
  · exact .refl c s

theorem NeedStands.idleGate (c : Channel) (s : State) : NeedStands c s s.idleGate := by
  unfold State.idleGate
  split
  · exact .of_supply
  · split
    · exact .of_supply
    · split
      · exact .refl c s
      · exact .of_supply

/-- A step's end sends the deductions owed, and leaves the ink need of a channel for which none is recorded. -/
theorem State.finish_carts (force : Bool) (s0 x : State) (c : Channel) :
    (State.finish force s0 x).carts[c] = x.carts[c].sendOwed x.now ∧
      (x.spared c → (State.finish force s0 x).supply[c].need = x.supply[c].need) := by
  have formed : NeedStands c x x.reformAll :=
    foldl_keeps (P := NeedStands c x) (fun t d h => h.trans (.reformSupply c t d)) (.refl c x) channels
  have gate : NeedStands c x ((x.reformAll).runGate force s0) :=
    State.runGate_keeps (P := NeedStands c x) (fun t h => h.trans (.evaluate c t)) (formed.trans (.idleGate ..)) force s0
  refine ⟨?_, fun h => (gate.need h).2⟩
  show (((x.reformAll).runGate force s0).sendDeductions).carts[c] = _
  simp [State.sendDeductions, gate.carts, gate.now]

/-! ## The end of a refill (R64, R66) -/

/-- What a refill that stood as k leaves of the tag deduction at its end (R74). -/
def Cartridge.drained (r : Cartridge) (k : Refill) : Cartridge :=
  { r with owed := r.owed + (k.drawn + r.tagCarry) / 1000, tagCarry := (k.drawn + r.tagCarry) % 1000 }

/-- Refill k of channel c, standing in s, has ended in x. -/
structure Closes (s x : State) (c : Channel) (k : Refill) : Prop where
  refill : x.supply[c].refill = none
  holder : x.service.holder = .free
  idle : x.service.idleSince = s.now
  uncap : x.service.uncapInFlight = false
  station : x.out.station = .closeValve c
  accounts : x.accounts = s.accounts
  carts : x.carts[c] = s.carts[c].drained k
  now : x.now = s.now

theorem Closes.closeRefill (s : State) (c : Channel) (k : Refill) : Closes s (s.closeRefill c k) c k where
  refill := congrArg Supply.refill (modifyAt_self ..)
  holder := rfl
  idle := rfl
  uncap := rfl
  station := rfl
  accounts := rfl
  carts := modifyAt_self ..
  now := rfl

/-- A quiet operation leaves the end of a refill. -/
theorem Closes.quiet {s x y : State} {c : Channel} {k : Refill} (h : Closes s x c k) {n : Nat} (q : Quiet n x y) : Closes s y c k where
  refill := (q.refills c).1.trans h.refill
  holder := q.holder.trans h.holder
  idle := by rw [q.frame]; exact h.idle
  uncap := by rw [q.frame]; exact h.uncap
  station := by rw [q.frame]; exact h.station
  accounts := q.accounts.trans h.accounts
  carts := by rw [q.carts]; exact h.carts
  now := q.now.trans h.now

theorem Closes.endRefill (s : State) (c : Channel) (k : Refill) (why : RefillEnd) : Closes s (s.endRefill c k why) c k :=
  ((Closes.closeRefill s c k).quiet (Quiet.refillDone _ c k why)).quiet (Quiet.reformSupply _ c)

/-- REFILL DONE is queued. -/
theorem endRefill_told (s : State) (c : Channel) (k : Refill) (why : RefillEnd) (room : s.lane.events.length < 64) :
    ⟨s.now, .refillDone c k.kind why k.strokes k.drawn s.accounts[c].level s.accounts[c].known⟩ ∈
      (s.endRefill c k why).lane.events :=
  (Quiet.reformSupply _ c).lane.mem (State.mem_raise (s.closeRefill c k) _ room)

theorem endRefill_faultMark (s : State) (c : Channel) (k : Refill) (why : RefillEnd) :
    (s.endRefill c k why).supply[c].faultMark = s.supply[c].faultMark := by
  have written := congrArg Supply.faultMark (modifyAt_self s.supply c fun q => { q with refill := none })
  exact ((Quiet.reformSupply _ c).refills c).2.trans written

theorem Closes.setFaultMark {s x : State} {c : Channel} {k : Refill} (h : Closes s x c k) : Closes s (x.setFaultMark c) c k :=
  { h with
    refill := (congrArg Supply.refill (modifyAt_self ..)).trans h.refill
    holder := h.holder, idle := h.idle, uncap := h.uncap, station := h.station, accounts := h.accounts, carts := h.carts, now := h.now }

theorem Closes.faultRefill (s : State) (c : Channel) (k : Refill) (why : RefillFaultReason) : Closes s (s.faultRefill c k why) c k :=
  ((((Closes.closeRefill s c k).setFaultMark).quiet (Quiet.raise ..)).quiet (Quiet.raiseCondition ..)).quiet (Quiet.reformSupply _ c)

/-- The fault mark is set and the ink need absent; REFILL FAULT is queued and STATION FAULT stands. -/
theorem faultRefill_faults (s : State) (c : Channel) (k : Refill) (why : RefillFaultReason) :
    (s.faultRefill c k why).supply[c].faultMark = true ∧ (s.faultRefill c k why).supply[c].need = none ∧
    (s.faultRefill c k why).lane.conditions.stationFault = true ∧
    (s.lane.events.length < 64 → ⟨s.now, .refillFault c k.kind why k.strokes k.drawn s.accounts[c].level⟩ ∈
      (s.faultRefill c k why).lane.events) := by
  have mark : ((s.closeRefill c k).setFaultMark c).supply[c].faultMark = true := congrArg Supply.faultMark (modifyAt_self ..)
  have need : ((s.closeRefill c k).setFaultMark c).supply[c].need = none := congrArg Supply.need (modifyAt_self ..)
  refine ⟨((Quiet.reformSupply _ c).refills c).2.trans mark, (State.reformSupply_need ..).trans need, ?_, fun room => ?_⟩
  · exact (Quiet.reformSupply _ c).lane.latched .stationFault (Lane.raiseCondition_latched ..)
  · have told := State.mem_raise ((s.closeRefill c k).setFaultMark c)
      (.refillFault c k.kind why k.strokes k.drawn (s.closeRefill c k).accounts[c].level) room
    exact (Quiet.reformSupply _ c).lane.mem ((Quiet.raiseCondition _ _).lane.mem told)

/-! ## What a step leaves of an ended refill -/

section

variable {s z x : State} {c : Channel} {k : Refill}

/-- The refill ends in a step from s that found it in z: the deduction formed. -/
theorem Closes.deduction (h : Closes z x c k) (owed : z.carts[c].owed = s.carts[c].owed) (carry : z.carts[c].tagCarry = s.carts[c].tagCarry)
    (link : z.carts[c].link = s.carts[c].link) (now : z.now = s.now) (s0 : State) :
    DeductionFormed s (State.finish false s0 x) c k := by
  obtain ⟨carts, -⟩ := State.finish_carts false s0 x c
  have kept : (State.finish false s0 x).carts[c].owed = x.carts[c].owed ∧
      (State.finish false s0 x).carts[c].tagCarry = x.carts[c].tagCarry ∧ (State.finish false s0 x).carts[c].state = x.carts[c].state := by
    rw [carts]
    unfold Cartridge.sendOwed
    split <;> exact ⟨rfl, rfl, rfl⟩
  obtain ⟨e1, e2, e3⟩ := kept
  refine ⟨?_, ?_, fun idle => ?_⟩
  · rw [e1, h.carts, ← owed, ← carry]; rfl
  · rw [e2, h.carts, ← carry]; rfl
  · have free : x.carts[c].link = none := by rw [h.carts]; exact link.trans idle
    rw [e1, e3, carts, ← now, ← h.now]
    unfold Cartridge.sendOwed
    simp only [free, Option.isNone_none, Bool.and_true, Bool.and_eq_true, decide_eq_true_eq]
    split
    · rfl
    · exact free

/-- What a refill that a step ends without a fault leaves. -/
theorem Closes.ended (h : Closes z x c k) (owed : z.carts[c].owed = s.carts[c].owed) (carry : z.carts[c].tagCarry = s.carts[c].tagCarry)
    (link : z.carts[c].link = s.carts[c].link) (now : z.now = s.now) {why : RefillEnd}
    (told : s.lane.events.length ≤ 32 → ⟨s.now, .refillDone c k.kind why k.strokes k.drawn x.accounts[c].level x.accounts[c].known⟩ ∈
      x.lane.events) : RefillEnded s (State.finish false s x) c k why := by
  have after := Follows.finish false s x
  refine ⟨(after.refills c).1.trans h.refill, after.holder.trans h.holder, h.deduction owed carry link now s, ?_⟩
  rw [after.accounts]
  exact tells_of_mem told after

end

/-! ## The check before a stroke (R63, R66) -/

/-- An emptied cartridge is EMPTY, and its record stands otherwise. -/
theorem State.emptied_frame (s : State) (c : Channel) : (s.emptied c).carts[c] = { s.carts[c] with state := .empty } ∧
    (s.emptied c).accounts = s.accounts ∧ (s.emptied c).now = s.now ∧ (s.emptied c).service.holder = s.service.holder := by
  by_cases h : s.carts[c].state = .empty
  · have same : s.emptied c = s := if_pos h
    rw [same]
    exact ⟨by rw [← h], rfl, rfl, rfl⟩
  · have written : s.emptied c = s.setCart c { s.carts[c] with state := .empty } true := if_neg h
    rw [written]
    have q := Quiet.setCart s c { s.carts[c] with state := .empty } true
    exact ⟨by rw [q.carts]; exact setAt_self .., q.accounts, q.now, q.holder⟩

/-- A step from s that finds refill k in z, with what it reads of c's cartridge as in s but for the state formed again. -/
structure Finds (s z : State) (c : Channel) (k : Refill) : Prop where
  refill : z.supply[c].refill = some k
  owed : z.carts[c].owed = s.carts[c].owed
  carry : z.carts[c].tagCarry = s.carts[c].tagCarry
  link : z.carts[c].link = s.carts[c].link
  now : z.now = s.now
  fresh : z.fresh 9 = s.fresh 9
  room : z.lane.events.length ≤ s.lane.events.length + 10
  identified : z.carts[c].state.identified = s.carts[c].state.identified
  unidentified : s.carts[c].state.identified = false → z.carts[c].state = s.carts[c].state

section

variable {s z : State} {c : Channel} {k : Refill} (h : Finds s z c k)
include h

theorem Finds.room_lt (room : s.lane.events.length ≤ 32) : z.lane.events.length < 60 := by have := h.room; omega

/-- A refill that ends without a fault where the step found it. -/
theorem Finds.ends (why : RefillEnd) : RefillEnded s (State.finish false s (z.endRefill c k why)) c k why := by
  have closes := Closes.endRefill z c k why
  refine closes.ended h.owed h.carry h.link h.now fun room => ?_
  rw [closes.accounts, ← h.now]
  exact endRefill_told z c k why (by have := h.room_lt room; omega)

/-- A refill that ends as its cartridge is found empty. -/
theorem Finds.ends_empty : RefillEnded s (State.finish false s ((z.emptied c).endRefill c k .cartridgeEmpty)) c k .cartridgeEmpty := by
  obtain ⟨carts, accounts, now, -⟩ := z.emptied_frame c
  have closes := Closes.endRefill (z.emptied c) c k .cartridgeEmpty
  refine closes.ended (by rw [carts]; exact h.owed) (by rw [carts]; exact h.carry) (by rw [carts]; exact h.link) (now.trans h.now)
    fun room => ?_
  rw [closes.accounts, ← h.now, ← now]
  exact endRefill_told (z.emptied c) c k .cartridgeEmpty
    (by have := (Refills.emptied z c).lane.length_le; have := h.room_lt room; omega)

/-- A refill that ends with REFILL FAULT. -/
theorem Finds.faults (why : RefillFaultReason) : let t := State.finish false s (z.faultRefill c k why)
    t.supply[c].refill = none ∧ t.service.holder = .free ∧ DeductionFormed s t c k ∧ t.supply[c].faultMark = true ∧
      t.supply[c].need = none ∧ t.lane.conditions.stationFault = true ∧
      s.tells t (.refillFault c k.kind why k.strokes k.drawn z.accounts[c].level) := by
  have closes := Closes.faultRefill z c k why
  obtain ⟨mark, need, fault, told⟩ := faultRefill_faults z c k why
  have after := Follows.finish false s (z.faultRefill c k why)
  refine ⟨(after.refills c).1.trans closes.refill, after.holder.trans closes.holder, closes.deduction h.owed h.carry h.link h.now s,
    (after.refills c).2.trans mark, ((State.finish_carts false s _ c).2 (.inl mark)).trans need, after.latched .stationFault fault,
    tells_of_mem (fun room => ?_) after⟩
  rw [← h.now]
  exact told (by have := h.room_lt room; omega)

theorem Finds.tried {empty : Prop} (he : s.carts[c].state.identified = true →
    (empty ↔ z.carts[c].state = .empty ∨ z.carts[c].remaining < k.strokeVolume)) :
    StrokeTried s (State.finish false s (z.beginStroke c)) c k z.accounts[c].level empty z.service.holder := by
  have tests := State.beginStroke_eq h.refill
  have limit_iff : z.atLimit c k = true ↔ k.kind = .fill ∧ (k.limit.getD 0 ≤ k.strokes ∨ 12000000 < z.accounts[c].level + k.strokeVolume) := by
    simp only [State.atLimit, Bool.and_eq_true, Bool.or_eq_true, decide_eq_true_eq]
  have stale_iff : (k.kind = .fill && !z.fresh 9) = true ↔ k.kind = .fill ∧ s.fresh 9 = false := by
    rw [h.fresh]
    simp only [Bool.and_eq_true, decide_eq_true_eq, Bool.not_eq_true']
  refine ⟨fun no => ?fault, fun yes => ⟨fun hempty => ?empty, fun full limited => ?limit, fun full free stale => ?stale,
    fun full free fresh => ?begins⟩⟩
  case fault =>
    rw [if_pos (by rw [h.identified, no]; rfl)] at tests
    rw [tests]
    refine ⟨?_, h.ends _⟩
    have carts := (Closes.endRefill z c k .cartridgeFault).carts
    have kept := congrArg Cartridge.state ((Follows.finish false s (z.endRefill c k .cartridgeFault)).carts c)
    rw [carts] at kept
    exact kept.trans (h.unidentified no)
  all_goals
    rw [if_neg (by rw [h.identified, yes]; exact Bool.false_ne_true)] at tests
  case empty =>
    rw [if_pos (by simpa [-Fin.getElem_fin] using (he yes).1 hempty)] at tests
    rw [tests]
    refine ⟨?_, h.ends_empty⟩
    have carts := (Closes.endRefill (z.emptied c) c k .cartridgeEmpty).carts
    have kept := congrArg Cartridge.state ((Follows.finish false s ((z.emptied c).endRefill c k .cartridgeEmpty)).carts c)
    rw [carts, (z.emptied_frame c).1] at kept
    exact kept
  all_goals
    rw [if_neg (by simpa [-Fin.getElem_fin] using mt (he yes).2 full)] at tests
  case limit =>
    rw [if_pos (limit_iff.2 limited)] at tests
    rw [tests]
    exact h.faults .strokeLimit
  all_goals
    rw [if_neg (mt limit_iff.1 free)] at tests
  case stale =>
    rw [if_pos (stale_iff.2 stale)] at tests
    rw [tests]
    exact h.faults .pressureStale
  case begins =>
    rw [if_neg (mt stale_iff.1 fresh)] at tests
    rw [tests]
    have after := Follows.finish false s (z.strokeBegun c k)
    refine ⟨after.holder, by rw [after.out]; rfl, (after.refills c).1.trans (congrArg Supply.refill (modifyAt_self ..)), ?_, ?_⟩
    · exact (congrArg Cartridge.owed (after.carts c)).trans h.owed
    · exact (congrArg Cartridge.tagCarry (after.carts c)).trans h.carry

end

end Sys2Proof.Machine
end

section
/-!
PROOFS. Family 17, refills: a stroke completed (R63 to R65), a refill granted (R62), and a dock that checks the first stroke.
-/

-- One declaration at a time: side by side, the threads' stacks come near the memory limit of the check.
set_option Elab.async false

namespace Sys2Proof.Machine

/-! ## What follows, with the parts that a later state has -/

theorem Follows.withSupply {u t : State} (h : Follows u t) : Follows { u with supply := t.supply } t := { h with refills := fun _ => ⟨rfl, rfl⟩ }

theorem Follows.withAccounts {u t : State} (h : Follows u t) : Follows { u with accounts := t.accounts } t := { h with accounts := rfl }

theorem Follows.withCarts {u t : State} (h : Follows u t) : Follows { u with carts := t.carts } t :=
  { h with carts := fun _ => rfl, links := fun _ _ => rfl }

theorem Follows.withService {u t : State} (h : Follows u t) : Follows { u with service := t.service } t :=
  { h with
    stamps := rfl, drops := rfl, capped := rfl, docked := rfl, holder := rfl, idleSince := rfl, uncapInFlight := rfl
    requests := fun r hr _ => ⟨r, hr, r.covers_self⟩, ladders := fun _ _ => rfl }

/-- What a refill's operation leaves beside the channel's own parts. -/
theorem Refills.follows {c : Channel} {n : Nat} {s x t : State} (h : Refills c n s x) (f : Follows x t) : Follows { s with
    accounts := t.accounts, supply := t.supply, carts := t.carts, service := t.service
    out := { s.out with station := t.out.station } } t := by
  have own := (((f.withSupply).withCarts).withAccounts).withService
  have base := Follows.of_raised (u := ({ s with
    accounts := t.accounts, supply := t.supply, carts := t.carts, service := t.service
    out := { s.out with station := t.out.station } } : State)) h.lane
  refine base.trans (Eq.mp (congrArg (Follows · t) ?_) own)
  have station : t.out.station = x.out.station := by rw [f.out]
  rw [station, h.frame]

/-- What a refill's operation leaves of the other channels. -/
theorem Refills.others_follow {c d : Channel} {n : Nat} {s x t : State} (h : Refills c n s x) (f : Follows x t) (hd : d ≠ c) :
    t.accounts[d] = s.accounts[d] ∧ t.supply[d].refill = s.supply[d].refill ∧ t.supply[d].faultMark = s.supply[d].faultMark ∧
      { t.carts[d] with link := s.carts[d].link } = s.carts[d] := by
  obtain ⟨h1, h2, h3, h4⟩ := h.others d hd
  have cart := f.carts d
  rw [h2] at cart
  exact ⟨by rw [f.accounts, h1], (f.refills d).1.trans h3, (f.refills d).2.trans h4, cart⟩

/-- Every check before a stroke leaves the accounts, and the volume in the cartridge. -/
theorem State.beginStroke_kept (s : State) (c : Channel) : (s.beginStroke c).accounts = s.accounts ∧
    (s.beginStroke c).carts[c].remaining = s.carts[c].remaining := by
  cases hk : s.supply[c].refill with
  | none => rw [State.beginStroke_of_none hk]; exact ⟨rfl, rfl⟩
  | some k =>
    have closes {z x : State} (h : Closes z x c k) (ha : z.accounts = s.accounts) (hr : z.carts[c].remaining = s.carts[c].remaining) :
        x.accounts = s.accounts ∧ x.carts[c].remaining = s.carts[c].remaining :=
      ⟨h.accounts.trans ha, (congrArg Cartridge.remaining h.carts).trans hr⟩
    rw [State.beginStroke_eq hk]
    split_ifs
    · exact closes (.endRefill ..) rfl rfl
    · obtain ⟨carts, accounts, -⟩ := s.emptied_frame c
      have remaining := congrArg Cartridge.remaining carts
      exact closes (.endRefill ..) accounts remaining
    · exact closes (.faultRefill ..) rfl rfl
    · exact closes (.faultRefill ..) rfl rfl
    · exact ⟨rfl, rfl⟩

/-! ## A stroke completed (R63 to R65) -/

theorem formedCart_identified (t : ChannelRec) (n : Nat) : (formedCart t n).identified = true := by
  unfold formedCart
  split_ifs <;> rfl

theorem formedCart_empty (t : ChannelRec) (n : Nat) : formedCart t n = .empty ↔ n < t.strokeVolume := by
  unfold formedCart
  split_ifs <;> simp_all

/-- An identified cartridge takes the state that its remaining gives. -/
theorem State.reformCart_frame (s : State) (c : Channel) :
    (s.reformCart c).carts[c] = { s.carts[c] with state :=
      if s.carts[c].state.identified then formedCart s.tables.channel[c] s.carts[c].remaining else s.carts[c].state } ∧
    (s.reformCart c).accounts = s.accounts ∧ (s.reformCart c).now = s.now ∧ (s.reformCart c).scan = s.scan ∧
    (s.reformCart c).tables = s.tables ∧ (s.reformCart c).service.holder = s.service.holder ∧
    (s.reformCart c).supply[c].refill = s.supply[c].refill ∧ (s.reformCart c).supply[c].faultMark = s.supply[c].faultMark := by
  by_cases changes : (s.carts[c].state.identified && s.carts[c].state ≠ formedCart s.tables.channel[c] s.carts[c].remaining) = true
  · have written : s.reformCart c = s.setCart c { s.carts[c] with state := formedCart s.tables.channel[c] s.carts[c].remaining } true :=
      if_pos changes
    rw [Bool.and_eq_true] at changes
    have q := Quiet.setCart s c { s.carts[c] with state := formedCart s.tables.channel[c] s.carts[c].remaining } true
    rw [written, if_pos changes.1]
    exact ⟨by rw [q.carts]; exact setAt_self .., q.accounts, q.now, by rw [q.frame], q.tables, q.holder, (q.refills c).1, (q.refills c).2⟩
  · have same : s.reformCart c = s := if_neg changes
    rw [same]
    refine ⟨?_, rfl, rfl, rfl, rfl, rfl, rfl, rfl⟩
    split
    next yes =>
      have : s.carts[c].state = formedCart s.tables.channel[c] s.carts[c].remaining := by simpa [-Fin.getElem_fin, yes] using changes
      rw [← this]
    next => rfl

theorem State.fresh_congr {s t : State} (now : t.now = s.now) (scan : t.scan = s.scan) (tables : t.tables = s.tables) (i : AIn) :
    t.fresh i = s.fresh i := by
  unfold State.fresh
  rw [now, scan, tables]

/-- The refill after a stroke, with the cartridge's state formed again. -/
def State.strokeCredited (s : State) (c : Channel) (k : Refill) : State := (s.strokeCounted c k).reformCart c

theorem State.strokeDone_credited (s : State) (c : Channel) (k : Refill) : s.strokeDone c k =
    if k.markSeen then (s.strokeCredited c k).markDetected c k.stroked
    else if k.stroked.reached (s.strokeCredited c k).accounts[c].level then (s.strokeCredited c k).endRefill c k.stroked .target
    else (s.strokeCredited c k).beginStroke c := rfl

theorem State.strokeCredited_frame (s : State) (c : Channel) (k : Refill) :
    (s.strokeCredited c k).accounts[c] = { s.accounts[c] with level := s.accounts[c].level + k.strokeVolume } ∧
    (s.strokeCredited c k).carts[c].remaining = s.carts[c].remaining - k.strokeVolume ∧
    (s.strokeCredited c k).service.holder = s.service.holder ∧
    (s.strokeCredited c k).supply[c].faultMark = s.supply[c].faultMark ∧ Finds s (s.strokeCredited c k) c k.stroked ∧
    (s.carts[c].state.identified = true → (s.strokeCredited c k).carts[c].state =
      formedCart s.tables.channel[c] (s.carts[c].remaining - k.strokeVolume)) := by
  obtain ⟨carts, accounts, now, scan, tables, holder, refill, mark⟩ := (s.strokeCounted c k).reformCart_frame c
  have cart : (s.strokeCounted c k).carts[c] = { s.carts[c] with remaining := s.carts[c].remaining - k.strokeVolume } := modifyAt_self ..
  have account : (s.strokeCounted c k).accounts[c] = { s.accounts[c] with level := s.accounts[c].level + k.strokeVolume } :=
    modifyAt_self ..
  have supply : (s.strokeCounted c k).supply[c] = { s.supply[c] with refill := some k.stroked } := modifyAt_self ..
  have lane := (Refills.reformCart (s.strokeCounted c k) c).lane.length_le
  rw [cart] at carts
  unfold State.strokeCredited
  generalize (s.strokeCounted c k).reformCart c = z at *
  have state : z.carts[c].state =
      if s.carts[c].state.identified then formedCart s.tables.channel[c] (s.carts[c].remaining - k.strokeVolume)
      else s.carts[c].state := by rw [carts]; rfl
  refine ⟨by rw [accounts]; exact account, by rw [carts], holder, by rw [mark, supply],
    ⟨by rw [refill, supply], by rw [carts], by rw [carts], by rw [carts], now, State.fresh_congr now scan tables 9,
      lane.trans (Nat.add_le_add_left (by omega) _), ?_, fun no => ?_⟩, fun yes => ?_⟩
  · rw [state]
    split
    next yes => rw [yes]; exact formedCart_identified ..
    next => rfl
  · rw [state, if_neg (by rw [no]; exact Bool.false_ne_true)]
  · rw [state, if_pos yes]

theorem Closes.markDetected (s : State) (c : Channel) (k : Refill) : Closes (s.markReached c k) (s.markDetected c k) c k :=
  (((Closes.closeRefill (s.markReached c k) c k).quiet (Quiet.refillDone _ c k .mark)).quiet (Quiet.raise ..)).quiet (Quiet.reformSupply _ c)

theorem markDetected_told (s : State) (c : Channel) (k : Refill) (room : s.lane.events.length < 60) :
    ⟨s.now, .refillDone c k.kind .mark k.strokes k.drawn k.markLevel true⟩ ∈ (s.markDetected c k).lane.events ∧
    ⟨s.now, .markDrift c s.accounts[c].level k.markLevel ((s.accounts[c].level : Int) - k.markLevel) s.accounts[c].known⟩ ∈
      (s.markDetected c k).lane.events := by
  have account : (s.markReached c k).accounts[c] = { s.accounts[c] with level := k.markLevel, known := true } := modifyAt_self ..
  have done := State.mem_raise ((s.markReached c k).closeRefill c k)
    (.refillDone c k.kind .mark k.strokes k.drawn (s.markReached c k).accounts[c].level (s.markReached c k).accounts[c].known)
    (by show s.lane.events.length < 64; omega)
  have drift := State.mem_raise (((s.markReached c k).closeRefill c k).refillDone c k .mark)
    (.markDrift c s.accounts[c].level k.markLevel ((s.accounts[c].level : Int) - k.markLevel) s.accounts[c].known)
    (by have := (Quiet.refillDone ((s.markReached c k).closeRefill c k) c k .mark).lane.length_le
        have : ((s.markReached c k).closeRefill c k).lane.events.length = s.lane.events.length := rfl
        omega)
  have event : Event.refillDone c k.kind .mark k.strokes k.drawn (s.markReached c k).accounts[c].level
      (s.markReached c k).accounts[c].known = .refillDone c k.kind .mark k.strokes k.drawn k.markLevel true := by rw [account]
  rw [← event]
  exact ⟨(Quiet.reformSupply _ c).lane.mem ((Quiet.raise _ _).lane.mem done), (Quiet.reformSupply _ c).lane.mem drift⟩

theorem markDetected_faultMark (s : State) (c : Channel) (k : Refill) :
    (s.markDetected c k).supply[c].faultMark = (s.supply[c].faultMark && decide (k.kind ≠ .fill)) := by
  have reached := congrArg Supply.faultMark (modifyAt_self s.supply c fun q => { q with faultMark := if k.kind = .fill then false else q.faultMark })
  have closed := congrArg Supply.faultMark (modifyAt_self (s.markReached c k).supply c fun q => { q with refill := none })
  refine ((Quiet.reformSupply _ c).refills c).2.trans (closed.trans (reached.trans ?_))
  by_cases h : k.kind = .fill <;> simp [h]

theorem strokeComplete_eq {s : State} {o : OpInFlight} {c : Channel} {k : Refill} (holder : s.service.holder = .op o)
    (running : o.running = true) (channel : o.req.op.refillChannel = some c) (refill : s.supply[c].refill = some k) :
    exec .refillStrokeComplete s = if k.inStroke then ends false s (s.strokeDone c k) else .next s := by
  have at_ : s.service.running.bind (·.req.op.refillChannel) = some c := by
    simp [Service.running, Service.inFlight, holder, running, channel]
  show execRefillStrokeComplete s = _
  unfold execRefillStrokeComplete
  rw [at_]
  dsimp only
  rw [refill]

theorem Refill.reached_iff (k : Refill) (level : Nat) : k.reached level = true ↔ ∃ x, k.target = some x ∧ x ≤ level := by
  unfold Refill.reached
  split
  next x h => simp [h]
  next h => simp [h]

/-- What a stroke completed leaves in the cartridge. -/
theorem State.strokeDone_remaining (s : State) (c : Channel) (k : Refill) :
    (s.strokeDone c k).carts[c].remaining = s.carts[c].remaining - k.strokeVolume := by
  obtain ⟨-, remaining, -⟩ := s.strokeCredited_frame c k
  rw [State.strokeDone_credited]
  generalize s.strokeCredited c k = z at remaining
  split_ifs
  · exact (congrArg Cartridge.remaining (Closes.markDetected z c k.stroked).carts).trans remaining
  · exact (congrArg Cartridge.remaining (Closes.endRefill z c k.stroked .target).carts).trans remaining
  · exact (z.beginStroke_kept c).2.trans remaining

/-- Settles O38: the stroke is credited, and the mark, the target or the next check follows. -/
theorem completedStrokeCreditsTheLevel : Obligations.CompletedStrokeCreditsTheLevel := by
  intro s o c k holder running channel refill v level k' rest
  have step := strokeComplete_eq holder running channel refill
  refine ⟨fun idle => by rw [step, idle]; rfl, fun stroke => ?_⟩
  rw [stroke, if_pos rfl] at step
  obtain ⟨account, remaining, held, mark, finds, state⟩ := s.strokeCredited_frame c k
  have h := Refills.strokeDone s c k
  have after := Follows.finish false s (s.strokeDone c k)
  have drained := s.strokeDone_remaining c k
  have branches := s.strokeDone_credited c k
  generalize s.strokeCredited c k = z at account remaining held mark finds state branches
  refine ⟨_, step, h.follows after, (congrArg Cartridge.remaining (after.carts c)).trans drained, fun d hd => ?_, fun seen => ?_,
    fun unseen => ?_⟩
  · obtain ⟨h1, h2, -, h4⟩ := h.others_follow after hd
    exact ⟨h1, h2, h4⟩
  · rw [if_pos seen] at branches
    rw [branches] at after ⊢
    have closes := Closes.markDetected z c k.stroked
    have marked : (z.markDetected c k.stroked).accounts[c] = { s.accounts[c] with level := k.markLevel, known := true } := by
      rw [closes.accounts]
      refine (modifyAt_self ..).trans ?_
      rw [account]
      rfl
    have told := fun room => markDetected_told z c k.stroked (finds.room_lt room)
    have owed := finds.owed
    have carry := finds.carry
    have link := finds.link
    refine ⟨by rw [after.accounts]; exact marked, closes.ended owed carry link finds.now fun room => ?_, ?_,
      tells_of_mem (fun room => ?_) after⟩
    · rw [marked, ← finds.now]
      exact (told room).1
    · rw [(after.refills c).2, markDetected_faultMark, mark]
      rfl
    · have drift := (told room).2
      rw [account, finds.now] at drift
      exact drift
  · rw [if_neg (by rw [unseen]; exact Bool.false_ne_true)] at branches
    have reached : k.stroked.reached z.accounts[c].level = true ↔ ∃ x, k.target = some x ∧ x ≤ level := by
      rw [Refill.reached_iff, account]
      rfl
    refine ⟨?_, fun x target le => ?_, fun short => ?_⟩
    · have same : (s.strokeDone c k).accounts = z.accounts := by
        split at branches <;> rw [branches]
        · exact (Closes.endRefill z c k.stroked .target).accounts
        · exact (z.beginStroke_kept c).1
      rw [after.accounts, same]
      exact account
    · rw [if_pos (reached.2 ⟨x, target, le⟩)] at branches
      rw [branches]
      exact finds.ends .target
    · rw [if_neg (mt reached.1 fun ⟨x, target, le⟩ => absurd (short x target) (by omega))] at branches
      rw [branches]
      have tried := finds.tried (empty := rest < v ∨ rest < s.tables.channel[c].strokeVolume) fun yes => by
        rw [state yes, formedCart_empty, remaining]
        exact Or.comm
      rw [account, held] at tried
      exact tried

end Sys2Proof.Machine
end

section
/-!
PROOFS. Families 14 and 17, the dock reported (R109) and a refill granted (R62).
-/

-- One declaration at a time: side by side, the threads' stacks come near the memory limit of the check.
set_option Elab.async false

namespace Sys2Proof.Machine

/-! ## DOCK REPORTED (R109) -/

/-- The carriage stands DOCKED. -/
def State.dockMade (s : State) : State := { s with service := { s.service with docked := true } }

theorem State.docks_made (s : State) : s.docks = match s.service.inFlight with
    | some o => if o.running then s.dockMade else s.dockMade.beginSequence o
    | none => s.dockMade := rfl

theorem StationOp.uncaps_of_notRefill {op : StationOp} (h : op.refillChannel = none) : op.uncaps = decide (op ≠ .cap) := by
  cases op <;> first | rfl | cases h

/-- A carriage holder that runs no sequence is left by a dock. -/
theorem docks_of_running {s : State} (h : ∀ o, s.service.holder = .op o → o.running = true) : s.docks = s.dockMade := by
  rw [State.docks_made]
  split
  next o ho => exact if_pos (h o (Service.inFlight_eq_some.1 ho))
  next => rfl

theorem docks_of_waiting {s : State} {o : OpInFlight} (holder : s.service.holder = .op o) (waits : o.running = false) :
    s.docks = s.dockMade.beginSequence o := by
  rw [State.docks_made, Service.inFlight_eq_some.2 holder]
  exact if_neg (by rw [waits]; exact Bool.false_ne_true)

theorem dockReported_eq (s : State) : exec .dockReported s =
    if !s.service.docked && s.out.carriage = .dock then ends false s s.docks else .next s := rfl

/-- The sequence of a refill finds its record as it was. -/
theorem Finds.of_supply {s z : State} {c : Channel} {k : Refill} (refill : s.supply[c].refill = some k) (supply : z.supply = s.supply := by rfl)
    (carts : z.carts = s.carts := by rfl) (now : z.now = s.now := by rfl) (scan : z.scan = s.scan := by rfl)
    (tables : z.tables = s.tables := by rfl) (lane : z.lane = s.lane := by rfl) : Finds s z c k where
  refill := by rw [supply]; exact refill
  owed := by rw [carts]
  carry := by rw [carts]
  link := by rw [carts]
  now := now
  fresh := State.fresh_congr now scan tables 9
  room := by rw [lane]; omega
  identified := by rw [carts]
  unidentified _ := by rw [carts]

/-- A stroke whose checks pass is begun. -/
theorem beginStroke_of_fits {s : State} {c : Channel} {k : Refill} (refill : s.supply[c].refill = some k) (fits : s.strokeFits c k) :
    s.beginStroke c = s.strokeBegun c k := by
  obtain ⟨state, volume, limits⟩ := fits
  have identified : s.carts[c].state.identified = true ∧ s.carts[c].state ≠ .empty := by rcases state with h | h <;> rw [h] <;> exact ⟨rfl, nofun⟩
  have free : s.atLimit c k = false := by
    rw [Bool.eq_false_iff]
    simp only [State.atLimit, ne_eq, Bool.and_eq_true, Bool.or_eq_true, decide_eq_true_eq]
    rintro ⟨fill, limited⟩
    obtain ⟨strokes, level, -⟩ := limits fill
    omega
  have fresh : ¬ (k.kind = .fill && !s.fresh 9) = true := by
    simp only [Bool.and_eq_true, decide_eq_true_eq, Bool.not_eq_true']
    rintro ⟨fill, stale⟩
    rw [(limits fill).2.2] at stale
    cases stale
  rw [State.beginStroke_eq refill, if_neg (by rw [identified.1]; exact Bool.false_ne_true),
    if_neg (by simp only [Bool.or_eq_true, decide_eq_true_eq]; rintro (h | h); exacts [identified.2 h, by omega]),
    if_neg (by rw [free]; exact Bool.false_ne_true), if_neg fresh]

section

variable {s : State} {o : OpInFlight}

/-- The operation whose sequence a dock runs, as the dock leaves it. -/
def State.dockedOp (s : State) (o : OpInFlight) : OpInFlight :=
  { o with running := true, purge := s.purgeOf o.req.op, spit := s.tables.spitCounts }

theorem dock_sequences (notRefill : o.req.op.refillChannel = none) : s.dockMade.beginSequence o =
    (s.dockMade.sequenced o).uncappedFor o.req.op := beginSequence_of_notRefill notRefill

theorem dock_strokes {c : Channel} (refill : o.req.op.refillChannel = some c) : s.dockMade.beginSequence o =
    (s.dockMade.sequenced o).beginStroke c := by
  rw [State.beginSequence_eq, refill]
  dsimp only
  have same : (s.dockMade.sequenced o).uncappedFor o.req.op = s.dockMade.sequenced o := by
    unfold State.uncappedFor
    rw [StationOp.uncaps_of_refill refill]
    rfl
  rw [same]

theorem purgeOf_refill {c : Channel} (refill : o.req.op.refillChannel = some c) (u : State) : u.purgeOf o.req.op = none := by
  unfold State.purgeOf
  split
  next h => rw [h] at refill; cases refill
  next => rfl

end

/-- Settles O34. -/
theorem dockRunsTheSequence : Obligations.DockRunsTheSequence := by
  refine fun s => ⟨fun no => ?ignored, fun undocked commanded => ⟨fun runs => ?late, fun o holder waits => ⟨fun plain => ?sequence,
    fun c k channel refill => ⟨fun fits => ?begins, ?checked⟩⟩⟩⟩
  case ignored =>
    rw [dockReported_eq]
    refine if_neg ?_
    rw [Bool.and_eq_true, Bool.not_eq_true', decide_eq_true_eq]
    rintro ⟨h1, h2⟩
    rcases no with h | h
    · rw [h] at h1; cases h1
    · exact h h2
  all_goals
    have step : exec .dockReported s = ends false s s.docks := by
      rw [dockReported_eq]
      exact if_pos (by simp [undocked, commanded])
  case late =>
    rw [docks_of_running runs] at step
    exact runs_of_ends false step
  case sequence =>
    rw [docks_of_waiting holder waits, dock_sequences plain] at step
    obtain ⟨frame, stamps⟩ := (s.dockMade.sequenced o).uncappedFor_frame o.req.op
    generalize (s.dockMade.sequenced o).uncappedFor o.req.op = x at step frame stamps
    obtain ⟨t, ht, follows⟩ := ends_follows false s x
    have uncaps : (o.req.op.uncaps && s.service.capped) = (s.service.capped && decide (o.req.op ≠ .cap)) := by
      rw [StationOp.uncaps_of_notRefill plain, Bool.and_comm]
    refine ⟨t, step.trans ht, ?_, fun c g => ?_⟩
    · have capped : ((s.dockMade.sequenced o).service.capped && !o.req.op.uncaps) =
          (s.service.capped && !(s.service.capped && decide (o.req.op ≠ .cap))) := by
        rw [← StationOp.uncaps_of_notRefill plain]
        show (s.service.capped && !o.req.op.uncaps) = _
        cases s.service.capped <;> rfl
      have flight : (if (o.req.op.uncaps && (s.dockMade.sequenced o).service.capped) = true then false
          else (s.dockMade.sequenced o).service.uncapInFlight) =
          (s.service.uncapInFlight && !(s.service.capped && decide (o.req.op ≠ .cap))) := by
        rw [← uncaps]
        show (if (o.req.op.uncaps && s.service.capped) = true then false else s.service.uncapInFlight) = _
        cases (o.req.op.uncaps && s.service.capped) <;> simp
      rw [capped, flight] at frame
      rw [follows.stamps]
      rw [frame] at follows
      exact follows
    · rw [follows.stamps, stamps]
      show (if (o.req.op.uncaps && s.service.capped) = true then _ else _) = _
      rw [uncaps]
      rfl
  all_goals
    rw [docks_of_waiting holder waits, dock_strokes channel] at step
    have finds : Finds s (s.dockMade.sequenced o) c k := .of_supply refill
    have held : (s.dockMade.sequenced o).service.holder = .op { o with running := true, purge := none, spit := s.tables.spitCounts } := by
      rw [← purgeOf_refill channel s.dockMade]
      rfl
  case begins =>
    rw [beginStroke_of_fits finds.refill fits] at step
    obtain ⟨t, ht, follows⟩ := ends_follows false s ((s.dockMade.sequenced o).strokeBegun c k)
    refine ⟨t, step.trans ht, ?_, (follows.refills c).1.trans (congrArg Supply.refill (modifyAt_self ..)), fun d hd =>
      (follows.refills d).1.trans (congrArg Supply.refill (modifyAt_ne hd _))⟩
    have begun : ({ (s.dockMade.sequenced o).strokeBegun c k with supply := t.supply } : State) = { s with
        service := { s.service with
          docked := true, holder := .op { o with running := true, purge := none, spit := s.tables.spitCounts } }
        supply := t.supply, out := { s.out with station := .stroke c } } := by
      rw [← held]
      rfl
    rw [← begun]
    exact follows.withSupply
  case checked =>
    have h := Refills.beginStroke (s.dockMade.sequenced o) c
    have tried := finds.tried (empty := s.carts[c].state = .empty ∨ s.carts[c].remaining < k.strokeVolume) fun _ => Iff.rfl
    have after := Follows.finish false s ((s.dockMade.sequenced o).beginStroke c)
    have kept : ((s.dockMade.sequenced o).beginStroke c).accounts = s.accounts := ((s.dockMade.sequenced o).beginStroke_kept c).1
    generalize (s.dockMade.sequenced o).beginStroke c = x at step h tried after kept
    have same : (s.dockMade.sequenced o).accounts[c].level = s.accounts[c].level := rfl
    rw [held, same] at tried
    have step' : exec .dockReported s = .next (State.finish false s x) := step
    generalize State.finish false s x = t at step' tried after
    have own := h.follows after
    rw [after.accounts.trans kept] at own
    refine ⟨t, step', own, ?_, ?_, ?_, fun q hq hc ho => after.covers ho (h.requests q hq hc ho), fun d hd => ?_, tried⟩
    · rw [after.docked, h.frame]; rfl
    · rw [after.stamps, h.frame]; rfl
    · rw [after.capped, h.frame]; rfl
    · obtain ⟨-, h2, -, h4⟩ := h.others_follow after hd
      exact ⟨h2, h4⟩

/-! ## A refill granted (R62, R64) -/

theorem RefillKind.op_frame (k : RefillKind) (c : Channel) : (k.op c).refillChannel = some c ∧ (k.op c).refillKind = some k ∧
    (k.op c).uncaps = false ∧ ∀ t, (k.op c).timeout t = t.refillTimeout := by cases k <;> exact ⟨rfl, rfl, rfl, fun _ => rfl⟩

/-- The state that a refill's grant writes its record in (R109): its operation runs where the carriage is docked. -/
def State.grantedRefill (s : State) (r : Request) : State :=
  { s with
    service := { s.service with
      pending := s.service.pending.filter fun q => q ≠ r
      holder := .op ⟨r, s.now, s.now + s.tables.service.refillTimeout, s.service.docked, none, s.tables.spitCounts, false⟩
      uncapInFlight := false }
    out := if s.service.docked then s.out else { s.out with carriage := .dock } }

theorem grantOp_refill {s : State} {r : Request} {c : Channel} {k : RefillKind} (hr : r.op = k.op c) :
    s.grantOp r = (s.grantedRefill r).startRefill c k r.amount := by
  obtain ⟨channel, kind, uncaps, timeout⟩ := k.op_frame c
  rw [← hr] at channel kind uncaps timeout
  rw [State.grantOp_eq, channel, kind]
  dsimp only
  cases docked : s.service.docked with
  | true =>
    rw [if_pos rfl]
    have same : (s.granted r).refillRuns (s.grantedOp r) = s.grantedRefill r := by
      rw [State.granted_docked docked]
      simp [State.refillRuns, State.grantedRefill, State.grantedOp, docked, timeout]
    rw [same]
  | false =>
    rw [if_neg Bool.false_ne_true]
    have same : s.granted r = s.grantedRefill r := by
      rw [State.granted_undocked docked, uncaps]
      simp [State.grantedRefill, State.grantedOp, docked, timeout]
    rw [same]

/-- A refill's record written, before the supply state is formed. -/
def State.refillEntered (s : State) (c : Channel) (kind : RefillKind) (a : Option Nat) : State :=
  { s.zeroed c kind with supply := modifyAt s.supply c fun q => { q with
      refill := some (newRefill s.tables.channel[c] s.accounts[c].reserved kind a) } }

theorem State.refillWritten_entered (s : State) (c : Channel) (kind : RefillKind) (a : Option Nat) :
    s.refillWritten c kind a = (s.refillEntered c kind a).reformSupply c := rfl

/-- The level that a refill counts from. -/
theorem State.zeroed_accounts (s : State) (c : Channel) (kind : RefillKind) (d : Channel) : (s.zeroed c kind).accounts[d] =
    if d = c then { s.accounts[c] with level := if kind = .fill ∧ s.accounts[c].known = false then 0 else s.accounts[c].level }
    else s.accounts[d] := by
  unfold State.zeroed
  dsimp only
  by_cases unknown : kind = .fill ∧ s.accounts[c].known = false
  · simp only [if_pos unknown]
    by_cases e : d = c
    · subst e
      rw [if_pos rfl]
      exact modifyAt_self ..
    · rw [if_neg e]
      exact modifyAt_ne e _
  · simp only [if_neg unknown]
    split
    next e => rw [e]
    next => rfl

theorem Finds.refillWritten (s : State) (c : Channel) (kind : RefillKind) (a : Option Nat) :
    Finds s (s.refillWritten c kind a) c (newRefill s.tables.channel[c] s.accounts[c].reserved kind a) := by
  have q := Quiet.reformSupply (s.refillEntered c kind a) c
  rw [State.refillWritten_entered]
  exact {
    refill := (q.refills c).1.trans (congrArg Supply.refill (modifyAt_self ..))
    owed := by rw [q.carts]; rfl
    carry := by rw [q.carts]; rfl
    link := by rw [q.carts]; rfl
    now := q.now
    fresh := State.fresh_congr q.now (by rw [q.frame]) q.tables 9
    room := q.lane.length_le.trans (Nat.add_le_add_left (by omega) _)
    identified := by rw [q.carts]; rfl
    unidentified := fun _ => by rw [q.carts]; rfl }

theorem State.closeRefill_carts (s : State) (c : Channel) (k : Refill) (d : Channel) :
    (s.closeRefill c k).carts[d] = if d = c then s.carts[d].drained k else s.carts[d] := getElem_modifyAt ..

theorem State.closeRefill_supply (s : State) (c : Channel) (k : Refill) (d : Channel) :
    (s.closeRefill c k).supply[d] = if d = c then { s.supply[d] with refill := none } else s.supply[d] := getElem_modifyAt ..

/-- A refill closed in what follows. -/
theorem Follows.closeRefill {u v : State} (h : Follows u v) (c : Channel) (k : Refill) : Follows (u.closeRefill c k) (v.closeRefill c k) :=
  { h with
    carts := fun d => by
      have kept := h.carts d
      rw [State.closeRefill_carts, State.closeRefill_carts]
      split
      · rw [← kept]; rfl
      · exact kept
    links := fun d hd => by
      have kept := h.links d
      rw [State.closeRefill_carts] at hd
      rw [State.closeRefill_carts, State.closeRefill_carts]
      split at hd
      next e => rw [if_pos e, if_pos e]; exact kept hd
      next e => rw [if_neg e, if_neg e]; exact kept hd
    refills := fun d => by
      obtain ⟨refill, mark⟩ := h.refills d
      rw [State.closeRefill_supply, State.closeRefill_supply]
      split
      · exact ⟨rfl, mark⟩
      · exact ⟨refill, mark⟩
    holder := rfl
    idleSince := h.now
    uncapInFlight := rfl
    out := congrArg (fun o : Outputs => { o with station := .closeValve c }) h.out
    stamps := h.stamps, drops := h.drops, capped := h.capped, docked := h.docked, requests := h.requests, ladders := h.ladders }

/-- The end of a refill in what follows it. -/
theorem Follows.endRefill {u v : State} (h : Follows u v) (c : Channel) (k : Refill) (why : RefillEnd) :
    Follows (u.closeRefill c k) (v.endRefill c k why) :=
  ((h.closeRefill c k).trans (.raise ..)).trans (.reformSupply ..)

/-- Settles O28: the record is written, and the refill ends at its target, waits for the dock, or tries its first stroke. -/
theorem grantedRefillWritesItsRecord : Obligations.GrantedRefillWritesItsRecord := by
  intro s r c k first hr t0 target k0 reached others op level fields
  have step := arbiterGrant_first first
  rw [grantOp_refill hr] at step
  have h := Refills.startRefill (s.grantedRefill r) c k r.amount
  have start : (s.grantedRefill r).startRefill c k r.amount =
      if k0.reached ((s.grantedRefill r).refillWritten c k r.amount).accounts[c].level then
        ((s.grantedRefill r).refillWritten c k r.amount).endRefill c k0 .target
      else if ((s.grantedRefill r).refillWritten c k r.amount).service.docked then
        ((s.grantedRefill r).refillWritten c k r.amount).beginStroke c
      else (s.grantedRefill r).refillWritten c k r.amount := State.startRefill_eq ..
  have finds : Finds s ((s.grantedRefill r).refillWritten c k r.amount) c k0 := by
    have f := Finds.refillWritten (s.grantedRefill r) c k r.amount
    exact ⟨f.refill, f.owed, f.carry, f.link, f.now, f.fresh, f.room, f.identified, f.unidentified⟩
  have mark : ((s.grantedRefill r).refillWritten c k r.amount).supply[c].faultMark = s.supply[c].faultMark := by
    have written := congrArg Supply.faultMark (modifyAt_self s.supply c fun q => { q with refill := some k0 })
    exact ((Quiet.reformSupply _ c).refills c).2.trans written
  have entered : Follows ((s.grantedRefill r).refillEntered c k r.amount) ((s.grantedRefill r).refillWritten c k r.amount) :=
    .reformSupply ..
  have accounts (d : Channel) : ((s.grantedRefill r).refillWritten c k r.amount).accounts[d] =
      if d = c then { s.accounts[c] with level := level } else s.accounts[d] := by
    rw [entered.accounts]
    exact (s.grantedRefill r).zeroed_accounts c k d
  have reaches : k0.reached ((s.grantedRefill r).refillWritten c k r.amount).accounts[c].level = true ↔ reached := by
    rw [Refill.reached_iff, accounts, if_pos rfl]
    cases k
    case fill =>
      have never (x : Nat) : ¬ target = some x := nofun
      constructor <;> exact fun ⟨x, hx, _⟩ => absurd hx (never x)
    all_goals exact Iff.rfl
  have written : Refills c 2 (s.grantedRefill r) ((s.grantedRefill r).refillWritten c k r.amount) := .refillWritten ..
  have docks : ((s.grantedRefill r).refillWritten c k r.amount).service.docked = s.service.docked := by rw [written.frame]; rfl
  have held : ((s.grantedRefill r).refillWritten c k r.amount).service.holder = op s.service.docked := entered.holder
  have base : (s.grantedRefill r).refillEntered c k r.amount = { s with
      service := { s.service with pending := others, holder := op s.service.docked, uncapInFlight := false }
      accounts := ((s.grantedRefill r).refillEntered c k r.amount).accounts
      supply := ((s.grantedRefill r).refillEntered c k r.amount).supply
      out := if s.service.docked then s.out else { s.out with carriage := .dock } } := rfl
  have untouched : k ≠ .fill → ((s.grantedRefill r).refillEntered c k r.amount).accounts = s.accounts := fun h => if_neg fun fill => h fill.1
  have carts : ((s.grantedRefill r).refillWritten c k r.amount).carts = s.carts := (Quiet.reformSupply _ c).carts
  generalize (s.grantedRefill r).refillEntered c k r.amount = y at entered base untouched
  generalize (s.grantedRefill r).refillWritten c k r.amount = w at *
  refine ⟨fun short undocked => ?waits, fun hit => ?ends, fun short docked => ?tries⟩
  case waits =>
    rw [if_neg (mt reaches.1 short), if_neg (by rw [docks, undocked]; exact Bool.false_ne_true)] at start
    rw [start] at step h
    have after := Follows.finish false s w
    have fields_w : fields (State.finish false s w) := by
      refine ⟨fun d => by rw [after.accounts]; exact accounts d, fun d hd => ?_⟩
      obtain ⟨-, h2, h3, h4⟩ := h.others_follow after hd
      exact ⟨h2, h3, h4⟩
    have holder : op s.service.docked = op false := by rw [undocked]
    have out : (if s.service.docked then s.out else { s.out with carriage := .dock }) = { s.out with carriage := .dock } :=
      if_neg (by rw [undocked]; exact Bool.false_ne_true)
    rw [holder, out] at base
    have own := ((entered.trans after).withSupply).withAccounts
    have step' : exec .arbiterGrant s = .next (State.finish false s w) := step
    generalize State.finish false s w = t at *
    rw [base] at own
    exact ⟨t, step', fields_w, own, (after.refills c).1.trans finds.refill, (after.refills c).2.trans mark⟩
  case ends =>
    rw [if_pos (reaches.2 hit)] at start
    rw [start] at step h
    have after := Follows.finish false s (w.endRefill c k0 .target)
    have closes := Closes.endRefill w c k0 .target
    have fields_w : fields (State.finish false s (w.endRefill c k0 .target)) := by
      refine ⟨fun d => by rw [after.accounts, closes.accounts]; exact accounts d, fun d hd => ?_⟩
      obtain ⟨-, h2, h3, h4⟩ := h.others_follow after hd
      exact ⟨h2, h3, h4⟩
    have notFill : k ≠ .fill := by
      rintro rfl
      obtain ⟨x, hx, -⟩ := hit
      exact absurd hx nofun
    have own := (((entered.endRefill c k0 .target).trans after).withSupply).withCarts
    refine ⟨_, step, fields_w, ?_, (after.refills c).2.trans ((endRefill_faultMark ..).trans mark), finds.ends .target⟩
    rw [untouched notFill] at base
    rw [base] at own
    generalize State.finish false s (w.endRefill c k0 .target) = t at own ⊢
    have out (b : Bool) : ({ (if b then s.out else { s.out with carriage := .dock }) with station := .closeValve c } : Outputs) =
        { s.out with station := .closeValve c, carriage := if b then s.out.carriage else .dock } := by cases b <;> rfl
    rw [← out]
    exact own
  case tries =>
    rw [if_neg (mt reaches.1 short), if_pos (by rw [docks]; exact docked)] at start
    rw [start] at step h
    have tried := finds.tried (empty := s.carts[c].state = .empty ∨ s.carts[c].remaining < t0.strokeVolume)
      fun _ => by rw [carts]
    have running : op s.service.docked = op true := by rw [docked]
    rw [accounts, if_pos rfl, held, running] at tried
    have out : (s.grantedRefill r).out = s.out := if_pos docked
    have after := Follows.finish false s (w.beginStroke c)
    have kept := (w.beginStroke_kept c).1
    have step' : exec .arbiterGrant s = .next (State.finish false s (w.beginStroke c)) := step
    generalize w.beginStroke c = x at *
    generalize State.finish false s x = t at *
    have own := h.follows after
    rw [out] at own
    refine ⟨t, step', ⟨fun d => ?_, fun d hd => ?_⟩, own, fun q hq hc ho => after.covers ho (h.requests q hq hc ho), ?_, ?_, ?_, tried⟩
    · rw [after.accounts, kept]
      exact accounts d
    · obtain ⟨-, h2, h3, h4⟩ := h.others_follow after hd
      exact ⟨h2, h3, h4⟩
    · rw [after.docked, h.frame]
      exact docked
    · rw [after.stamps, h.frame]
      rfl
    · rw [after.capped, h.frame]
      rfl

end Sys2Proof.Machine
end

section
/-!
PROOFS. Family 11, slices (R5 to R11) and the opening of a swath (R3, R4, R91 to R93).
-/

-- One declaration at a time: side by side, the threads' stacks come near the memory limit of the check.
set_option Elab.async false

namespace Sys2Proof.Machine

/-! ## Slices refused (R5, R6, R7, R11) -/

theorem SliceArgs.inRange_iff (a : SliceArgs) (sl : Slot) : a.inRange sl = true ↔ a.fits sl := by
  unfold SliceArgs.inRange SliceArgs.endColumn SliceArgs.fits
  simp only [Bool.and_eq_true, decide_eq_true_eq, and_assoc]

theorem Slot.inOrder_iff (sl : Slot) (c : Channel) (first : Nat) : sl.inOrder c first = true ↔ ∀ l, sl.lastWritten[c] = some l → l < first := by
  unfold Slot.inOrder
  split
  next l h => simp only [decide_eq_true_eq, h, Option.some.injEq, forall_eq']
  next h => simp only [h, reduceCtorEq, false_implies, implies_true]

/-- The slot's record once a slice has been counted on it (R5). -/
def Slot.counted (sl : Slot) : Slot := { sl with slices := min (sl.slices + 1) 4294967295 }

theorem Slot.counted_fits (sl : Slot) (a : SliceArgs) : a.fits sl.counted ↔ a.fits sl := Iff.rfl

theorem State.admitSlice_range {s : State} {a : SliceArgs} {i : SlotIx} (h : 6 ≤ a.channel ∨ ¬ a.fits s.slots[i]) :
    s.admitSlice a i = (s.sliceCounted i).refuseSlice a .range (some s.slots[i].counted.slices) := by
  unfold State.admitSlice
  dsimp only
  split
  next channel =>
    have bad : a.inRange s.slots[i].counted = false := by
      rw [Bool.eq_false_iff, ne_eq, SliceArgs.inRange_iff, Slot.counted_fits]
      exact h.resolve_left (by omega)
    exact if_pos (by show (!a.inRange s.slots[i].counted) = true; rw [bad]; rfl)
  next => rfl

theorem State.admitSlice_fits {s : State} {a : SliceArgs} {i : SlotIx} {c : Channel} (hc : a.channel = c.val) (h : a.fits s.slots[i]) :
    s.admitSlice a i = if s.slots[i].inOrder c a.first then s.sliceTaken a i c
      else (s.sliceCounted i).refuseSlice a .order (some s.slots[i].counted.slices) := by
  have good : a.inRange s.slots[i].counted = true := (SliceArgs.inRange_iff ..).2 h
  have channel : a.channel < 6 := by omega
  obtain rfl : c = ⟨a.channel, channel⟩ := Fin.ext hc.symm
  have admitted : s.admitSlice a i = if !a.inRange s.slots[i].counted then _
      else if !s.slots[i].counted.inOrder ⟨a.channel, channel⟩ a.first
        then (s.sliceCounted i).refuseSlice a .order (some s.slots[i].counted.slices)
      else s.sliceTaken a i ⟨a.channel, channel⟩ := dif_pos channel
  rw [admitted, good, if_neg (by decide)]
  have order : s.slots[i].counted.inOrder ⟨a.channel, channel⟩ a.first = s.slots[i].inOrder ⟨a.channel, channel⟩ a.first := rfl
  rw [order]
  cases s.slots[i].inOrder ⟨a.channel, channel⟩ a.first <;> rfl

section

variable {s : State} {tag : Byte} {body : List Byte} (h : s.lane.rx.head? = some ⟨0x02#8, tag, body⟩)
include h

theorem slice_ends : exec .slice s = ends false s (s.popped.sliceEffect body) := by
  show execSlice s = _
  unfold execSlice
  cases hr : s.lane.rx with
  | nil => rw [hr] at h; cases h
  | cons f l =>
    rw [hr] at h
    cases h
    rfl

/-- A slice refused in a state that has counted what it counts. -/
theorem slice_refused {u : State} {e : Event} (effect : s.popped.sliceEffect body = u.raise e) (now : u.now = s.now)
    (events : u.lane.events = s.lane.events) : ∃ t, exec .slice s = .next t ∧ Follows u t ∧ s.tells t e := by
  have step := slice_ends h
  rw [effect] at step
  obtain ⟨t, ht, follows⟩ := ends_follows false s (u.raise e)
  refine ⟨t, step.trans ht, (Follows.raise u e).trans follows, tells_of_mem (fun room => ?_) follows⟩
  rw [← now]
  exact State.mem_raise u e (by rw [events]; omega)

end

theorem State.sliceEffect_slot {s : State} {body : List Byte} {a : SliceArgs} (read : readSlice body = some a) {i : SlotIx} (hi : a.slot = i.val) :
    s.sliceEffect body = if s.slots[i].state = .composing then s.admitSlice a i else s.refuseSlice a .state (some s.slots[i].slices) := by
  have slot : a.slot < 8 := by omega
  obtain rfl : i = ⟨a.slot, slot⟩ := Fin.ext hi.symm
  unfold State.sliceEffect
  rw [read]
  exact dif_pos slot

/-- Settles O11. -/
theorem refusedSliceOnlyCounts : Obligations.RefusedSliceOnlyCounts := by
  refine fun s tag body h => ⟨fun unread => ?unread, fun a read => ⟨fun beyond => ?beyond, fun i hi =>
    ⟨fun closed => ?closed, fun composing => ⟨fun bad => ?range, fun c l hc fits last le => ?order⟩⟩⟩⟩
  case unread =>
    refine slice_refused h ?_ rfl rfl
    unfold State.sliceEffect
    rw [unread]
    rfl
  case beyond =>
    refine slice_refused h ?_ rfl rfl
    unfold State.sliceEffect
    rw [read]
    exact dif_neg (by omega)
  case closed =>
    refine slice_refused h ?_ rfl rfl
    rw [State.sliceEffect_slot read hi]
    exact if_neg closed
  case range =>
    have effect : s.popped.sliceEffect body = (s.popped.sliceCounted i).refuseSlice a .range (some s.slots[i].counted.slices) := by
      rw [State.sliceEffect_slot read hi]
      exact (if_pos composing).trans (State.admitSlice_range bad)
    exact slice_refused h effect rfl rfl
  case order =>
    have effect : s.popped.sliceEffect body = (s.popped.sliceCounted i).refuseSlice a .order (some s.slots[i].counted.slices) := by
      rw [State.sliceEffect_slot read hi]
      refine (if_pos composing).trans ((State.admitSlice_fits (s := s.popped) hc fits).trans (if_neg ?_))
      show ¬ s.slots[i].inOrder c a.first = true
      rw [Slot.inOrder_iff]
      intro order
      have := order l last
      omega
    exact slice_refused h effect rfl rfl

end Sys2Proof.Machine
end

section
/-!
PROOFS. An accepted slice (R8 to R10): what it counts, and which bytes it stores.
-/

-- One declaration at a time: side by side, the threads' stacks come near the memory limit of the check.
set_option Elab.async false

namespace Sys2Proof.Machine

/-! ## Drops counted (R9, R10) -/

/-- The count of a size. -/
def Counts.of (k : Counts) : DropSize → Nat
  | .small => k.small
  | .medium => k.medium
  | .large => k.large

theorem Counts.ext_of {a b : Counts} (h : ∀ z, a.of z = b.of z) : a = b := by
  obtain ⟨a1, a2, a3⟩ := a
  obtain ⟨b1, b2, b3⟩ := b
  have h1 := h .small
  have h2 := h .medium
  have h3 := h .large
  simp only [Counts.of] at h1 h2 h3
  rw [h1, h2, h3]

theorem Counts.of_add_clip (k : Counts) (n : Nat) (y z : DropSize) : ((k.add n y).clip).of z = min 44236800 (k.of z + if y = z then n else 0) := by
  cases y <;> cases z <;> simp [Counts.add, Counts.clip, Counts.of, Nat.min_comm]

section

variable (b : Bank) (c : Channel) (n : Nat)

theorem foldl_countDrops_frame (l : List (Nat × DropSize)) (sl : Slot) : l.foldl (Slot.countDrops b c n) sl = { sl with
    arrival := (l.foldl (Slot.countDrops b c n) sl).arrival
    withheld := (l.foldl (Slot.countDrops b c n) sl).withheld
    groups := (l.foldl (Slot.countDrops b c n) sl).groups } := by
  refine foldl_keeps (P := fun t : Slot => t = { sl with arrival := t.arrival, withheld := t.withheld, groups := t.groups })
    (fun t x h => ?_) rfl l
  unfold Slot.countDrops
  split <;> rw [h]

theorem countDrops_arrival (sl : Slot) (x : Nat × DropSize) (d : Channel) (z : DropSize) (bound : sl.arrival[d].of z ≤ 44236800) :
    (Slot.countDrops b c n sl x).arrival[d].of z =
      min 44236800 (sl.arrival[d].of z + if x.2 = z ∧ (b.route c x.1).map (·.1) = some d then n else 0) := by
  unfold Slot.countDrops
  cases hr : b.route c x.1 with
  | none => simp only [Option.map_none, reduceCtorEq, and_false, if_false]; omega
  | some p =>
    obtain ⟨p, m⟩ := p
    dsimp only
    rw [getElem_modifyAt]
    by_cases e : d = p
    · subst e
      rw [if_pos rfl, Counts.of_add_clip]
      simp
    · have ne : p ≠ d := fun h => e h.symm
      rw [if_neg e]
      simp only [Option.map_some, Option.some.injEq, ne, and_false, if_false]
      omega

theorem foldl_countDrops_arrival (l : List (Nat × DropSize)) (sl : Slot) (d : Channel) (z : DropSize) (bound : sl.arrival[d].of z ≤ 44236800) :
    (l.foldl (Slot.countDrops b c n) sl).arrival[d].of z = min 44236800 (sl.arrival[d].of z +
      n * l.countP fun x => x.2 = z ∧ (b.route c x.1).map (·.1) = some d) := by
  induction l generalizing sl with
  | nil => simp only [List.foldl_nil, List.countP_nil, Nat.mul_zero]; omega
  | cons x l ih =>
    have step := countDrops_arrival b c n sl x d z bound
    rw [List.foldl_cons, ih _ (by rw [step]; omega), step, List.countP_cons, Nat.mul_add]
    simp only [decide_eq_true_eq]
    split <;> omega

theorem foldl_countDrops_withheld (l : List (Nat × DropSize)) (sl : Slot) (d : Channel) (bound : sl.withheld[d] ≤ 44236800) :
    (l.foldl (Slot.countDrops b c n) sl).withheld[d] = if d = c then
      min 44236800 (sl.withheld[d] + n * l.countP fun x => b.route c x.1 = none) else sl.withheld[d] := by
  induction l generalizing sl with
  | nil => simp only [List.foldl_nil, List.countP_nil, Nat.mul_zero]; split <;> omega
  | cons x l ih =>
    have step : (Slot.countDrops b c n sl x).withheld[d] =
        if d = c ∧ b.route c x.1 = none then min (sl.withheld[d] + n) 44236800 else sl.withheld[d] := by
      unfold Slot.countDrops
      cases hr : b.route c x.1 with
      | none =>
        dsimp only
        rw [getElem_modifyAt]
        by_cases e : d = c
        · subst e; simp
        · simp [e]
      | some p => simp
    rw [List.foldl_cons, ih _ (by rw [step]; split <;> omega), step, List.countP_cons, Nat.mul_add]
    by_cases e : d = c
    · simp only [e, true_and, if_true, decide_eq_true_eq]
      split <;> omega
    · simp only [e, false_and, if_false]

theorem GroupSet.getElem_insert (k : Nat) (set : GroupSet) (g : Fin 24) : (GroupSet.insert k set)[g] = (decide (k = g.val) || set[g]) := by
  unfold GroupSet.insert
  rw [Fin.getElem_fin, Vector.getElem_setIfInBounds]
  split <;> simp_all

theorem foldl_countDrops_groups (l : List (Nat × DropSize)) (sl : Slot) (d : Channel) (g : Fin 24) :
    (l.foldl (Slot.countDrops b c n) sl).groups[d][g] = (sl.groups[d][g] || l.any fun x => match b.route c x.1 with
      | some (p, m) => decide (p = d ∧ m / 32 = g.val)
      | none => false) := by
  induction l generalizing sl with
  | nil => simp
  | cons x l ih =>
    have step : (Slot.countDrops b c n sl x).groups[d][g] = (sl.groups[d][g] || match b.route c x.1 with
        | some (p, m) => decide (p = d ∧ m / 32 = g.val)
        | none => false) := by
      unfold Slot.countDrops
      cases hr : b.route c x.1 with
      | none => simp
      | some p =>
        obtain ⟨p, m⟩ := p
        dsimp only
        rw [getElem_modifyAt]
        by_cases e : d = p
        · subst e
          rw [if_pos rfl, GroupSet.getElem_insert]
          simp only [true_and, Bool.or_comm]
        · have ne : p ≠ d := fun h => e h.symm
          rw [if_neg e]
          simp only [ne, false_and, decide_false, Bool.or_false]
    rw [List.foldl_cons, ih, step, List.any_cons, Bool.or_assoc]

end

/-! ## Bytes stored (R8, Table 10.10.7) -/

theorem pieces_getElem? {α : Type} (k w : Nat) (l : List α) (i : Nat) :
    (pieces k w l)[i]? = if i < k then some ((l.drop (i * w)).take w) else none := by
  induction k generalizing l i with
  | zero => simp [pieces]
  | succ k ih =>
    cases i with
    | zero => simp [pieces]
    | succ i => simp only [pieces, List.getElem?_cons_succ, ih, List.drop_drop, Nat.add_lt_add_iff_right, Nat.add_mul, Nat.one_mul,
        Nat.add_comm w]

theorem getElem?_flatten_replicate {α : Type} (n : Nat) (l : List α) (k : Nat) :
    (List.replicate n l).flatten[k]? = if k < n * l.length then l[k % l.length]? else none := by
  induction n generalizing k with
  | zero => simp
  | succ n ih =>
    rw [List.replicate_succ, List.flatten_cons, List.getElem?_append, Nat.succ_mul]
    by_cases h : k < l.length
    · rw [if_pos h, if_pos (by omega), Nat.mod_eq_of_lt h]
    · rw [if_neg h, ih, ← Nat.mod_eq_sub_mod (by omega)]
      exact if_congr (by omega) rfl rfl

/-- The cells of one column of data. -/
theorem mem_columnCells {a : SliceArgs} {base : Nat} {col : List Byte} (full : col.length = (maskGroups a.mask).length * 8) (y : Host.Cell) :
    y ∈ columnCells base (a.columnGroups col) ↔ ∃ j q, ∃ h : j < (maskGroups a.mask).length, q < 8 ∧
      y = (base + (maskGroups a.mask)[j] * 8 + q, col.getD (j * 8 + q) 0) := by
  have piece {j : Nat} (h : j < (maskGroups a.mask).length) {q : Nat} {b : Byte} :
      ((col.drop (j * 8)).take 8)[q]? = some b ↔ q < 8 ∧ b = col.getD (j * 8 + q) 0 := by
    rw [List.getElem?_take, List.getElem?_drop]
    by_cases hq : q < 8
    · have inside : j * 8 + q < col.length := by omega
      rw [if_pos hq, List.getElem?_eq_getElem inside, List.getD_eq_getElem _ _ inside, Option.some.injEq]
      exact ⟨fun e => ⟨hq, e.symm⟩, fun e => e.2.symm⟩
    · rw [if_neg hq]
      exact ⟨nofun, fun e => absurd e.1 hq⟩
  unfold columnCells SliceArgs.columnGroups
  rw [List.mem_flatMap]
  constructor
  · rintro ⟨g, hg, hy⟩
    obtain ⟨j, hj⟩ := List.getElem?_of_mem hg
    rw [List.getElem?_zip_eq_some] at hj
    obtain ⟨hgs, hpieces⟩ := hj
    obtain ⟨h, hgs⟩ := List.getElem?_eq_some_iff.1 hgs
    rw [pieces_getElem?, if_pos h, Option.some.injEq] at hpieces
    obtain ⟨q, hq, rfl⟩ := List.mem_mapIdx.1 hy
    obtain ⟨lt, value⟩ := (piece h).1 ((congrArg (·[q]?) hpieces).trans (List.getElem?_eq_getElem hq))
    exact ⟨j, q, h, lt, by rw [hgs, ← value]⟩
  · rintro ⟨j, q, h, lt, rfl⟩
    refine ⟨((maskGroups a.mask)[j], (col.drop (j * 8)).take 8), List.mem_of_getElem? (i := j) ?_, ?_⟩
    · rw [List.getElem?_zip_eq_some, pieces_getElem?, if_pos h]
      exact ⟨List.getElem?_eq_getElem h, rfl⟩
    · obtain ⟨hq, value⟩ := List.getElem?_eq_some_iff.1 ((piece h).2 ⟨lt, rfl⟩)
      exact List.mem_mapIdx.2 ⟨q, hq, by rw [value]⟩

/-- The cells that an accepted slice writes: each byte of the data at each column that repeats it. -/
theorem SliceArgs.mem_cells {a : SliceArgs} {sl : Slot} (fits : a.fits sl) (i : SlotIx) (c : Channel) (y : Host.Cell) :
    y ∈ a.cells i c ↔ ∃ k j q, k < a.count * a.repeats ∧ ∃ h : j < (maskGroups a.mask).length, q < 8 ∧
      y = (storeAddress i c (a.first + k) + (maskGroups a.mask)[j] * 8 + q,
        a.data.getD (k % a.count * ((maskGroups a.mask).length * 8) + j * 8 + q) 0) := by
  obtain ⟨count, -, -, -, -, -, data⟩ := fits
  have columns : a.columns.length = a.count := by
    have pieces_len (k w : Nat) (l : List Byte) : (pieces k w l).length = k := by
      induction k generalizing l with
      | zero => rfl
      | succ k ih => rw [pieces, List.length_cons, ih]
    unfold SliceArgs.columns
    rw [List.length_map, pieces_len]
  have column (k : Nat) (col : List (Nat × List Byte)) : (List.replicate a.repeats a.columns).flatten[k]? = some col ↔
      k < a.count * a.repeats ∧ col = a.columnGroups ((a.data.drop (k % a.count * ((maskGroups a.mask).length * 8))).take
        ((maskGroups a.mask).length * 8)) := by
    rw [getElem?_flatten_replicate, columns, Nat.mul_comm a.repeats]
    unfold SliceArgs.columns
    rw [List.getElem?_map, pieces_getElem?, if_pos (Nat.mod_lt _ count)]
    split
    next h => simp only [Option.map_some, Option.some.injEq, h, true_and, eq_comm]
    next h => simp only [reduceCtorEq, h, false_and]
  have full (k : Nat) : ((a.data.drop (k % a.count * ((maskGroups a.mask).length * 8))).take ((maskGroups a.mask).length * 8)).length =
      (maskGroups a.mask).length * 8 := by
    have lt : k % a.count + 1 ≤ a.count := Nat.mod_lt _ count
    have := Nat.mul_le_mul_right ((maskGroups a.mask).length * 8) lt
    rw [Nat.add_mul, Nat.one_mul] at this
    rw [List.length_take, List.length_drop, data, Nat.mul_assoc]
    omega
  have value (k j q : Nat) (hj : j < (maskGroups a.mask).length) (hq : q < 8) :
      ((a.data.drop (k % a.count * ((maskGroups a.mask).length * 8))).take ((maskGroups a.mask).length * 8)).getD (j * 8 + q) 0 =
        a.data.getD (k % a.count * ((maskGroups a.mask).length * 8) + j * 8 + q) 0 := by
    rw [List.getD_eq_getElem?_getD, List.getElem?_take, if_pos (by omega), List.getElem?_drop, ← List.getD_eq_getElem?_getD, Nat.add_assoc]
  unfold SliceArgs.cells
  rw [List.mem_flatten]
  constructor
  · rintro ⟨l, hl, hy⟩
    obtain ⟨k, hk, rfl⟩ := List.mem_mapIdx.1 hl
    obtain ⟨lt, eq⟩ := (column k _).1 (List.getElem?_eq_getElem hk)
    rw [eq] at hy
    obtain ⟨j, q, hj, hq, rfl⟩ := (mem_columnCells (full k) y).1 hy
    exact ⟨k, j, q, lt, hj, hq, by rw [value k j q hj hq]⟩
  · rintro ⟨k, j, q, lt, hj, hq, rfl⟩
    obtain ⟨hk, eq⟩ := List.getElem?_eq_some_iff.1 ((column k _).2 ⟨lt, rfl⟩)
    refine ⟨_, List.mem_mapIdx.2 ⟨k, hk, rfl⟩, ?_⟩
    rw [eq]
    exact (mem_columnCells (full k) _).2 ⟨j, q, hj, hq, by rw [value k j q hj hq]⟩

/-- A listed cell of a rising list is what its address reads. -/
theorem Memory.read_of_mem {m : Memory} (h : rising m) {y : Host.Cell} (listed : y ∈ m) : Memory.read m y.1 = y.2 := by
  induction m with
  | nil => cases listed
  | cons z m ih =>
    obtain ⟨k, b⟩ := z
    obtain ⟨below, rest⟩ := List.pairwise_cons.1 h
    rw [Memory.read_cons]
    rcases List.mem_cons.1 listed with rfl | later
    · exact if_pos rfl
    · rw [if_neg (by have := below y later; simp only at this; omega), ih rest later]

/-- Settles O12: the counts by induction over the drops of the data, the store by the cells that the slice writes. -/
theorem acceptedSliceStoresAndCounts : Obligations.AcceptedSliceStoresAndCounts := by
  intro s tag body a i c head read hi hc composing fits order wf bounds
  have effect : s.popped.sliceEffect body = s.popped.sliceTaken a i c := by
    rw [State.sliceEffect_slot read hi]
    exact (if_pos composing).trans ((State.admitSlice_fits (s := s.popped) hc fits).trans (if_pos ((Slot.inOrder_iff ..).2 order)))
  have step := slice_ends head
  rw [effect] at step
  obtain ⟨t, ht, follows⟩ := ends_follows false s (s.popped.sliceTaken a i c)
  have store : t.store = Memory.write (a.cells i c) s.store := follows.store
  have slots : t.slots = setAt (setAt s.slots i s.slots[i].counted) i (s.slots[i].counted.take (s.maps.bankFor s.slots[i].gen) c a) :=
    follows.slots
  have own : t.slots[i] = s.slots[i].counted.take (s.maps.bankFor s.slots[i].gen) c a := by
    rw [slots, getElem_setAt, if_pos rfl]
  have taken : (s.slots[i].counted.take (s.maps.bankFor s.slots[i].gen) c a) = { s.slots[i].counted with
      lastWritten := setAt s.slots[i].lastWritten c (some (a.first + a.count * a.repeats - 1))
      arrival := (s.slots[i].counted.take (s.maps.bankFor s.slots[i].gen) c a).arrival
      withheld := (s.slots[i].counted.take (s.maps.bankFor s.slots[i].gen) c a).withheld
      groups := (s.slots[i].counted.take (s.maps.bankFor s.slots[i].gen) c a).groups } := by
    rw [Slot.take_eq]
    unfold Slot.takeBy
    dsimp only
    rw [foldl_countDrops_frame]
    rfl
  refine ⟨t, step.trans ht, ?follows, ?others, ?record, ⟨?arrival, ?withheld, ?groups⟩, ?written, ?elsewhere⟩
  case follows => exact { follows with slots := rfl, store := rfl }
  case others =>
    intro j ne
    rw [slots, getElem_setAt, if_neg ne, getElem_setAt, if_neg ne]
  case record =>
    rw [own]
    exact taken
  case arrival =>
    intro d
    rw [own, Slot.take_eq]
    obtain ⟨small, medium, large, -⟩ := bounds d
    refine Counts.ext_of fun z => ?_
    cases z with
    | small => exact foldl_countDrops_arrival _ _ _ _ s.slots[i].counted d .small small
    | medium => exact foldl_countDrops_arrival _ _ _ _ s.slots[i].counted d .medium medium
    | large => exact foldl_countDrops_arrival _ _ _ _ s.slots[i].counted d .large large
  case withheld =>
    intro d
    rw [own, Slot.take_eq]
    exact foldl_countDrops_withheld _ _ _ _ _ _ (bounds d).2.2.2
  case groups =>
    intro d g
    rw [own, Slot.take_eq]
    exact foldl_countDrops_groups ..
  case written =>
    intro k j q hk hj hq
    have listed := (SliceArgs.mem_cells fits i c _).2 ⟨k, j, q, hk, hj, hq, rfl⟩
    rw [store, Memory.read_write (a.cells_rising i c) wf.1, if_pos (List.any_eq_true.2 ⟨_, listed, decide_eq_true rfl⟩)]
    exact Memory.read_of_mem (a.cells_rising i c) listed
  case elsewhere =>
    intro x outside
    rw [store, Memory.read_write (a.cells_rising i c) wf.1, if_neg]
    intro listed
    obtain ⟨y, hy, eq⟩ := List.any_eq_true.1 listed
    obtain ⟨k, j, q, hk, hj, hq, rfl⟩ := (SliceArgs.mem_cells fits i c y).1 hy
    exact outside k j q hk hj hq (of_decide_eq_true eq).symm

end Sys2Proof.Machine
end

section
/-!
PROOFS. The opening of a swath and the commit it offers (R3, R4, R91 to R93).
-/

-- One declaration at a time: side by side, the threads' stacks come near the memory limit of the check.
set_option Elab.async false

namespace Sys2Proof.Machine

/-! ## The commit offered (R91 to R93) -/

/-- A pending commit waits while a slot refers to Retained (R92). -/
theorem State.offerCommit_waiting {s : State} (h : s.maps.commitPending = false ∨ ∃ g j, s.maps.retainedGen = some g ∧ s.refersTo j g) :
    s.offerCommit = s := by
  unfold State.offerCommit
  refine if_neg ?_
  rcases h with h | ⟨g, j, hg, hj⟩
  · simp [h]
  · simp [State.retainedReferenced, hg, (s.referenced_iff g).2 ⟨j, hj⟩]

/-- What MAP COMMITTED reports of the switch that s performs. -/
def State.committed (s : State) : Event :=
  .mapCommitted s.maps.switch.currentGen s.maps.currentGen (!s.referenced s.maps.currentGen)
    (Vector.ofFn fun c : Fin 6 => s.maps.next.lists[c].length) s.maps.next.overflow

theorem State.offerCommit_switches {s : State} (pending : s.maps.commitPending = true)
    (unused : ∀ g j, s.maps.retainedGen = some g → ¬ s.refersTo j g) : s.offerCommit = (s.switchTold s.committed).dropRetained := by
  have unreferenced : s.retainedReferenced = false := by
    unfold State.retainedReferenced
    cases hg : s.maps.retainedGen with
    | none => rfl
    | some g =>
      dsimp only
      rw [Bool.eq_false_iff, ne_eq, State.referenced_iff]
      exact fun ⟨j, hj⟩ => unused g j hg hj
  unfold State.offerCommit
  exact if_pos (by rw [pending, unreferenced]; rfl)

theorem State.dropRetained_keeps (s : State) : s.dropRetained.maps.current = s.maps.current ∧
    s.dropRetained.maps.currentGen = s.maps.currentGen ∧ s.dropRetained.maps.next = s.maps.next ∧
    s.dropRetained.maps.nextGen = s.maps.nextGen ∧ s.dropRetained.maps.commitPending = s.maps.commitPending := by
  unfold State.dropRetained
  dsimp only
  split
  · exact ⟨rfl, rfl, rfl, rfl, rfl⟩
  · split <;> exact ⟨rfl, rfl, rfl, rfl, rfl⟩

/-- An offered commit leaves everything but the maps, and follows them. -/
theorem State.offerCommit_follows (s : State) : Follows { s with maps := s.offerCommit.maps } s.offerCommit := by
  rcases s.offerCommit_cases with h | ⟨-, e, h⟩ <;> rw [h]
  · exact Follows.refl s
  · exact Follows.raise { s with maps := (s.switchTold e).dropRetained.maps } e

/-! ## SWATH OPEN (R3, R4) -/

theorem byteDir_eq_none {b : Byte} (h : 2 ≤ b.toNat) : byteDir b = none := by
  unfold byteDir
  rw [if_neg (by omega), if_neg (by omega)]

theorem byteDir_eq_some {b : Byte} (h : b.toNat < 2) : ∃ d, byteDir b = some d := by
  unfold byteDir
  split_ifs
  · exact ⟨_, rfl⟩
  · exact ⟨_, rfl⟩
  · omega

/-- SWATH OPEN with its body in range (R3). -/
theorem openSwath_inRange {i d f1 f0 l1 l0 : Byte} {slot : SlotIx} {dir : PassDir} (hi : i.toNat = slot.val) (hd : byteDir d = some dir)
    (rises : bigEndian [f1, f0] ≤ bigEndian [l1, l0]) (last : bigEndian [l1, l0] ≤ 57599) (u : State) :
    openSwath [i, d, f1, f0, l1, l0] u =
      if u.slots[slot].state ≠ .free then .refuse u .busy
      else .done (u.openSlot slot dir (bigEndian [f1, f0]) (bigEndian [l1, l0])) := by
  unfold openSwath
  simp only [byteSlot_eq_some hi, hd]
  exact if_neg (by omega)

section

variable {s : State} {tag i d f1 f0 l1 l0 : Byte} (h : s.asks 0x01#8 tag [i, d, f1, f0, l1, l0])
include h

theorem swathOpen_range (bad : 8 ≤ i.toNat ∨ 2 ≤ d.toNat ∨ 57599 < bigEndian [l1, l0] ∨ bigEndian [l1, l0] < bigEndian [f1, f0]) :
    Runs .swathOpen s (s.answered 0x01#8 tag .range) := by
  refine runs_refused h (act := openSwath) rfl ?_
  unfold openSwath
  dsimp only
  split
  next slot dir hi hd =>
    rcases bad with bad | bad | bad
    · rw [byteSlot_eq_none bad] at hi; cases hi
    · rw [byteDir_eq_none bad] at hd; cases hd
    · exact if_pos bad
  next => rfl

variable {slot : SlotIx} {dir : PassDir} (hi : i.toNat = slot.val) (hd : byteDir d = some dir)
  (rises : bigEndian [f1, f0] ≤ bigEndian [l1, l0]) (last : bigEndian [l1, l0] ≤ 57599)
include hi hd rises last

theorem swathOpen_busy (taken : s.slots[slot].state ≠ .free) : Runs .swathOpen s (s.answered 0x01#8 tag .busy) :=
  runs_refused h (act := openSwath) rfl ((openSwath_inRange hi hd rises last _).trans (if_pos taken))

/-- A swath opened in a FREE slot: its span blanked, after the commit offered. -/
theorem swathOpen_done (free : s.slots[slot].state = .free) : ∃ t, exec .swathOpen s = .next t ∧
    Follows ((s.popped.offerCommit.spanOpened slot dir (bigEndian [f1, f0]) (bigEndian [l1, l0])).replied 0x01#8 tag .done) t :=
  served_done h (c := .swathOpen) rfl ((openSwath_inRange hi hd rises last s.popped).trans (if_neg (not_not.2 free)))

end

/-- Settles O9. -/
theorem swathOpenClaimsAFreeSlot : Obligations.SwathOpenClaimsAFreeSlot := by
  refine fun s tag i d f1 f0 l1 l0 h => ⟨swathOpen_range h, fun slot dir hi hd rises last => ⟨swathOpen_busy h hi hd rises last,
    fun free => ?_⟩⟩
  obtain ⟨t, ht, follows⟩ := swathOpen_done h hi hd rises last free
  have maps : t.maps = s.popped.offerCommit.maps := follows.maps
  have offered := s.popped.offerCommit_follows
  have slots : t.slots = setAt s.slots slot { blankSlot with
      state := .composing, dir := dir, first := bigEndian [f1, f0], last := bigEndian [l1, l0], gen := some t.maps.currentGen } := by
    rw [maps, follows.slots]
    exact congrArg (fun v => setAt v slot _) offered.slots
  have store : t.store = Memory.blank (inSpan slot (bigEndian [f1, f0]) (bigEndian [l1, l0])) s.store := by
    rw [follows.store]
    exact congrArg (Memory.blank _) offered.store
  refine ⟨t, ht, ?follows, ?claimed, fun j other => ?other, fun a => ?blanked, fun idle => ?maps⟩
  case follows =>
    refine Follows.trans
      (t := (s.popped.offerCommit.spanOpened slot dir (bigEndian [f1, f0]) (bigEndian [l1, l0])).replied 0x01#8 tag .done) ?_ follows
    refine Follows.replied (u := { s.popped with slots := t.slots, store := t.store, maps := t.maps }) ?_ ..
    exact { offered with slots := follows.slots.symm, store := follows.store.symm, maps := maps.symm }
  case claimed => rw [slots, getElem_setAt, if_pos rfl]
  case other => rw [slots, getElem_setAt, if_neg other]
  case blanked => rw [store, Memory.read_blank]
  case maps => rw [maps, State.offerCommit_waiting (s := s.popped) (.inl idle)]; rfl

/-- Settles O10. -/
theorem swathOpenPerformsAPendingCommit : Obligations.SwathOpenPerformsAPendingCommit := by
  intro s tag i d f1 f0 l1 l0 slot h hi hd rises last free pending
  obtain ⟨dir, hd⟩ := byteDir_eq_some hd
  obtain ⟨t, ht, follows⟩ := swathOpen_done h hi hd rises last free
  have maps : t.maps = s.popped.offerCommit.maps := follows.maps
  refine ⟨fun referenced => ⟨t, ht, ?waits⟩, fun unused => ?switches⟩
  case waits => rw [maps, State.offerCommit_waiting (s := s.popped) (.inr referenced)]; rfl
  case switches =>
    have offered := State.offerCommit_switches (s := s.popped) pending unused
    rw [offered] at maps follows
    have told : s.tells t s.committed :=
      tells_of_mem (x := ((s.popped.switchTold s.popped.committed).dropRetained.spanOpened slot dir (bigEndian [f1, f0])
        (bigEndian [l1, l0])).replied 0x01#8 tag .done) (fun room => State.mem_raise s.popped.mapsSwitched s.committed (Nat.lt_of_le_of_lt room (by decide))) follows
    have bank : t.maps.current = s.maps.next ∧ t.maps.currentGen = (s.maps.currentGen + 1) % 4294967296 ∧ t.maps.next = s.maps.next ∧
        t.maps.nextGen = t.maps.currentGen ∧ t.maps.commitPending = false := by
      rw [maps]
      obtain ⟨current, gen, next, nextGen, flag⟩ := State.dropRetained_keeps (s.popped.switchTold s.popped.committed)
      exact ⟨current, gen, next, nextGen.trans gen.symm, flag⟩
    obtain ⟨current, gen, next, nextGen, flag⟩ := bank
    refine ⟨t, ht, current, gen, next, nextGen, flag, fun referred => ?retained, fun unreferred => ?emptied, ?told⟩
    case retained =>
      rw [maps, State.dropRetained_maps_of_referenced]
      · exact ⟨rfl, rfl⟩
      · rintro g hg
        obtain rfl : s.maps.currentGen = g := Option.some.inj hg
        exact referred
    case emptied =>
      rw [maps, State.dropRetained_maps_of_unreferenced (s := s.popped.switchTold s.popped.committed) (g := s.maps.currentGen) rfl
        unreferred]
      exact ⟨rfl, rfl⟩
    case told =>
      rw [gen, current]
      have emptied : decide (∀ j, ¬ s.refersTo j s.maps.currentGen) = !s.referenced s.maps.currentGen := by
        rw [Bool.eq_iff_iff, decide_eq_true_eq, Bool.not_eq_true', Bool.eq_false_iff, ne_eq, State.referenced_iff, not_exists]
      rw [emptied]
      exact told

end Sys2Proof.Machine
end

section
/-!
PROOFS. STATUS READ and TABLE READ (R93, R160, R170).
-/

-- One declaration at a time: side by side, the threads' stacks come near the memory limit of the check.
set_option Elab.async false

namespace Sys2Proof.Machine

theorem Feed.remaining_of_tailOut {f : Feed} {a b : Nat} (path : f.path = .tailOut) (tail : f.tail = some a) (pos : f.pos = some b) :
    f.remaining = some (a - b) := by
  unfold Feed.remaining
  rw [path, tail, pos]

theorem Feed.remaining_of_ne {f : Feed} (path : f.path ≠ .tailOut) : f.remaining = none := by
  unfold Feed.remaining
  split
  next h _ _ => exact absurd h path
  next => rfl

/-! ## Records of the loaded tables (R160) -/

theorem readRecord_stored (s : State) :
    (∀ k : Fin 16, readRecord 0 k.val s = some s.tables.ink[k].fields ∧ readRecord 2 k.val s = some s.tables.profile[k].fields) ∧
    (∀ c : Channel, readRecord 1 c.val s = some (s.tables.channel[c].fields s.tables.reverseShift[headOf c])) ∧
    readRecord 3 0 s = some s.tables.service.fields ∧
    (∀ i : AIn, readRecord 4 i.val s = some s.tables.scan[i].fields) ∧ readRecord 4 12 s = some s.tables.mode.fields ∧
    ∀ i : DIn, readRecord 5 i.val s = some s.tables.input[i].fields := by
  have indexed {n : Nat} {β : Type} (k : Fin n) (f : Fin n → β) : (intFin n k.val).map f = some (f k) := by
    rw [intFin_natCast k.isLt, Option.map_some]
  refine ⟨fun k => ⟨indexed k fun k => s.tables.ink[k].fields, indexed k fun k => s.tables.profile[k].fields⟩,
    fun c => indexed c fun c => s.tables.channel[c].fields s.tables.reverseShift[headOf c], rfl, fun i => ?scan, rfl,
    fun i => indexed i fun i => s.tables.input[i].fields⟩
  have other : i.val ≠ 12 := by omega
  exact (if_neg other).trans (indexed i fun i => s.tables.scan[i].fields)

/-- No record stands beyond a table's last, nor beyond the tables. -/
theorem readRecord_eq_none {t i : Nat} (s : State)
    (h : ((t = 0 ∨ t = 2 ∨ t = 5) ∧ 16 ≤ i) ∨ (t = 1 ∧ 6 ≤ i) ∨ (t = 3 ∧ 1 ≤ i) ∨ (t = 4 ∧ 13 ≤ i) ∨ 5 < t) :
    readRecord t i s = none := by
  have beyond {n : Nat} {β : Type} (k : Nat) (le : n ≤ k) (f : Fin n → β) : (intFin n k).map f = none := by
    rw [intFin_eq_none le, Option.map_none]
  rcases h with ⟨rfl | rfl | rfl, le⟩ | ⟨rfl, le⟩ | ⟨rfl, le⟩ | ⟨rfl, le⟩ | lt
  · exact beyond i le _
  · exact beyond i le _
  · exact beyond i le _
  · exact beyond i le _
  · exact if_neg (by omega)
  · exact (if_neg (by omega)).trans (beyond i (by omega) _)
  · obtain ⟨k, rfl⟩ : ∃ k, t = k + 6 := ⟨t - 6, by omega⟩
    rfl

/-! ## TABLE READ -/

theorem tableRead_record (t i : Byte) (u : State) : tableRead [t, i] u =
    match readRecord t.toNat i.toNat u with
    | some l => ⟨u, .done, .fields l⟩
    | none => .refuse u .range := rfl

theorem tableRead_list (x t i : Byte) (u : State) : tableRead [x, t, i] u =
    match decide (x.toNat = 6), byteBank t, byteChannel i with
    | true, some bank, some c => ⟨u, .done, u.maps.readList bank c⟩
    | _, _, _ => .refuse u .range := rfl

theorem tableRead_of_length {body : List Byte} (u : State) (two : body.length ≠ 2) (three : body.length ≠ 3) :
    tableRead body u = .refuse u .range := by
  unfold tableRead
  split
  · exact absurd rfl two
  · exact absurd rfl three
  · rfl

theorem byteBank_eq_none {b : Byte} (h : 2 < b.toNat) : byteBank b = none := by
  unfold byteBank
  rw [if_neg (by omega), if_neg (by omega), if_neg (by omega)]

/-- Settles O7. -/
theorem readsReportWhatIsStored : Obligations.ReadsReportWhatIsStored := by
  refine ⟨fun s tag h => ?status, fun s => ?records, fun s tag t i => ⟨fun body two three h => ?length, fun b ne h => ?kind,
    fun l read h => ?record, fun read h => ?missing, fun b c bank channel h => ?list, fun beyond h => ?nolist⟩⟩
  case status =>
    refine ⟨s.popped.status, runs_answered (p := ofKind 0x1A#8) h rfl (ofKind_self ..) rfl, rfl, rfl, rfl, fun c => ?channel, rfl, rfl, rfl,
      fun o op => ?operation, fun idle => ?idle, rfl, rfl, Feed.remaining_of_ne, fun a b => Feed.remaining_of_tailOut, rfl, rfl⟩
    case channel =>
      exact Vector.getElem_ofFn ..
    case operation =>
      show s.service.inFlight.map (·.req.op) = some o.req.op
      unfold Service.inFlight
      rw [op]
      rfl
    case idle =>
      show s.service.inFlight.map (·.req.op) = none
      unfold Service.inFlight
      split
      next o op => exact absurd op (idle o)
      next => rfl
  case records =>
    obtain ⟨kinds, channels, service, scan, mode, inputs⟩ := readRecord_stored s
    exact ⟨kinds, channels, service, scan, mode, inputs, fun t i => readRecord_eq_none s⟩
  case length => exact runs_refused h (act := tableRead) rfl (tableRead_of_length _ two three)
  case kind =>
    refine runs_refused h (act := tableRead) rfl ?_
    have other : decide (t.toNat = 6) = false := decide_eq_false fun e => ne (BitVec.eq_of_toNat_eq e)
    rw [tableRead_list, other]
  case record =>
    refine runs_answered (p := ofKind 0x19#8) (act := tableRead) h rfl (ofKind_self ..) ?_
    have same : readRecord t.toNat i.toNat s.popped = some l := read
    rw [tableRead_record, same]
  case missing =>
    refine runs_refused h (act := tableRead) rfl ?_
    have same : readRecord t.toNat i.toNat s.popped = none := read
    rw [tableRead_record, same]
  case list =>
    refine runs_answered (p := ofKind 0x19#8) (act := tableRead) h rfl (ofKind_self ..) ?_
    rw [tableRead_list, bank, byteChannel_eq_some channel]
    cases b <;> rfl
  case nolist =>
    refine runs_refused h (act := tableRead) rfl ?_
    rw [tableRead_list]
    rcases beyond with bank | channel
    · rw [byteBank_eq_none bank]
      split
      next none_some _ => cases none_some
      next => rfl
    · rw [byteChannel_eq_none (by omega)]
      split
      next none_some => cases none_some
      next => rfl

end Sys2Proof.Machine
end

section
/-!
PROOFS. The strobes of a pass (R33 to R37): the spit plan fired, and the columns of the swath.
-/

-- One declaration at a time: side by side, the threads' stacks come near the memory limit of the check.
set_option Elab.async false

namespace Sys2Proof.Machine

/-! ## The spittoon strobe (R33) -/

/-- The nozzles of a planned group, each once. -/
theorem mem_spitDrops (p : PassContext) (enable : Bool) (c : Channel) (n : Nat) (z : DropSize) :
    (n, z) ∈ (p.spitDrops enable)[c] ↔ enable = true ∧ z = .large ∧ ∃ g : Fin 24, n / 32 = g.val ∧ p.spit[c][g] = true := by
  have planned : (n < 768 ∧ p.spit[c].toList.getD (n / 32) false = true) ↔ ∃ g : Fin 24, n / 32 = g.val ∧ p.spit[c][g] = true := by
    constructor
    · rintro ⟨lt, h⟩
      rw [List.getD_eq_getElem _ _ (by rw [Vector.length_toList]; omega), Vector.getElem_toList] at h
      exact ⟨⟨n / 32, by omega⟩, rfl, h⟩
    · rintro ⟨g, hg, h⟩
      rw [hg, List.getD_eq_getElem _ _ (by rw [Vector.length_toList]; omega), Vector.getElem_toList]
      exact ⟨by omega, h⟩
  rw [← planned]
  unfold PassContext.spitDrops
  rw [Fin.getElem_fin, Vector.getElem_ofFn]
  cases enable with
  | false => simp
  | true =>
    simp only [if_true, List.mem_map, List.mem_filter, List.mem_range, Prod.mk.injEq, true_and]
    constructor
    · rintro ⟨k, h, rfl, rfl⟩
      exact ⟨rfl, h⟩
    · rintro ⟨rfl, h⟩
      exact ⟨n, h, rfl, rfl⟩

theorem spitDrops_nodup (p : PassContext) (enable : Bool) (c : Channel) : ((p.spitDrops enable)[c].map (·.1)).Nodup := by
  unfold PassContext.spitDrops
  rw [Fin.getElem_fin, Vector.getElem_ofFn]
  split
  · rw [List.map_map]
    exact (List.nodup_range.filter _).map fun _ _ e => e
  · exact List.nodup_nil

theorem spat_fired (p : PassContext) (now : Nat) (enable : Bool) (c : Channel) (g : Fin 24) :
    (p.spat now enable).fired[c][g] = (p.fired[c][g] || (enable && p.spit[c][g])) := by
  unfold PassContext.spat
  cases enable <;> simp [noGroups]

theorem spat_output (p : PassContext) (now : Nat) (enable : Bool) (c : Channel) (g : Fin 24) :
    (p.spat now enable).output[c][g] = if enable = true ∧ p.spit[c][g] = true
      then { p.output[c][g] with large := p.output[c][g].large + p.burst[c] } else p.output[c][g] := by
  unfold PassContext.spat
  cases enable <;> simp [noGroups, Counts.add]

/-- Settles O31. -/
theorem spittoonStrobeFiresThePlan : Obligations.SpittoonStrobeFiresThePlan := by
  refine fun s => ⟨fun idle => ?idle, fun p hp fresh => ?fires⟩
  case idle =>
    show execSpittoonStrobe s = _
    unfold execSpittoonStrobe
    rcases idle with h | ⟨p, h, done⟩
    · rw [h]
    · rw [h]; exact if_pos done
  case fires =>
    have run : exec .spittoonStrobe s = ends false s { s with
        pass := some (p.spat s.now s.driveEnable)
        out := { s.out with firing := p.spitDrops s.driveEnable, shots := p.spitShots } } := by
      show execSpittoonStrobe s = _
      unfold execSpittoonStrobe
      rw [hp]
      exact if_neg (by rw [fresh]; decide)
    obtain ⟨t, ht, follows⟩ := ends_follows false s { s with
        pass := some (p.spat s.now s.driveEnable)
        out := { s.out with firing := p.spitDrops s.driveEnable, shots := p.spitShots } }
    have firing : t.out.firing = p.spitDrops s.driveEnable := congrArg (·.firing) follows.out
    have shots : t.out.shots = p.spitShots := congrArg (·.shots) follows.out
    refine ⟨t, p.spat s.now s.driveEnable, run.trans ht, by rw [firing, shots]; exact follows, rfl, fun c => ?_,
      fun c g => ⟨spat_fired .., spat_output ..⟩⟩
    rw [firing, shots]
    exact ⟨mem_spitDrops p _ c, spitDrops_nodup p _ c, Vector.getElem_map ..⟩

/-! ## The codes stored for a column (R34) -/

theorem Memory.mem_of_read {m : Memory} {a : Nat} (h : Memory.read m a ≠ 0) : (a, Memory.read m a) ∈ m := by
  induction m with
  | nil => exact absurd rfl h
  | cons y m ih =>
    obtain ⟨k, b⟩ := y
    rw [Memory.read_cons] at h ⊢
    split at h
    next e => rw [if_pos e, e]; exact List.mem_cons_self ..
    next e => rw [if_neg e]; exact List.mem_cons_of_mem _ (ih h)

theorem mem_columnDrops {m : Memory} (wf : Memory.wf m) (slot : SlotIx) (c : Channel) (column n : Nat) (z : DropSize) :
    (n, z) ∈ columnDrops m slot c column ↔ n < 768 ∧ storedCode m slot c column n = some z := by
  unfold columnDrops storedCode
  generalize storeAddress slot c column = base
  simp only [List.mem_flatMap, List.mem_filter, List.mem_filterMap, List.mem_range, Option.map_eq_some_iff, Prod.mk.injEq, Bool.and_eq_true,
    decide_eq_true_eq]
  constructor
  · rintro ⟨cell, ⟨listed, low, high⟩, k, lt, d, code, rfl, rfl⟩
    have place : (4 * (cell.1 - base) + k) / 4 = cell.1 - base := by omega
    have nozzle : (4 * (cell.1 - base) + k) % 4 = k := by omega
    rw [place, nozzle, Nat.add_sub_cancel' low, Memory.read_of_mem wf.1 listed]
    exact ⟨by omega, code⟩
  · rintro ⟨lt, code⟩
    have stored : Memory.read m (base + n / 4) ≠ 0 := by
      intro zero
      rw [zero] at code
      simp [dropCode] at code
    exact ⟨_, ⟨Memory.mem_of_read stored, by omega, by omega⟩, n % 4, Nat.mod_lt _ (by omega), z, code, by omega, rfl⟩

/-! ## Drops merged on one nozzle (R35) -/

/-- The largest size that a list has for a nozzle. -/
def Largest (l : List (Nat × DropSize)) (n : Nat) (z : DropSize) : Prop := (n, z) ∈ l ∧ ∀ z', (n, z') ∈ l → z.larger z' = z

/-- An ascending list of drops, one for a nozzle. -/
abbrev Ascends (l : List (Nat × DropSize)) : Prop := l.Pairwise fun x y => x.1 < y.1

theorem mem_mergeDrop {l : List (Nat × DropSize)} (asc : Ascends l) (n : Nat) (d : DropSize) (k : Nat) (z : DropSize) :
    (k, z) ∈ mergeDrop n d l ↔ if k = n then (z = d ∧ ∀ e, (n, e) ∉ l) ∨ ∃ e, (n, e) ∈ l ∧ z = d.larger e else (k, z) ∈ l := by
  induction l with
  | nil => simp [mergeDrop]
  | cons y l ih =>
    obtain ⟨m, e⟩ := y
    obtain ⟨above, rest⟩ := List.pairwise_cons.1 asc
    have absent {j : Nat} (le : j ≤ m) (f : DropSize) : (j, f) ∉ l := fun h => by have := above _ h; simp only at this; omega
    unfold mergeDrop
    by_cases lt : n < m
    · rw [if_pos lt]
      by_cases e : k = n
      · subst e
        simp [absent lt.le, show k ≠ m by omega]
      · simp [e]
    · by_cases same : n = m
      · subst same
        rw [if_neg lt, if_pos rfl]
        by_cases e : k = n
        · subst e
          simp [absent le_rfl]
        · simp [e]
      · rw [if_neg lt, if_neg same, List.mem_cons, ih rest]
        by_cases e : k = n
        · subst e
          simp [same]
        · simp [e]

theorem mergeDrop_ascends {l : List (Nat × DropSize)} (asc : Ascends l) (n : Nat) (d : DropSize) : Ascends (mergeDrop n d l) := by
  induction l with
  | nil => exact List.pairwise_singleton ..
  | cons y l ih =>
    obtain ⟨m, e⟩ := y
    obtain ⟨above, rest⟩ := List.pairwise_cons.1 asc
    unfold mergeDrop
    split_ifs with lt same
    · refine List.pairwise_cons.2 ⟨fun y hy => ?_, asc⟩
      rcases List.mem_cons.1 hy with rfl | hy
      · exact lt
      · exact lt.trans (above y hy)
    · subst same
      exact List.pairwise_cons.2 ⟨above, rest⟩
    · refine List.pairwise_cons.2 ⟨fun y hy => ?_, ih rest⟩
      obtain ⟨k, z⟩ := y
      rw [mem_mergeDrop rest] at hy
      split at hy
      next e => subst e; show m < k; omega
      next => exact above _ hy

theorem DropSize.larger_comm (a b : DropSize) : a.larger b = b.larger a := by cases a <;> cases b <;> rfl

theorem DropSize.larger_assoc (a b c : DropSize) : (a.larger b).larger c = a.larger (b.larger c) := by
  cases a <;> cases b <;> cases c <;> rfl

theorem DropSize.larger_self (a : DropSize) : a.larger a = a := by cases a <;> rfl

theorem DropSize.larger_eq_or (a b : DropSize) : a.larger b = a ∨ a.larger b = b := by
  cases a <;> cases b <;> simp [DropSize.larger]

/-- A nozzle that is fired has a largest size. -/
theorem Largest.exists_of_mem {l : List (Nat × DropSize)} {n : Nat} {z : DropSize} (h : (n, z) ∈ l) : ∃ e, Largest l n e := by
  by_cases large : (n, .large) ∈ l
  · exact ⟨.large, large, fun _ _ => rfl⟩
  · by_cases medium : (n, .medium) ∈ l
    · refine ⟨.medium, medium, fun z' h' => ?_⟩
      cases z' with
      | large => exact absurd h' large
      | medium => rfl
      | small => rfl
    · refine ⟨z, h, fun z' h' => ?_⟩
      cases z with
      | large => exact absurd h large
      | medium => exact absurd h medium
      | small =>
        cases z' with
        | large => exact absurd h' large
        | medium => exact absurd h' medium
        | small => rfl

/-- The largest size once one more drop is listed. -/
theorem Largest.append {l : List (Nat × DropSize)} (n : Nat) (d : DropSize) (k : Nat) (z : DropSize) : Largest (l ++ [(n, d)]) k z ↔
    if k = n then (z = d ∧ ∀ e, ¬ Largest l n e) ∨ ∃ e, Largest l n e ∧ z = d.larger e else Largest l k z := by
  split
  next same =>
    subst same
    unfold Largest
    simp only [List.mem_append, List.mem_singleton, Prod.mk.injEq, true_and]
    constructor
    · rintro ⟨listed, top⟩
      by_cases some_e : ∃ e, Largest l k e
      · obtain ⟨e, he, above⟩ := some_e
        refine .inr ⟨e, ⟨he, above⟩, ?_⟩
        rcases listed with listed | rfl
        · rw [← above z listed, DropSize.larger_comm e, top e (.inl he), DropSize.larger_comm, top d (.inr rfl)]
        · exact (top e (.inl he)).symm
      · refine .inl ⟨listed.resolve_left fun h => some_e (Largest.exists_of_mem h), fun e he => some_e ⟨e, he⟩⟩
    · rintro (⟨rfl, none_e⟩ | ⟨e, ⟨he, above⟩, rfl⟩)
      · refine ⟨.inr rfl, fun z' h => ?_⟩
        rcases h with h | rfl
        · obtain ⟨e, he⟩ := Largest.exists_of_mem h
          exact absurd he (none_e e)
        · exact DropSize.larger_self _
      · refine ⟨(DropSize.larger_eq_or d e).elim .inr fun h => .inl (by rw [h]; exact he), fun z' h => ?_⟩
        rcases h with h | rfl
        · rw [DropSize.larger_assoc, above z' h]
        · rw [DropSize.larger_comm, ← DropSize.larger_assoc, DropSize.larger_self]
  next other =>
    unfold Largest
    simp [other]

/-- The merged list holds the largest size of each nozzle, once. -/
theorem foldl_mergeDrop (l : List (Nat × DropSize)) : Ascends (l.foldl (fun l x => mergeDrop x.1 x.2 l) []) ∧
    ∀ n z, (n, z) ∈ l.foldl (fun l x => mergeDrop x.1 x.2 l) [] ↔ Largest l n z := by
  induction l using List.reverseRecOn with
  | nil => exact ⟨List.Pairwise.nil, fun n z => by simp [Largest]⟩
  | append_singleton l x ih =>
    obtain ⟨k, d⟩ := x
    obtain ⟨asc, members⟩ := ih
    rw [List.foldl_append]
    refine ⟨mergeDrop_ascends asc _ _, fun n z => ?_⟩
    rw [List.foldl_cons, List.foldl_nil, mem_mergeDrop asc, Largest.append]
    simp only [members]

/-! ## The column strobe (R33 to R36) -/

theorem PassContext.nextColumn_iff (p : PassContext) (x : Nat) : p.nextColumn = some x ↔ dueColumn p x := by
  unfold PassContext.nextColumn dueColumn
  cases p.spitDone with
  | false => simp
  | true =>
    rw [if_pos rfl]
    cases p.dir <;> cases p.lastCol <;> simp [eq_comm] <;> omega

/-- The codes that meet on a channel's nozzles at a store column. -/
theorem mem_sent {s : State} (wf : Memory.wf s.store) (p : PassContext) (c : Channel) (column n : Nat) (z : DropSize) :
    ((n, z) ∈ channels.flatMap fun d => (columnDrops s.store p.slot d column).filterMap fun x =>
      match (s.maps.bankFor p.gen).route d x.1 with
      | some (q, m) => if q = c then some (m, x.2) else none
      | none => none) ↔ strikes s p c n column z := by
  unfold strikes
  rw [List.mem_flatMap]
  constructor
  · rintro ⟨d, -, h⟩
    obtain ⟨⟨m, e⟩, listed, sent⟩ := List.mem_filterMap.1 h
    obtain ⟨lt, code⟩ := (mem_columnDrops wf ..).1 listed
    refine ⟨d, m, lt, ?_⟩
    dsimp only at sent
    split at sent
    next q k route =>
      split at sent
      next same => cases sent; subst same; exact ⟨route, code⟩
      next => cases sent
    next => cases sent
  · rintro ⟨d, m, lt, route, code⟩
    refine ⟨d, mem_channels d, List.mem_filterMap.2 ⟨(m, z), (mem_columnDrops wf ..).2 ⟨lt, code⟩, ?_⟩⟩
    dsimp only
    rw [route]
    exact if_pos rfl

theorem mem_fires {s : State} (wf : Memory.wf s.store) (p : PassContext) (x : Nat) (c : Channel) (n : Nat) (z : DropSize) :
    (n, z) ∈ (s.fires p x)[c] ↔ s.driveEnable = true ∧ (p.first : Int) ≤ x - p.offsets[c] ∧ x - p.offsets[c] ≤ p.last ∧
      strikes s p c n ((x : Int) - p.offsets[c]).toNat z ∧
      ∀ z', strikes s p c n ((x : Int) - p.offsets[c]).toNat z' → z.larger z' = z := by
  unfold State.fires
  rw [Fin.getElem_fin, Vector.getElem_ofFn]
  dsimp only
  split
  next h =>
    unfold mergedColumn
    have sent (z : DropSize) := mem_sent wf p c ((x : Int) - p.offsets[c]).toNat n z
    obtain ⟨enable, low, high⟩ := h
    exact ((foldl_mergeDrop _).2 n z).trans
      ⟨fun ⟨met, top⟩ => ⟨enable, low, high, (sent z).1 met, fun z' h' => top z' ((sent z').2 h')⟩,
        fun ⟨_, _, _, met, top⟩ => ⟨(sent z).2 met, fun z' h' => top z' ((sent z').1 h')⟩⟩
  next h => exact ⟨nofun, fun ⟨h1, h2, h3, _⟩ => absurd ⟨h1, h2, h3⟩ h⟩

theorem fires_nodup (s : State) (p : PassContext) (x : Nat) (c : Channel) : ((s.fires p x)[c].map (·.1)).Nodup := by
  unfold State.fires
  rw [Fin.getElem_fin, Vector.getElem_ofFn]
  dsimp only
  split
  · unfold mergedColumn
    exact List.pairwise_map.2 ((foldl_mergeDrop _).1.imp fun lt => Nat.ne_of_lt lt)
  · exact List.nodup_nil

theorem fireGroups_getElem (drops : List (Nat × DropSize)) (set : GroupSet) (g : Fin 24) :
    (fireGroups drops set)[g] = (set[g] || drops.any fun y => decide (y.1 / 32 = g.val)) := by
  unfold fireGroups
  induction drops generalizing set with
  | nil => simp
  | cons y drops ih => rw [List.foldl_cons, ih, GroupSet.getElem_insert, List.any_cons, Bool.or_comm (decide _), Bool.or_assoc]

theorem Counts.of_add (k : Counts) (n : Nat) (y z : DropSize) : (k.add n y).of z = k.of z + if y = z then n else 0 := by
  cases y <;> cases z <;> simp [Counts.add, Counts.of]

theorem countDrops_getElem (drops : List (Nat × DropSize)) (v : Vector Counts 24) (g : Fin 24) (z : DropSize) :
    (countDrops drops v)[g].of z = v[g].of z + drops.countP fun y => y.1 / 32 = g.val ∧ y.2 = z := by
  unfold countDrops
  induction drops generalizing v with
  | nil => simp
  | cons y drops ih =>
    rw [List.foldl_cons, ih, List.countP_cons]
    have one : (if h : y.1 / 32 < 24 then modifyAt v ⟨y.1 / 32, h⟩ fun n => n.add 1 y.2 else v)[g].of z =
        v[g].of z + if y.1 / 32 = g.val ∧ y.2 = z then 1 else 0 := by
      split
      next lt =>
        rw [getElem_modifyAt]
        by_cases same : g = ⟨y.1 / 32, lt⟩
        · subst same
          rw [if_pos rfl, Counts.of_add]
          simp
        · have ne : y.1 / 32 ≠ g.val := fun e => same (Fin.ext e.symm)
          rw [if_neg same, if_neg (fun h => ne h.1), Nat.add_zero]
      next beyond => rw [if_neg (fun h => by omega), Nat.add_zero]
    rw [one]
    simp only [decide_eq_true_eq]
    omega

theorem strobed_deadline {p : PassContext} {x : Nat} (due : dueColumn p x) (now : Nat) (fired : Vector (List (Nat × DropSize)) 6) :
    (p.strobed now x fired).deadline =
      if (p.dir = .fwd ∧ p.colB ≤ x) ∨ (p.dir = .rev ∧ x ≤ p.colA) then none else some (now + 200) := by
  obtain ⟨spat, -⟩ := due
  unfold PassContext.strobed PassContext.crossed PassContext.nextColumn
  dsimp only
  rw [spat, if_pos rfl, Bool.true_and]
  refine if_congr ?_ rfl rfl
  cases p.dir <;> simp [apply_ite]

/-- Settles O32. -/
theorem columnStrobeFiresMergedCodes : Obligations.ColumnStrobeFiresMergedCodes := by
  refine fun s x => ⟨fun other => ?ignored, fun p hp due wf => ?fires⟩
  case ignored =>
    show execColumnStrobe x s = _
    unfold execColumnStrobe
    split
    next p hp => exact if_neg (fun h => other p hp ((p.nextColumn_iff x).1 h))
    next => rfl
  case fires =>
    have run : exec (.columnStrobe x) s = ends false s { s with
        pass := some (p.strobed s.now x (s.fires p x)), out := { s.out with firing := s.fires p x, shots := Vector.replicate 6 1 } } := by
      show execColumnStrobe x s = _
      unfold execColumnStrobe
      rw [hp]
      exact if_pos ((p.nextColumn_iff x).2 due)
    obtain ⟨t, ht, follows⟩ := ends_follows false s { s with
        pass := some (p.strobed s.now x (s.fires p x)), out := { s.out with firing := s.fires p x, shots := Vector.replicate 6 1 } }
    have firing : t.out.firing = s.fires p x := congrArg (·.firing) follows.out
    refine ⟨t, p.strobed s.now x (s.fires p x), run.trans ht, by rw [firing]; exact follows, rfl, strobed_deadline due .., fun c => ?_⟩
    rw [firing]
    refine ⟨mem_fires wf p x c, fires_nodup s p x c, fun g => ⟨?groups, Counts.ext_of fun z => ?counts⟩⟩
    case groups =>
      have zipped : (p.strobed s.now x (s.fires p x)).fired[c] = fireGroups (s.fires p x)[c] p.fired[c] := Vector.getElem_zipWith ..
      rw [zipped, fireGroups_getElem]
    case counts =>
      have zipped : (p.strobed s.now x (s.fires p x)).output[c] = countDrops (s.fires p x)[c] p.output[c] := Vector.getElem_zipWith ..
      rw [zipped, countDrops_getElem]
      cases z <;> rfl

end Sys2Proof.Machine
end

section
/-!
PROOFS. The end of a pass (R37 to R40, R51, R104, R127, R128).
-/

-- One declaration at a time: side by side, the threads' stacks come near the memory limit of the check.
set_option Elab.async false

namespace Sys2Proof.Machine

/-! ## Accounts written (R55, R58, R59) -/

theorem Follows.setAccount (s : State) (c : Channel) (a : Account) : Follows (s.accountWritten c a) (s.setAccount c a) := by
  rcases s.setAccount_cases c a with e | e <;> rw [e]
  · exact .reformSupply ..
  · exact (Follows.reformSupply ..).trans (.requestRefill ..)

/-- Where the supply states are formed, an account written resumes no ladder and places refills alone: no account makes a channel leave
STARVED. -/
theorem Reforms.setAccount (s : State) (c : Channel) (a : Account) : Reforms s (s.setAccount c a) := by
  have quiet (hs : s.SupplyInv) : (s.accountWritten c a).formedSupply c ≠ (s.accountWritten c a).supply[c].state →
      (s.accountWritten c a).supply[c].state ≠ .starved ∨ (s.accountWritten c a).service.ladders[c].state ≠ .suspended := by
    refine fun hne => .inl fun starved => hne (Eq.trans ?_ starved.symm)
    have was : s.formedSupply c = .starved := (hs c).symm.trans starved
    exact (State.formedSupply_eq_starved (s := s.accountWritten c a)).2 (State.formedSupply_eq_starved (s := s).1 was)
  have caps : CapsStand s ((s.accountWritten c a).reformSupply c) :=
    (⟨fun _ h _ => h, fun _ h _ => h, fun _ _ => rfl⟩ : CapsStand s (s.accountWritten c a)).trans (.reformSupply ..)
  refine ⟨⟨fun hs => ((Calm.setAccount s c a).forms hs).1, fun hs => ?ladders, fun hs q hq ho => ?requests⟩, ?caps⟩
  case ladders =>
    have stands := (reformSupply_requests (quiet hs)).1
    rcases s.setAccount_cases c a with e | e <;> rw [e]
    · exact stands
    · exact (requestRefill_requests ..).1.trans stands
  case requests =>
    rcases s.setAccount_cases c a with e | e <;> rw [e] at hq
    · exact (reformSupply_requests (quiet hs)).2 q hq ho
    · exact (reformSupply_requests (quiet hs)).2 q ((requestRefill_requests ..).2 q hq ho) ho
  case caps =>
    rcases s.setAccount_cases c a with e | e <;> rw [e]
    · exact caps
    · exact caps.trans (.requestRefill ..)

theorem Reforms.foldl {α : Type} {f : State → α → State} (h : ∀ s a, Reforms s (f s a)) (l : List α) (s : State) :
    Reforms s (l.foldl f s) :=
  foldl_keeps (P := Reforms s) (fun t a k => k.trans (h t a)) (.refl s) l

/-! ## The pass charged (R51) -/

theorem Reforms.chargePass (s : State) (p : PassContext) : Reforms s (s.chargePass p) :=
  .foldl (f := State.settleChannel p) (fun t c => .setAccount t c _) channels s

theorem Follows.settleChannels (p : PassContext) (l : List Channel) (s : State) :
    Follows { s with accounts := (l.foldl (State.settleChannel p) s).accounts } (l.foldl (State.settleChannel p) s) := by
  refine foldl_keeps (P := fun t : State => Follows { s with accounts := t.accounts } t) (fun t c h => ?_) (Follows.refl s) l
  have written : Follows { s with accounts := (t.accountWritten c (t.accounts[c].settle (p.counts c))).accounts }
      (t.accountWritten c (t.accounts[c].settle (p.counts c))) := { h with accounts := rfl }
  exact (written.trans (.setAccount ..)).withAccounts

theorem Follows.chargePass (s : State) (p : PassContext) : Follows { s with accounts := (s.chargePass p).accounts } (s.chargePass p) :=
  .settleChannels p channels s

/-! ## Drops counted (R38 step 2, R104) -/

/-- Drops added before the wear test. -/
def State.dropsAdded (s : State) (h : Head) (n : Nat) : State :=
  { s with service := { s.service with drops := modifyAt s.service.drops h fun d => min (d + n) 4294967295 } }

theorem State.addDrops_eq (s : State) (h : Head) (n : Nat) : s.addDrops h n = (s.dropsAdded h n).wearTest h := rfl

/-- Drops added to each head of a list. -/
@[irreducible] def State.dropsCounted (s : State) (f : Head → Nat) (l : List Head) : State := l.foldl (fun t h => t.addDrops h (f h)) s

theorem State.dropsCounted_frame (s : State) (f : Head → Nat) (l : List Head) : s.dropsCounted f l = { s with service := { s.service with
    drops := (s.dropsCounted f l).service.drops, pending := (s.dropsCounted f l).service.pending } } := by
  unfold State.dropsCounted
  refine foldl_keeps (P := fun t : State => t = { s with service := { s.service with
    drops := t.service.drops, pending := t.service.pending } }) (fun t h e => ?_) rfl l
  rw [State.addDrops_eq, State.wearTest_frame, e]
  rfl

theorem State.dropsAdded_drops (s : State) (h g : Head) (n : Nat) :
    (s.dropsAdded h n).service.drops[g] = if g = h then min (s.service.drops[g] + n) 4294967295 else s.service.drops[g] := by
  unfold State.dropsAdded
  dsimp only
  rw [getElem_modifyAt]

theorem State.addDrops_drops (s : State) (h g : Head) (n : Nat) :
    (s.addDrops h n).service.drops[g] = if g = h then min (s.service.drops[g] + n) 4294967295 else s.service.drops[g] := by
  rw [State.addDrops_eq, State.wearTest_frame]
  exact s.dropsAdded_drops h g n

theorem State.dropsCounted_drops (f : Head → Nat) {l : List Head} (once : l.Nodup) (s : State) (g : Head) :
    (s.dropsCounted f l).service.drops[g] = if g ∈ l then min (s.service.drops[g] + f g) 4294967295 else s.service.drops[g] := by
  unfold State.dropsCounted
  induction l generalizing s with
  | nil => simp
  | cons h l ih =>
    obtain ⟨fresh, once⟩ := List.nodup_cons.1 once
    rw [List.foldl_cons, ih once, State.addDrops_drops]
    by_cases e : g = h
    · subst e; simp [fresh]
    · simp [e]

/-- The requests pending before drops are counted are stood for afterwards. -/
theorem Follows.dropsCounted (s : State) (f : Head → Nat) (l : List Head) :
    Follows { s with service := { s.service with drops := (s.dropsCounted f l).service.drops } } (s.dropsCounted f l) := by
  unfold State.dropsCounted
  refine foldl_keeps (P := fun t : State => Follows { s with service := { s.service with drops := t.service.drops } } t)
    (fun t h k => ?_) (Follows.refl s) l
  have added : Follows { s with service := { s.service with drops := (t.dropsAdded h (f h)).service.drops } } (t.dropsAdded h (f h)) :=
    { k with drops := rfl }
  have tested := added.trans (.wearTest _ h)
  have drops : (t.addDrops h (f h)).service.drops = (t.dropsAdded h (f h)).service.drops := by
    rw [State.addDrops_eq, State.wearTest_frame]
  rw [drops]
  exact tested

/-- Counting drops makes the automatic WIPE of a head pending where its drops then reach the wipe interval (R104). -/
theorem dropsCounted_asks {h : Head} (f : Head → Nat) {l : List Head} (once : l.Nodup) {s : State} (hs : WipeComes h s)
    (worn : s.tables.service.wipeInterval ≤ (s.dropsCounted f l).service.drops[h]) (clear : s.lane.conditions.stationFault = false)
    (hl : h ∈ l ∨ ∃ q ∈ s.service.pending, q.covers ⟨.wipe h, none, byWear⟩) :
    ∃ q ∈ (s.dropsCounted f l).service.pending, q.covers ⟨.wipe h, none, byWear⟩ := by
  unfold State.dropsCounted at worn ⊢
  induction l generalizing s with
  | nil => exact hl.resolve_left nofun
  | cons g l ih =>
    have comes : WipeComes h (s.dropsAdded g (f g)) := hs
    have frame := (s.dropsAdded g (f g)).wearTest_frame g
    obtain ⟨fresh, once'⟩ := List.nodup_cons.1 once
    refine ih once' (s := s.addDrops g (f g)) (comes.wearTest g) ?_ ?_ ?_
    · have tables : (s.addDrops g (f g)).tables = s.tables := by rw [State.addDrops_eq, frame]; rfl
      rw [tables]
      exact worn
    · rw [State.addDrops_eq, frame]; exact clear
    · by_cases e : g = h
      · subst e
        refine .inr (comes.asks ?_ clear)
        have drops := State.dropsCounted_drops f once s g
        unfold State.dropsCounted at drops
        rw [drops, if_pos (List.mem_cons_self ..)] at worn
        rw [State.dropsAdded_drops, if_pos rfl]
        exact worn
      · rcases hl with mem | here
        · exact .inl ((List.mem_cons.1 mem).resolve_left fun h' => e h'.symm)
        · obtain ⟨q, hq, hc⟩ := here
          obtain ⟨p, hp, hpq⟩ := (Follows.wearTest (s.dropsAdded g (f g)) g).requests q hq (StationOp.not_cap_of_matches hc.1 nofun)
          exact .inr ⟨p, hp, Request.covers_trans hpq hc⟩

/-! ## The pass settled (R38, R40, R51) -/

theorem State.countPass_eq (s : State) (p : PassContext) : s.countPass p = (s.stamp p.fired).dropsCounted p.headDrops [0, 1, 2] := by
  unfold State.countPass State.dropsCounted
  rfl

theorem State.stamp_stamps (s : State) (sets : Vector GroupSet 6) (c : Channel) (g : Fin 24) :
    (s.stamp sets).service.stamps[c][g] = if sets[c][g] then max s.now s.service.stamps[c][g] else s.service.stamps[c][g] := by
  simp [State.stamp, stampGroups, Nat.max_comm]

theorem mem_heads (h : Head) : h ∈ ([0, 1, 2] : List Head) := by fin_cases h <;> decide

theorem Request.op_of_covers_wipe {q : Request} {h : Head} {a : Option Nat} {o : Origins} (hc : q.covers ⟨.wipe h, a, o⟩) :
    q.op = .wipe h := by
  obtain ⟨hm, -⟩ := hc
  cases hq : q.op <;> simp_all [StationOp.matches, StationOp.refillChannel]

section

variable (s : State) (p : PassContext)

theorem State.countPass_frame : s.countPass p = { s with service := { s.service with
    stamps := (s.countPass p).service.stamps, drops := (s.countPass p).service.drops, pending := (s.countPass p).service.pending } } := by
  rw [State.countPass_eq]
  have frame := (s.stamp p.fired).dropsCounted_frame p.headDrops [0, 1, 2]
  generalize (s.stamp p.fired).dropsCounted p.headDrops [0, 1, 2] = x at frame ⊢
  rw [frame]
  rfl

theorem Follows.countPass : Follows { s with service := { s.service with
    stamps := (s.countPass p).service.stamps, drops := (s.countPass p).service.drops } } (s.countPass p) := by
  rw [State.countPass_eq]
  have counted := Follows.dropsCounted (s.stamp p.fired) p.headDrops [0, 1, 2]
  generalize (s.stamp p.fired).dropsCounted p.headDrops [0, 1, 2] = x at counted ⊢
  exact { counted with stamps := rfl }

theorem State.countPass_stamps (c : Channel) (g : Fin 24) : (s.countPass p).service.stamps[c][g] =
    if p.fired[c][g] then max s.now s.service.stamps[c][g] else s.service.stamps[c][g] := by
  rw [State.countPass_eq, State.dropsCounted_frame]
  exact s.stamp_stamps p.fired c g

theorem State.countPass_drops (h : Head) :
    (s.countPass p).service.drops[h] = min (s.service.drops[h] + p.headDrops h) 4294967295 := by
  rw [State.countPass_eq, State.dropsCounted_drops _ (by decide), if_pos (mem_heads h)]
  rfl

/-- Counting a pass's drops makes the automatic WIPE that they call for pending. -/
theorem countPass_asks {h : Head} (clear : s.lane.conditions.stationFault = false)
    (worn : s.tables.service.wipeInterval ≤ (s.countPass p).service.drops[h]) (fresh : s.service.wipeAsked h = false) :
    ∃ q ∈ (s.countPass p).service.pending, q.covers ⟨.wipe h, none, byWear⟩ := by
  rw [State.countPass_eq] at worn ⊢
  have comes : WipeComes h (s.stamp p.fired) := .inl fresh
  exact dropsCounted_asks p.headDrops (by decide) comes worn clear (.inl (mem_heads h))

end

end Sys2Proof.Machine
end

section
/-!
PROOFS. Passes that end: by completion, by the strobe timeout (R37 to R40).
-/

-- One declaration at a time: side by side, the threads' stacks come near the memory limit of the check.
set_option Elab.async false

namespace Sys2Proof.Machine

/-! ## Charged and counted -/

theorem Request.wear_of_covers {q : Request} {op : StationOp} {a : Option Nat} (hc : q.covers ⟨op, a, byWear⟩) : q.origins.wear = true := by
  obtain ⟨-, -, union, -⟩ := hc
  rw [← union]
  simp [Origins.union, byWear]

section

variable (s : State) (p : PassContext)

theorem Follows.passSettled : Follows { s with
    accounts := (s.passSettled p).accounts
    service := { s.service with stamps := (s.passSettled p).service.stamps, drops := (s.passSettled p).service.drops } }
    (s.passSettled p) := by
  unfold State.passSettled
  have charged := Follows.chargePass s p
  generalize s.chargePass p = u at charged ⊢
  have counted := Follows.countPass u p
  have accounts := State.countPass_accounts u p
  generalize u.countPass p = x at counted accounts ⊢
  rw [accounts]
  have written : Follows { s with
      accounts := u.accounts, service := { s.service with stamps := x.service.stamps, drops := x.service.drops } }
      { u with service := { u.service with stamps := x.service.stamps, drops := x.service.drops } } :=
    { charged with stamps := rfl, drops := rfl }
  exact written.trans counted

theorem State.passSettled_stamps (c : Channel) (g : Fin 24) : (s.passSettled p).service.stamps[c][g] =
    if p.fired[c][g] then max s.now s.service.stamps[c][g] else s.service.stamps[c][g] := by
  unfold State.passSettled
  have charged := Follows.chargePass s p
  rw [State.countPass_stamps, charged.stamps, charged.now]

theorem State.passSettled_drops (h : Head) :
    (s.passSettled p).service.drops[h] = min (s.service.drops[h] + p.headDrops h) 4294967295 := by
  unfold State.passSettled
  rw [State.countPass_drops, (Follows.chargePass s p).drops]

/-- The automatic WIPE that the drops of a pass call for (R104): one that comes by another way is of a ladder resumed. -/
theorem passSettled_asks {h : Head} (clear : s.lane.conditions.stationFault = false)
    (worn : s.tables.service.wipeInterval ≤ (s.passSettled p).service.drops[h]) (fresh : s.service.wipeAsked h = false) :
    ∃ q ∈ (s.passSettled p).service.pending, q.op = .wipe h ∧ (s.SupplyInv → q.origins.wear = true) := by
  unfold State.passSettled at worn ⊢
  have charged := Follows.chargePass s p
  have reforms := Reforms.chargePass s p
  generalize s.chargePass p = u at charged reforms worn ⊢
  have still : u.lane.conditions.stationFault = false := (reforms.clear .stationFault nofun).trans clear
  by_cases asked : u.service.wipeAsked h = false
  · obtain ⟨q, hq, hc⟩ := countPass_asks u p still (by rw [charged.tables]; exact worn) asked
    exact ⟨q, hq, Request.op_of_covers_wipe hc, fun _ => Request.wear_of_covers hc⟩
  · have old : ¬ ∃ q ∈ s.service.pending, q.op = .wipe h := by
      rintro ⟨q, hq, op⟩
      have asked : s.service.wipeAsked h = true := by
        unfold Service.wipeAsked
        rw [List.any_eq_true.2 ⟨q, hq, decide_eq_true op⟩, Bool.true_or]
      rw [asked] at fresh
      cases fresh
    have placed : ∃ q ∈ u.service.pending, q.op = .wipe h := by
      unfold Service.wipeAsked at asked fresh
      have same : u.service.inFlight = s.service.inFlight := by unfold Service.inFlight; rw [charged.holder]
      rw [same] at asked
      rw [Bool.or_eq_false_iff] at fresh
      rw [fresh.2, Bool.or_false, Bool.not_eq_false, List.any_eq_true] at asked
      obtain ⟨q, hq, op⟩ := asked
      exact ⟨q, hq, of_decide_eq_true op⟩
    obtain ⟨q, hq, op⟩ := placed
    obtain ⟨r, hr, hc⟩ := (Follows.countPass u p).requests q hq (by rw [op]; nofun)
    refine ⟨r, hr, Request.op_of_covers_wipe (a := q.amount) (o := q.origins) (by rw [← op]; exact hc), fun formed => ?_⟩
    exact absurd ⟨q, reforms.requests formed q hq (by rw [op]; rfl), op⟩ old

end

/-! ## Ended -/

/-- A pass that leaves: its slot FREE, its entry gone, the head drive low and the carriage free (R38, R40). -/
def State.passLeft (u : State) (i : SlotIx) (now : Nat) (complete : Bool) : State :=
  { u with
    slots := setAt u.slots i blankSlot
    maps := (u.freeSlot i).maps
    queue := u.queue.tail
    wetEdge := if complete then some now else none
    driveEnable := false
    pass := none
    service := { u.service with holder := .free, idleSince := u.now, uncapInFlight := false }
    out := if complete then u.out else { u.out with carriage := .stop } }

theorem State.endPass_left (s : State) (p : PassContext) (complete : Bool) :
    s.endPass p complete = (s.passTold p complete).passLeft p.slot s.now complete := by
  rw [State.endPass_eq]
  generalize s.passTold p complete = u
  rfl

theorem Follows.passLeft {w u : State} (h : Follows w u) (i : SlotIx) (now : Nat) (complete : Bool) :
    Follows { w.passLeft i now complete with maps := (u.passLeft i now complete).maps } (u.passLeft i now complete) :=
  { h with
    slots := congrArg (setAt · i blankSlot) h.slots
    queue := by
      show u.queue.tail.map _ = w.queue.tail.map _
      rw [List.map_tail, List.map_tail, h.queue]
    wetEdge := rfl, pass := rfl, driveEnable := rfl, maps := rfl, holder := rfl, idleSince := h.now, uncapInFlight := rfl
    out := by
      show (if complete then u.out else { u.out with carriage := .stop }) = if complete then w.out else { w.out with carriage := .stop }
      rw [h.out] }

/-- The state at the end of a pass before its slot is freed, but for what forms again (R38 steps 1 to 4). -/
def State.passCharged (s : State) (p : PassContext) : State :=
  { s with
    accounts := (s.passSettled p).accounts
    service := { s.service with stamps := (s.passSettled p).service.stamps, drops := (s.passSettled p).service.drops }
    feed := { s.feed with
      window := appendWindow (s.passDebits p).toList.sum s.feed.window
      dryExpiry := s.dryStarted (appendWindow (s.passDebits p).toList.sum s.feed.window) } }

theorem Follows.passTold (s : State) (p : PassContext) (complete : Bool) : Follows (s.passCharged p) (s.passTold p complete) := by
  unfold State.passCharged State.passTold
  have settled := Follows.passSettled s p
  generalize s.passSettled p = y at settled ⊢
  have dry (w : List Nat) : y.dryStarted w = s.dryStarted w := by
    have feed : y.feed = s.feed := settled.feed
    have tables : y.tables = s.tables := settled.tables
    have now : y.now = s.now := settled.now
    have scan : y.scan = s.scan := settled.scan
    unfold State.dryStarted State.isCold State.fresh
    rw [feed, tables, now, scan]
  rw [State.startDrying_eq, dry, show y.feed = s.feed from settled.feed]
  have dried := { settled with feed := rfl : Follows
    { s with
      accounts := y.accounts
      service := { s.service with stamps := y.service.stamps, drops := y.service.drops }
      feed := { s.feed with
        window := appendWindow (s.passDebits p).toList.sum s.feed.window
        dryExpiry := s.dryStarted (appendWindow (s.passDebits p).toList.sum s.feed.window) } }
    { y with feed := { s.feed with
        window := appendWindow (s.passDebits p).toList.sum s.feed.window
        dryExpiry := s.dryStarted (appendWindow (s.passDebits p).toList.sum s.feed.window) } } }
  exact dried.trans (.raise ..)

/-- The end of a pass, but for what forms again. -/
theorem Follows.endPass (s : State) (p : PassContext) (complete : Bool) : Follows
    { (s.passCharged p).passLeft p.slot s.now complete with maps := (s.endPass p complete).maps } (s.endPass p complete) := by
  rw [State.endPass_left]
  exact (Follows.passTold s p complete).passLeft ..

theorem State.endPass_holder (s : State) (p : PassContext) (complete : Bool) : (s.endPass p complete).service.holder = .free :=
  (s.passOver p complete).holder

theorem State.endPass_pending (s : State) (p : PassContext) (complete : Bool) :
    (s.endPass p complete).service.pending = (s.passSettled p).service.pending := by
  rw [State.endPass_left]
  unfold State.passTold
  rw [State.startDrying_eq]
  generalize s.passSettled p = y
  rfl

theorem Account.settle_charged {a : Account} {r : ReleaseRec} (h : a.release = some r) (n : Counts) : a.settle n = a.charged r n := by
  unfold Account.settle Account.passDebit Account.charged Account.charge
  rw [h]
  dsimp only
  split
  next le => rw [decide_eq_true le, Bool.and_true]
  next gt => rw [decide_eq_false gt, Bool.and_false, Nat.sub_eq_zero_of_le (Nat.le_of_not_le gt)]

/-- The event of a pass's end stands in the return queue, where at most 51 events waited before. -/
theorem State.endPass_tells (s : State) (p : PassContext) (complete : Bool) (room : s.lane.events.length ≤ 51) :
    ⟨s.now, s.passEvent p complete⟩ ∈ (s.endPass p complete).lane.events := by
  have raised := (Inks.passSettled s p).lane
  have now : (s.passSettled p).now = s.now := (Follows.passSettled s p).now
  rw [State.endPass_left]
  unfold State.passTold
  rw [State.startDrying_eq, ← now]
  generalize s.passSettled p = y at raised ⊢
  obtain ⟨new, events, few⟩ := raised.events
  refine State.mem_raise { y with feed := _ } (s.passEvent p complete) ?_
  show y.lane.events.length < 64
  rw [events, List.length_append]
  omega

theorem State.endPass_accounts (s : State) (p : PassContext) (complete : Bool) (c : Channel) :
    (s.endPass p complete).accounts[c] = s.accounts[c].settle (p.counts c) := (s.passOver p complete).accounts c

/-- What the end of a pass leaves of the parts that PassEnded speaks of. -/
theorem State.endPass_parts (s : State) (p : PassContext) (complete : Bool) :
    (s.endPass p complete).service.stamps = (s.passSettled p).service.stamps ∧
    (s.endPass p complete).service.drops = (s.passSettled p).service.drops ∧
    (s.endPass p complete).feed = { s.feed with
      window := appendWindow (s.passDebits p).toList.sum s.feed.window
      dryExpiry := s.dryStarted (appendWindow (s.passDebits p).toList.sum s.feed.window) } ∧
    (s.endPass p complete).slots = setAt s.slots p.slot blankSlot ∧
    (s.endPass p complete).wetEdge = (if complete then some s.now else none) ∧
    (s.endPass p complete).service.idleSince = s.now ∧
    (s.endPass p complete).driveEnable = false ∧ (s.endPass p complete).pass = none ∧
    (s.endPass p complete).service.holder = .free := by
  have ended := Follows.endPass s p complete
  unfold State.passCharged at ended
  generalize s.endPass p complete = x at ended ⊢
  generalize s.passSettled p = y at ended ⊢
  generalize s.dryStarted _ = d, (s.passDebits p).toList.sum = debit at ended ⊢
  exact ⟨ended.stamps, ended.drops, ended.feed, ended.slots, ended.wetEdge, ended.idleSince, ended.driveEnable, ended.pass, ended.holder⟩

/-- What the end of a pass reads of the state. -/
structure Alike (s u : State) : Prop where
  frame : u = { s with stop := u.stop, driveEnable := u.driveEnable, inputs := u.inputs, lane := u.lane }
  fault : s.lane.conditions.stationFault = false → u.lane.conditions.stationFault = false

/-- The end of the pass p of u, where u is s but for what does not enter it. -/
theorem PassEnded.of_endPass {s u : State} (p : PassContext) (complete : Bool) (same : Alike s u)
    (room : s.lane.events.length ≤ 32 → u.lane.events.length ≤ 51) : PassEnded s (u.endPass p complete) p complete := by
  obtain ⟨frame, fault⟩ := same
  obtain ⟨stamped, dropped, fed, freed, wet, idle, enable, noPass, holder⟩ := State.endPass_parts u p complete
  have pending := State.endPass_pending u p complete
  have tells := State.endPass_tells u p complete
  have accounts := State.endPass_accounts u p complete
  have stamps := State.passSettled_stamps u p
  have drops := State.passSettled_drops u p
  have asks (h : Head) := passSettled_asks u p (h := h)
  generalize u.endPass p complete = x at stamped dropped fed freed wet idle enable noPass holder pending tells accounts ⊢
  generalize u.passSettled p = y at stamps drops asks pending stamped dropped
  have now : u.now = s.now := by rw [frame]
  have service : u.service = s.service := by rw [frame]
  have base : u.accounts = s.accounts ∧ u.tables = s.tables ∧ u.feed = s.feed ∧ u.supply = s.supply ∧ u.slots = s.slots := by
    rw [frame]
    exact ⟨rfl, rfl, rfl, rfl, rfl⟩
  obtain ⟨account, tables, feed, supply, slots⟩ := base
  have debits : u.passDebits p = s.passDebits p := by unfold State.passDebits; rw [account]
  refine ⟨?accounts, ?stamps, ?drops, ?wear, ?window, ?drying, ?told, ?freed, ?wet, ?enable, ?noPass, ?holder, ?idle⟩
  case accounts =>
    intro c r h
    rw [accounts, account, Account.settle_charged h]
  case stamps =>
    intro c g
    rw [stamped, stamps, now, service]
  case drops =>
    intro h
    rw [dropped, drops, service]
  case wear =>
    intro clear h worn fresh
    rw [dropped] at worn
    rw [pending]
    obtain ⟨q, hq, op, wear⟩ := asks h (fault clear) (by rw [tables]; exact worn) (by rw [service]; exact fresh)
    exact ⟨q, hq, op, fun formed => wear (supplyInv_congr supply account tables formed)⟩
  case window => rw [fed, debits, feed]
  case drying =>
    intro k hk
    rw [fed, feed]
    dsimp only
    unfold State.dryStarted
    rw [feed, hk, now, tables, debits]
    have cold : u.isCold s.tables.profile[k] = s.isCold s.tables.profile[k] := by rw [frame]; rfl
    rw [← cold]
  case told =>
    intro few
    have told := tells (room few)
    have event : u.passEvent p complete = s.passEvent p complete := by
      unfold State.passEvent
      rw [debits, slots]
    rw [now, event] at told
    exact List.mem_append_right _ told
  case freed =>
    rw [freed]
    exact (getElem_setAt ..).trans (if_pos rfl)
  case wet => rw [wet, now]
  case enable => exact enable
  case noPass => exact noPass
  case holder => exact holder
  case idle => rw [idle, now]

theorem Alike.refl (s : State) : Alike s s := ⟨rfl, id⟩

theorem Alike.latched (s : State) (cause : StopCause) : Alike s (s.latched cause) :=
  ⟨rfl, (Lane.raise_latched_iff s.now _ s.lane (k := .stationFault) nofun).trans⟩

theorem PassEnded.follows {s x t : State} {p : PassContext} {complete : Bool} (h : PassEnded s x p complete) (k : Follows x t) :
    PassEnded s t p complete where
  accounts c r hr := by rw [k.accounts]; exact h.accounts c r hr
  stamps := by rw [k.stamps]; exact h.stamps
  drops := by rw [k.drops]; exact h.drops
  wear clear g worn fresh := by
    rw [k.drops] at worn
    obtain ⟨q, hq, op, wear⟩ := h.wear clear g worn fresh
    obtain ⟨r, hr, hc⟩ := k.requests q hq (by rw [op]; nofun)
    have same : r.op = .wipe g := Request.op_of_covers_wipe (a := q.amount) (o := q.origins) (by rw [← op]; exact hc)
    refine ⟨r, hr, same, fun formed => ?_⟩
    obtain ⟨-, -, union, -⟩ := hc
    rw [← union]
    simp [Origins.union, wear formed]
  window := by rw [k.feed]; exact h.window
  drying := by rw [k.feed]; exact h.drying
  told room := k.events.subset (h.told room)
  freed := by rw [k.slots]; exact h.freed
  wet := k.wetEdge.trans h.wet
  enable := k.driveEnable.trans h.enable
  noPass := k.pass.trans h.noPass
  holder := k.holder.trans h.holder
  idle := k.idleSince.trans h.idle

/-- PassEnded speaks of these parts alone. -/
theorem PassEnded.congr {s x t : State} {p : PassContext} {complete : Bool} (h : PassEnded s x p complete)
    (window : t.feed.window = x.feed.window) (dry : t.feed.dryExpiry = x.feed.dryExpiry) (slots : t.slots[p.slot] = x.slots[p.slot])
    (reported : t.lane.reported = x.lane.reported := by rfl) (accounts : t.accounts = x.accounts := by rfl)
    (stamps : t.service.stamps = x.service.stamps := by rfl) (drops : t.service.drops = x.service.drops := by rfl)
    (pending : t.service.pending = x.service.pending := by rfl) (holder : t.service.holder = x.service.holder := by rfl)
    (idle : t.service.idleSince = x.service.idleSince := by rfl) (wet : t.wetEdge = x.wetEdge := by rfl)
    (enable : t.driveEnable = x.driveEnable := by rfl) (pass : t.pass = x.pass := by rfl) : PassEnded s t p complete where
  accounts := by rw [accounts]; exact h.accounts
  stamps := by rw [stamps]; exact h.stamps
  drops := by rw [drops]; exact h.drops
  wear := by rw [drops, pending]; exact h.wear
  window := by rw [window]; exact h.window
  drying := by rw [window, dry]; exact h.drying
  told room := by rw [reported]; exact h.told room
  freed := slots.trans h.freed
  wet := wet.trans h.wet
  enable := enable.trans h.enable
  noPass := pass.trans h.noPass
  holder := holder.trans h.holder
  idle := idle.trans h.idle

end Sys2Proof.Machine
end

section
/-!
PROOFS. PASS_COMPLETION and STROBE_TIMEOUT (R37 to R40, R148).
-/

-- One declaration at a time: side by side, the threads' stacks come near the memory limit of the check.
set_option Elab.async false

namespace Sys2Proof.Machine

/-! ## A stop during a pass (R148) -/

/-- A pause writes the motion, the cutter and what drives them. -/
theorem State.pauseMotion_frame (s : State) : s.pauseMotion = { s with
    feed := { s.feed with motion := s.pauseMotion.feed.motion, cutter := s.pauseMotion.feed.cutter }
    out := { s.out with feed := s.pauseMotion.out.feed, cutter := s.pauseMotion.out.cutter } } := by
  unfold State.pauseMotion
  split
  · rfl
  · split
    · rfl
    · rw [State.redrive_eq]; rfl

/-- A stop during a pass aborts it, and pauses the motion: no operation is in flight besides. -/
theorem State.setStop_pass {s : State} {p : PassContext} (hp : s.pass = some p) (clear : s.stop.set = false) (cause : StopCause) :
    s.setStop cause = ((s.latched cause).endPass p false).pauseMotion := by
  have aborted : (s.latched cause).abortPass = (s.latched cause).endPass p false := State.abortPass_of_some hp
  have holder := State.endPass_holder (s.latched cause) p false
  rw [State.setStop_eq, if_neg (by rw [clear]; decide), aborted]
  generalize (s.latched cause).endPass p false = x at holder ⊢
  have idle : x.stopOp = x := by
    unfold State.stopOp Service.inFlight
    rw [holder]
  rw [idle]

theorem PassEnded.pauseMotion {s x : State} {p : PassContext} {complete : Bool} (h : PassEnded s x p complete) :
    PassEnded s x.pauseMotion p complete := by
  rw [State.pauseMotion_frame]
  exact h.congr rfl rfl rfl

/-- A stop during a pass ends it as aborted. -/
theorem PassEnded.setStop {s : State} {p : PassContext} (hp : s.pass = some p) (clear : s.stop.set = false) (cause : StopCause) :
    PassEnded s (s.setStop cause) p false := by
  rw [State.setStop_pass hp clear]
  refine (PassEnded.of_endPass p false (Alike.latched s cause) fun room => ?_).pauseMotion
  obtain ⟨new, events, few⟩ := (Acts.latched s cause).lane.events
  rw [events, List.length_append]
  omega

theorem Follows.pauseMotion {w x : State} (h : Follows w x) : Follows { w with
    feed := x.pauseMotion.feed, out := { w.out with feed := x.pauseMotion.out.feed, cutter := x.pauseMotion.out.cutter } }
    x.pauseMotion := by
  have frame := x.pauseMotion_frame
  generalize x.pauseMotion = y at frame ⊢
  have out : y.out = { w.out with feed := y.out.feed, cutter := y.out.cutter } := by
    rw [frame, ← h.out]
  have written : Follows { w with feed := y.feed, out := y.out } { x with feed := y.feed, out := y.out } :=
    { h with feed := rfl, out := rfl }
  have same : y = { x with feed := y.feed, out := y.out } := by
    rw [frame]
  rw [← same, out] at written
  exact written

/-- A stop during a pass, but for what forms again. -/
theorem Follows.setStop_pass {s : State} {p : PassContext} (hp : s.pass = some p) (clear : s.stop.set = false) (cause : StopCause) :
    Follows { ((s.latched cause).passCharged p).passLeft p.slot s.now false with
      maps := (s.setStop cause).maps
      feed := (s.setStop cause).feed
      out := { s.out with carriage := .stop, feed := (s.setStop cause).out.feed, cutter := (s.setStop cause).out.cutter } }
      (s.setStop cause) := by
  rw [State.setStop_pass hp clear]
  have left := Follows.endPass (s.latched cause) p false
  have out : (s.latched cause).out = s.out := rfl
  unfold State.passCharged at left ⊢
  generalize (s.latched cause).endPass p false = x at left ⊢
  generalize (s.latched cause).passSettled p = y, (s.latched cause).dryStarted _ = d at left ⊢
  generalize s.latched cause = u at left out ⊢
  have maps : x.pauseMotion.maps = x.maps := by rw [State.pauseMotion_frame]
  rw [maps, ← out]
  exact left.pauseMotion

/-- Settles O33. -/
theorem passEndsByCompletionOrTimeout : Obligations.PassEndsByCompletionOrTimeout := by
  refine fun s => ⟨fun early => ?early, fun p hp crossed => ?completes, fun waits => ?waits, fun p d hp hd due clear => ?timesOut⟩
  case early =>
    show execPassCompletion s = _
    unfold execPassCompletion
    split
    next p hp => exact if_neg (by rw [early p hp]; decide)
    next => rfl
  case completes =>
    have run : exec .passCompletion s = ends false s (s.endPass p true) := by
      show execPassCompletion s = _
      unfold execPassCompletion
      rw [hp]
      exact if_pos crossed
    have ended := PassEnded.of_endPass p true (Alike.refl s) fun room => by omega
    have left := Follows.endPass s p true
    obtain ⟨t, ht, follows⟩ := ends_follows false s (s.endPass p true)
    have all := left.trans follows
    unfold State.passCharged at all
    generalize s.passSettled p = y at all
    refine ⟨t, run.trans ht, ended.follows follows, all.queue, fun j ne => ?_, all.stop, all.docked, ?_, all.store, all.tables, all.out,
      all.requests⟩
    · rw [all.slots]
      exact (getElem_setAt ..).trans (if_neg ne)
    · rw [all.feed]
      rfl
  case waits =>
    show execStrobeTimeout s = _
    unfold execStrobeTimeout
    split
    next d h =>
      obtain ⟨p, hp, hd⟩ := Option.bind_eq_some_iff.1 h
      exact if_neg (Nat.not_le.2 (waits p d hp hd))
    next => rfl
  case timesOut =>
    have run : exec .strobeTimeout s = ends false s (s.setStop .strobeTimeout) := by
      show execStrobeTimeout s = _
      unfold execStrobeTimeout
      rw [hp]
      show (match p.deadline with
        | some t => if t ≤ s.now then ends false s (s.setStop .strobeTimeout) else .next s
        | none => .next s) = _
      rw [hd]
      exact if_pos due
    have ended := PassEnded.setStop hp clear .strobeTimeout
    obtain ⟨t, ht, follows⟩ := ends_follows false s (s.setStop .strobeTimeout)
    have all := (Follows.setStop_pass hp clear .strobeTimeout).trans follows
    unfold State.passCharged at all
    generalize (s.latched .strobeTimeout).passSettled p = y at all
    refine ⟨t, run.trans ht, ended.follows follows, all.stop, ?_, all.queue, fun j ne => ?_, ?_, all.store, all.tables, all.rx.trans (Lane.raise_rx ..)⟩
    · intro room
      have told := State.mem_raise { s with stop := ⟨true, some .strobeTimeout⟩, driveEnable := false }
        (.forcedStop .strobeTimeout s.now (s.pass.map (·.slot))) (Nat.lt_of_le_of_lt room (by decide))
      have event : Event.forcedStop .strobeTimeout s.now (s.pass.map (·.slot)) = .forcedStop .strobeTimeout s.now (some p.slot) := by
        rw [hp]; rfl
      rw [← event]
      exact all.events.subset (List.mem_append_right _ told)
    · rw [all.slots]
      exact (getElem_setAt ..).trans (if_neg ne)
    · rw [all.out]

end Sys2Proof.Machine
end

section
/-!
PROOFS. ABORT and RESUME (R41, R19, R136, R135, R150).
-/

-- One declaration at a time: side by side, the threads' stacks come near the memory limit of the check.
set_option Elab.async false

namespace Sys2Proof.Machine

/-! ## ABORT (R41) -/

/-- What the end of a pass, if one is in flight, leaves but for what forms again. -/
def State.besidePass (u y : State) : State :=
  { u with
    accounts := y.accounts
    service := { u.service with
      stamps := y.service.stamps, drops := y.service.drops, holder := y.service.holder, idleSince := y.service.idleSince
      uncapInFlight := y.service.uncapInFlight }
    feed := { u.feed with window := y.feed.window, dryExpiry := y.feed.dryExpiry }
    slots := y.slots, maps := y.maps, queue := y.queue, wetEdge := y.wetEdge, driveEnable := y.driveEnable, pass := y.pass, out := y.out }

theorem Follows.abortPass (u : State) : Follows (u.besidePass u.abortPass) u.abortPass := by
  cases hp : u.pass with
  | none =>
    rw [State.abortPass_of_none hp]
    exact Follows.refl u
  | some p =>
    rw [State.abortPass_of_some hp]
    have ended := Follows.endPass u p false
    unfold State.passCharged at ended
    generalize u.passSettled p = y, u.endPass p false = x at ended
    have feed : x.feed = { u.feed with window := x.feed.window, dryExpiry := x.feed.dryExpiry } := by rw [ended.feed]; rfl
    exact { ended with
      slots := rfl, queue := rfl, wetEdge := rfl, pass := rfl, driveEnable := rfl, accounts := rfl, maps := rfl, feed := feed, out := rfl
      stamps := rfl, drops := rfl, holder := rfl, idleSince := rfl, uncapInFlight := rfl }

theorem State.abortPass_slots (u : State) (i : SlotIx) :
    u.abortPass.slots[i] = if ∃ p, u.pass = some p ∧ p.slot = i then blankSlot else u.slots[i] := by
  cases hp : u.pass with
  | none =>
    rw [State.abortPass_of_none hp, if_neg]
    rintro ⟨p, h, -⟩
    cases h
  | some p =>
    rw [State.abortPass_of_some hp, (u.passOver p false).slots, getElem_setAt]
    refine if_congr ?_ rfl rfl
    simp only [Option.some.injEq, exists_eq_left']
    exact eq_comm

theorem Slot.unprinted_eq (sl : Slot) : sl.unprinted = if sl.state = .composing ∨ sl.state = .queued then blankSlot else sl := by
  unfold Slot.unprinted
  cases h : sl.state <;> simp

theorem State.abort_slots (u : State) (i : SlotIx) : u.abort.slots[i] =
    if u.slots[i].state = .composing ∨ u.slots[i].state = .queued ∨ (∃ p, u.pass = some p ∧ p.slot = i) then blankSlot else u.slots[i] := by
  have freed : u.abort.slots[i] = u.abortPass.slots[i].unprinted := u.abortPass.unqueued.slotsFreed_slots i
  rw [freed, State.abortPass_slots]
  by_cases printing : ∃ p, u.pass = some p ∧ p.slot = i
  · rw [if_pos printing, if_pos (.inr (.inr printing))]
    rfl
  · rw [if_neg printing, Slot.unprinted_eq]
    exact if_congr (by simp only [printing, or_false]) rfl rfl

/-- ABORT leaves what the end of the pass leaves, the queue empty and an entry's motion an orphan. -/
theorem Follows.abort (u : State) : Follows { u.besidePass u.abortPass with
    queue := [], wetEdge := none, slots := u.abort.slots, maps := u.abort.maps
    feed := ({ u.feed with window := u.abortPass.feed.window, dryExpiry := u.abortPass.feed.dryExpiry } : Feed).orphaned } u.abort := by
  have aborted := Follows.abortPass u
  have only : SlotsOnly u.abortPass.unqueued u.abort := u.abortPass.unqueued.slotsFreed_only
  generalize u.abortPass = y, u.abort = x at aborted only ⊢
  have feed := aborted.feed
  rw [only]
  exact { aborted with
    slots := rfl, maps := rfl, queue := rfl, wetEdge := rfl
    feed := congrArg Feed.orphaned feed
    requests := aborted.requests }

theorem PassEnded.abort {s : State} {p : PassContext} (hp : s.pass = some p) : PassEnded s s.popped.abort p false := by
  have aborted : s.popped.abortPass = s.popped.endPass p false := State.abortPass_of_some hp
  have ended : PassEnded s s.popped.abortPass p false := by
    rw [aborted]
    exact .of_endPass p false ⟨rfl, id⟩ fun room => Nat.le_trans room (by decide)
  have only : SlotsOnly s.popped.abortPass.unqueued s.popped.abort := s.popped.abortPass.unqueued.slotsFreed_only
  have slot : s.popped.abort.slots[p.slot] = blankSlot := by
    rw [State.abort_slots, if_pos (.inr (.inr ⟨p, hp, rfl⟩))]
  generalize s.popped.abortPass = y, s.popped.abort = x at ended only slot ⊢
  have part : x.feed.window = y.feed.window ∧ x.feed.dryExpiry = y.feed.dryExpiry := by rw [only]; exact ⟨rfl, rfl⟩
  rw [only]
  exact ended.congr rfl rfl (slot.trans ended.freed.symm) (wet := ended.wet.symm)

section

variable {s : State} {tag : Byte}

theorem abort_served (h : s.asks 0x07#8 tag []) : exec .abort s = .next (State.finish false s (s.popped.abort.replied 0x07#8 tag .done)) :=
  served_finish (c := .abort) (act := noBody fun t => .done t.abort) h rfl rfl

/-- ABORT without a pass in flight writes the queue, the wet-edge timer, the slots, the banks and the motion alone. -/
theorem abort_idle (idle : s.pass = none) {t : State} (follows : Follows (s.popped.abort.replied 0x07#8 tag .done) t) :
    Follows (({ s with
      queue := [], wetEdge := none, slots := t.slots, maps := t.maps
      feed := { s.feed with motion := t.feed.motion } } : State).answered 0x07#8 tag .done) t := by
  have aborted : s.popped.abortPass = s.popped := State.abortPass_of_none idle
  have left := (Follows.abort s.popped).replied 0x07#8 tag .done
  rw [aborted] at left
  generalize s.popped.abort = x at left follows
  have all := left.trans follows
  exact { all with
    slots := rfl, maps := rfl
    feed := by rw [all.feed]; rfl }

end

/-! ## RESUME (R150, R135) -/

theorem State.atStopLevel_iff (s : State) (i : DIn) : s.atStopLevel i = true ↔
    (s.tables.input[i].routing = .rising ∧ s.inputs[i].level = some true) ∨
      (s.tables.input[i].routing = .falling ∧ s.inputs[i].level = some false) := by
  unfold State.atStopLevel State.active State.inactive
  cases s.tables.input[i].routing <;> simp

theorem State.pressureStops_iff (s : State) (c : Channel) : s.pressureStops c = true ↔ s.fresh (pressureInput c) = true ∧
    (s.scan.results[pressureInput c].value < s.tables.channel[c].stopLow ∨
      s.tables.channel[c].stopHigh < s.scan.results[pressureInput c].value) := by
  unfold State.pressureStops
  simp only [Bool.and_eq_true, Bool.or_eq_true, decide_eq_true_eq]

theorem State.stopSource_iff (s : State) : s.stopSource = true ↔ s.stopping := by
  unfold State.stopSource State.stopping
  simp only [Bool.or_eq_true, List.any_eq_true, List.mem_finRange, mem_channels, true_and, State.atStopLevel_iff, State.pressureStops_iff]

/-! ### The motion goes on -/

theorem State.resumeMotion_paused {s : State} {m : Motion} (hm : s.feed.motion = some m) (paused : m.paused = true) : s.resumeMotion =
    match m.work with
    | .cut _ _ => s.driveCut m
    | _ => ({ s with feed := { s.feed with motion := some (({ m with paused := false } : Motion).hold s.now
        (s.feed.stallHeld { m with paused := false })) } } : State).redrive := by
  unfold State.resumeMotion
  rw [hm]
  exact if_pos paused

/-- A paused motion that is no cut goes on. -/
theorem State.resumeMotion_feed {s : State} {m : Motion} (hm : s.feed.motion = some m) (paused : m.paused = true) (other : m.work.kind ≠ .cut) :
    s.resumeMotion.feed = { s.feed with motion := some (
      if m.work.kind = .advance ∧ s.feed.inBand m = true then { m with paused := false, heldAt := some (m.heldAt.getD s.now) }
      else { m with paused := false, progressAt := m.progressAt + (s.now - m.heldAt.getD s.now), heldAt := none }) } := by
  have held : s.feed.stallHeld { m with paused := false } = true ↔ m.work.kind = .advance ∧ s.feed.inBand m = true := by
    unfold Feed.stallHeld
    rw [Bool.false_or, Bool.and_eq_true, decide_eq_true_eq]
    rfl
  rw [State.resumeMotion_paused hm paused]
  split
  next h => rw [h] at other; exact absurd rfl other
  next =>
    rw [State.redrive_feed]
    unfold Motion.hold
    simp only [held]

/-- A paused cut starts again. -/
theorem State.resumeMotion_cut {s : State} {m : Motion} (hm : s.feed.motion = some m) (paused : m.paused = true) (cut : m.work.kind = .cut) :
    s.resumeMotion.feed = { s.feed with cutter := .cutting, motion := some { m with work := .cut (s.now + 4000) false, paused := false } } ∧
      s.resumeMotion.out.cutter = .across := by
  rw [State.resumeMotion_paused hm paused]
  unfold MotionWork.kind at cut
  split at cut <;> cases cut
  next h => rw [h]; exact ⟨rfl, rfl⟩

theorem State.resumeMotion_frame (s : State) : s.resumeMotion = { s with feed := s.resumeMotion.feed, out := s.resumeMotion.out } := by
  unfold State.resumeMotion
  split
  · rfl
  · split
    · split
      · rfl
      · rw [State.redrive_eq]; rfl
    · rfl

theorem State.resumeMotion_going {s : State} (h : ∀ m, s.feed.motion = some m → m.paused = false) : s.resumeMotion = s := by
  unfold State.resumeMotion
  split
  next => rfl
  next m hm => exact if_neg (by rw [h m hm]; decide)

/-- Settles O15. -/
theorem abortAndResume : Obligations.AbortAndResume := by
  refine ⟨fun s tag h => ?abort, fun s tag h => ⟨fun clear => ?clear, fun set active => ?active, fun set quiet => ?resumes⟩⟩
  case abort =>
    have step := abort_served h
    have follows := Follows.finish false s (s.popped.abort.replied 0x07#8 tag .done)
    have holds := State.finish_holdsInv false s (s.popped.abort.replied 0x07#8 tag .done)
    have slots := State.abort_slots s.popped
    have ended (p : PassContext) (hp : s.pass = some p) := PassEnded.abort hp
    have pass : s.popped.abortPass.pass = none := s.popped.abortPass_frame.1
    have left := (Follows.abort s.popped).replied 0x07#8 tag .done
    have idle (hp : s.pass = none) := abort_idle hp follows
    generalize State.finish false s (s.popped.abort.replied 0x07#8 tag .done) = t at step follows holds idle
    generalize s.popped.abort = x at follows slots left ended
    generalize s.popped.abortPass = y at left pass
    have all := left.trans follows
    have queue : t.queue = [] := List.map_eq_nil_iff.1 all.queue
    refine ⟨t, step, queue, (holds.1 queue).1, all.wetEdge, all.pass.trans pass, (holds.1 queue).2, all.stop, fun i => ?_,
      
      fun p hp => PassEnded.follows (x := x.replied 0x07#8 tag .done) ((ended p hp).congr rfl rfl rfl) follows, ?_, idle, all.rx, ?_, all.store, all.tables, all.capped, all.docked, all.requests⟩
    · rw [follows.slots]
      exact slots i
    · rw [all.feed]
      rfl
    · rw [all.answers]
      exact Lane.answers_reply ..
  case clear =>
    refine runs_answered (p := ofKind 0x08#8) (act := noBody resumeEngine) h rfl (ofKind_self ..) ?_
    exact if_neg (by show ¬ s.stop.set = true; rw [clear]; decide)
  case active =>
    refine runs_refused h (act := noBody resumeEngine) rfl ?_
    exact (if_pos set).trans (if_pos (s.popped.stopSource_iff.2 active))
  case resumes =>
    have done : noBody resumeEngine [] s.popped = .done s.popped.unlatched.resumeMotion :=
      (if_pos set).trans (if_neg fun source => quiet (s.popped.stopSource_iff.1 source))
    have frame := s.popped.unlatched.resumeMotion_frame
    have going := State.resumeMotion_going (s := s.popped.unlatched)
    have onward (m : Motion) := State.resumeMotion_feed (s := s.popped.unlatched) (m := m)
    have anew (m : Motion) := State.resumeMotion_cut (s := s.popped.unlatched) (m := m)
    generalize s.popped.unlatched.resumeMotion = x at done frame going onward anew
    have begun : Follows ({ s.popped.unlatched with feed := x.feed, out := x.out }) x := by
      rw [← frame]
      exact .refl x
    obtain ⟨t, ht, follows, left⟩ := served_follows h (c := .resume) rfl done begun
    have feed : t.feed = x.feed := left.feed
    have out : t.out = x.out := left.out
    refine ⟨t, ht, ?_, fun all => ?_, fun m hm paused other => ?_, fun m hm paused cut => ?_⟩
    · rw [feed, out]
      exact follows
    · rw [feed, going all]
      rfl
    · rw [feed]
      exact onward m hm paused other
    · rw [feed, out]
      exact anew m hm paused cut

end Sys2Proof.Machine
end

section
/-!
PROOFS. What a station operation is charged, and whose groups it stamps (R53, R54, R97).
-/

-- One declaration at a time: side by side, the threads' stacks come near the memory limit of the check.
set_option Elab.async false

namespace Sys2Proof.Machine

/-! ## One channel charged -/

/-- Two states that charge alike: what the price of an operation's drops reads. -/
structure Prices (s t : State) : Prop where
  now : t.now = s.now
  scan : t.scan = s.scan
  tables : t.tables = s.tables

theorem Account.charge_eq (a : Account) (d : Nat) : a.charge d = { a with level := a.level - d, known := a.known && decide (d ≤ a.level) } := by
  unfold Account.charge
  split
  next le => rw [decide_eq_true le, Bool.and_true]
  next gt => rw [decide_eq_false gt, Bool.and_false, Nat.sub_eq_zero_of_le (Nat.le_of_not_le gt)]

/-- An account once drops of a channel are charged to it, at the prices of s. -/
def State.serviceAccount (s : State) (c : Channel) (n : Counts) (a : Account) : Account :=
  if n.total = 0 then a else match s.serviceProduct c n with
    | some p => a.serviced p
    | none => a

theorem Prices.serviceAccount {s t : State} (h : Prices s t) (c : Channel) (n : Counts) (a : Account) :
    t.serviceAccount c n a = s.serviceAccount c n a := by
  unfold State.serviceAccount State.serviceProduct State.serviceTemp State.fresh
  rw [h.now, h.scan, h.tables]

theorem State.chargeService_accounts (s : State) (c : Channel) (n : Counts) :
    (s.chargeService c n).accounts = setAt s.accounts c (s.serviceAccount c n s.accounts[c]) := by
  unfold State.chargeService State.serviceAccount
  split
  · exact (setAt_same ..).symm
  · cases s.serviceProduct c n with
    | some p =>
      dsimp only
      rw [State.chargeDrops, State.setAccount_accounts, Account.charge_eq, Account.serviced]
    | none => exact (setAt_same ..).symm

theorem Follows.chargeService (s : State) (c : Channel) (n : Counts) :
    Follows { s with accounts := (s.chargeService c n).accounts } (s.chargeService c n) := by
  unfold State.chargeService
  split
  · exact .refl s
  · split
    · exact (Follows.setAccount s c _).withAccounts
    · exact .refl s

theorem Reforms.chargeService (s : State) (c : Channel) (n : Counts) : Reforms s (s.chargeService c n) := by
  unfold State.chargeService
  split
  · exact .refl s
  · split
    · exact .setAccount ..
    · exact .refl s

/-! ## An operation charged -/

theorem State.purgeCharged_accounts (s : State) (o : OpInFlight) : (s.purgeCharged o).accounts = (s.purgedBy o).accounts := by
  unfold State.purgeCharged State.purgedBy
  dsimp only
  generalize o.req.op = op
  cases op with
  | prime c =>
    cases o.purge with
    | some v => exact State.setAccount_accounts ..
    | none => rfl
  | _ => rfl

theorem Follows.purgeCharged (s : State) (o : OpInFlight) : Follows (s.purgedBy o) (s.purgeCharged o) := by
  have left : Follows { s with accounts := (s.purgeCharged o).accounts } (s.purgeCharged o) := by
    unfold State.purgeCharged
    split
    · exact (Follows.setAccount s _ _).withAccounts
    · exact .refl s
  rw [State.purgeCharged_accounts] at left
  exact left

theorem Reforms.purgeCharged (s : State) (o : OpInFlight) : Reforms s (s.purgeCharged o) := by
  unfold State.purgeCharged
  split
  · exact .setAccount ..
  · exact .refl s

/-- The drops of an operation charged, channel by channel. -/
@[irreducible] def State.dropsCharged (s : State) (f : Channel → Counts) : State := channels.foldl (fun t c => t.chargeService c (f c)) s

theorem Follows.dropsCharged (s : State) (f : Channel → Counts) : Follows { s with accounts := (s.dropsCharged f).accounts } (s.dropsCharged f) := by
  unfold State.dropsCharged
  refine foldl_keeps (P := fun t : State => Follows { s with accounts := t.accounts } t) (fun t c h => ?_) (Follows.refl s) _
  have written : Follows { s with accounts := (t.chargeService c (f c)).accounts } { t with accounts := (t.chargeService c (f c)).accounts } :=
    { h with accounts := rfl }
  exact written.trans (.chargeService ..)

theorem Reforms.dropsCharged (s : State) (f : Channel → Counts) : Reforms s (s.dropsCharged f) := by
  unfold State.dropsCharged
  exact .foldl (fun t c => .chargeService t c _) channels s

theorem State.dropsCharged_accounts (s : State) (f : Channel → Counts) (d : Channel) :
    (s.dropsCharged f).accounts[d] = s.serviceAccount d (f d) s.accounts[d] := by
  unfold State.dropsCharged
  have each := foldl_accounts (P := Prices s) (f := fun t c => t.chargeService c (f c)) (g := fun c a => s.serviceAccount c (f c) a)
    (fun t c same => by rw [State.chargeService_accounts, same.serviceAccount])
    (fun t c same =>
      have left := Follows.chargeService t c (f c)
      ⟨left.now.trans same.now, left.scan.trans same.scan, left.tables.trans same.tables⟩)
    nodup_channels (s := s) ⟨rfl, rfl, rfl⟩ d
  rw [if_pos (mem_channels d)] at each
  exact each

theorem State.opCharged_split (s : State) (o : OpInFlight) (p : Config.StationProgress) : s.opCharged o p =
    ((s.purgeCharged o).dropsCharged (o.req.op.firedDrops o.spit p)).stamp (Vector.ofFn fun c : Fin 6 => o.req.op.firedGroups o.spit p c) := by
  rw [State.opCharged_eq]
  unfold State.dropsCharged
  rfl

section

variable (s : State) (o : OpInFlight) (p : Config.StationProgress)

theorem Follows.opCharged : Follows { s with
    accounts := (s.opCharged o p).accounts, service := { s.service with stamps := (s.opCharged o p).service.stamps } } (s.opCharged o p) := by
  rw [State.opCharged_split]
  have purged := Follows.purgeCharged s o
  generalize s.purgeCharged o = u at purged ⊢
  have charged := Follows.dropsCharged u (o.req.op.firedDrops o.spit p)
  generalize u.dropsCharged (o.req.op.firedDrops o.spit p) = v at charged ⊢
  have both : Follows { s with accounts := v.accounts } v :=
    Follows.trans (t := { u with accounts := v.accounts }) { purged with accounts := rfl } charged
  exact { both with stamps := rfl }

theorem Reforms.stamp (sets : Vector GroupSet 6) : Reforms s (s.stamp sets) := .of_eq

theorem Reforms.opCharged : Reforms s (s.opCharged o p) := by
  rw [State.opCharged_split]
  exact ((Reforms.purgeCharged s o).trans (.dropsCharged ..)).trans (.stamp ..)

/-- The accounts of a charged operation. -/
theorem State.opCharged_accounts (d : Channel) :
    (s.opCharged o p).accounts[d] = s.serviceAccount d (o.req.op.firedDrops o.spit p d) (s.purgedBy o).accounts[d] := by
  have purged := Follows.purgeCharged s o
  have accounts := s.purgeCharged_accounts o
  rw [State.opCharged_split]
  generalize s.purgeCharged o = u at purged accounts ⊢
  have prices : Prices s u := ⟨purged.now, purged.scan, purged.tables⟩
  have charged := u.dropsCharged_accounts (o.req.op.firedDrops o.spit p) d
  generalize u.dropsCharged (o.req.op.firedDrops o.spit p) = v at charged ⊢
  rw [prices.serviceAccount, accounts] at charged
  exact charged

theorem State.opCharged_stamps (d : Channel) (g : Fin 24) : (s.opCharged o p).service.stamps[d][g] =
    if (o.req.op.firedGroups o.spit p d)[g] then max s.now s.service.stamps[d][g] else s.service.stamps[d][g] := by
  have purged := Follows.purgeCharged s o
  rw [State.opCharged_split]
  generalize s.purgeCharged o = u at purged ⊢
  have charged := Follows.dropsCharged u (o.req.op.firedDrops o.spit p)
  generalize u.dropsCharged (o.req.op.firedDrops o.spit p) = v at charged ⊢
  have sets : (Vector.ofFn fun c : Fin 6 => o.req.op.firedGroups o.spit p c)[d] = o.req.op.firedGroups o.spit p d := Vector.getElem_ofFn ..
  have now : v.now = s.now := charged.now.trans purged.now
  have stamps : v.service.stamps = s.service.stamps := charged.stamps.trans purged.stamps
  rw [State.stamp_stamps, sets, now, stamps]

end

/-! ## Accounts as the obligations state them -/

theorem Account.serviced_zero {a : Account} (h : a.carry < 100000000) : a.serviced 0 = a := by
  unfold Account.serviced debitOf
  rw [Nat.zero_add, Nat.div_eq_of_lt h, Nat.mod_eq_of_lt h]
  simp

theorem Counts.eq_zero_of_total {n : Counts} (h : n.total = 0) : n = ⟨0, 0, 0⟩ := by
  unfold Counts.total at h
  obtain ⟨a, b, c⟩ := n
  simp only at h
  have : a = 0 ∧ b = 0 ∧ c = 0 := by omega
  obtain ⟨rfl, rfl, rfl⟩ := this
  rfl

/-- Drops fired, priced as the obligations say; none fired leave the account, whose carry is below a whole nanolitre. -/
theorem State.serviceAccount_serviced {s u : State} (same : Prices u s) {d : Channel} (n : Counts)
    (h : n.total = 0 → u.accounts[d].carry < 100000000) : s.serviceAccount d n u.accounts[d] = u.servicedAccount d n := by
  rw [same.serviceAccount]
  unfold State.serviceAccount State.servicedAccount State.serviceProduct State.serviceTemp
  cases u.tables.kindOf d with
  | none => exact ite_self _
  | some k =>
    dsimp only [Option.map_some]
    split
    next zero =>
      have none_fired := Counts.eq_zero_of_total zero
      rw [none_fired]
      refine (Account.serviced_zero (h zero)).symm.trans (congrArg _ ?_)
      simp [dropProduct, volumeSum]
    next => rfl

theorem State.purgedBy_prices (s : State) (o : OpInFlight) : Prices (s.purgedBy o) s := ⟨rfl, rfl, rfl⟩

theorem State.purgedBy_carry {s : State} (h : s.CarryInv) (o : OpInFlight) (d : Channel) : (s.purgedBy o).accounts[d].carry < 100000000 := by
  have carries := (h.1 d).1
  unfold State.purgedBy
  dsimp only
  split
  · rw [getElem_setAt]
    split
    next e => rw [Account.charge_carry, ← e]; exact carries
    next => exact carries
  · exact carries

end Sys2Proof.Machine
end

section
/-!
PROOFS. WIPE, PRIME and CAP completed (R100, R101, R103, R114).
-/

-- One declaration at a time: side by side, the threads' stacks come near the memory limit of the check.
set_option Elab.async false

namespace Sys2Proof.Machine

/-! ## A whole operation's drops (R53) -/

theorem StationOp.firedDrops_whole (spit : Vector Nat 6) (op : StationOp) (c : Channel) :
    op.firedDrops spit wholeProgress c = (op.burst spit c).times 24 := by
  have whole : GroupSet.size wholeProgress.groups[c] = 24 := by revert c; decide
  unfold StationOp.firedDrops
  dsimp only
  rw [whole, if_neg (by decide)]
  rfl

theorem StationOp.firedGroups_whole (spit : Vector Nat 6) (op : StationOp) (c : Channel) (g : Fin 24) :
    (op.firedGroups spit wholeProgress c)[g] = decide ((op.burst spit c).total ≠ 0) := by
  unfold StationOp.firedGroups
  split
  next zero => simp [zero, noGroups]
  next some_fired => simp [some_fired, wholeProgress, allGroups]

/-! ## Ladders moved to their CHECK (R114) -/

/-- The ladder waits for its operation in one of the states. -/
abbrev Ladder.waitsIn (l : Ladder) (states : List LadderState) : Prop := l.state ∈ states ∧ l.phase = some .operation

/-- The ladder once the operation it waited for in one of the states has completed. -/
def Ladder.served (states : List LadderState) (l : Ladder) : Ladder :=
  if states.contains l.state && l.phase = some .operation then { l with phase := some .check } else l

theorem Ladder.served_of_waits {l : Ladder} {states : List LadderState} (h : l.waitsIn states) :
    l.served states = { l with phase := some .check } :=
  if_pos (by rw [List.contains_iff_mem.2 h.1, decide_eq_true h.2]; rfl)

theorem Ladder.served_of_not {l : Ladder} {states : List LadderState} (h : ¬ l.waitsIn states) : l.served states = l := by
  refine if_neg fun serves => h ?_
  rw [Bool.and_eq_true, decide_eq_true_eq, List.contains_iff_mem] at serves
  exact serves

theorem Ladder.served_state (states : List LadderState) (l : Ladder) : (l.served states).state = l.state := by
  unfold Ladder.served
  split <;> rfl

/-- The CHECK of a channel asked for by its ladder. -/
def State.checkAsked (s : State) (c : Channel) : State := s.place (.check (channelSingle c)) none byLadder

theorem State.serveLadder_eq (s : State) (states : List LadderState) (c : Channel) : s.serveLadder states c =
    if s.service.ladders[c].waitsIn states then
      ((s.laddered c (s.service.ladders[c].served states)).raise ((s.service.ladders[c].served states).event c)).checkAsked c
    else s := by
  by_cases waits : s.service.ladders[c].waitsIn states
  · rw [if_pos waits, Ladder.served_of_waits waits]
    have moves : s.serveLadder states c =
        (s.setLadder c { s.service.ladders[c] with phase := some .check }).placeStep c s.service.ladders[c].state .check :=
      if_pos (by rw [List.contains_iff_mem.2 waits.1, decide_eq_true waits.2]; rfl)
    have changes : s.service.ladders[c].phase ≠ some .check := by rw [waits.2]; decide
    rw [moves, State.setLadder_eq]
    dsimp only
    rw [if_neg (not_not.2 rfl : ¬ s.service.ladders[c].state ≠ s.service.ladders[c].state), if_pos (Or.inr changes)]
    rfl
  · rw [if_neg waits]
    refine if_neg fun serves => waits ?_
    rw [Bool.and_eq_true, decide_eq_true_eq, List.contains_iff_mem] at serves
    exact serves

/-- What serving ladders leaves: of the requests, the CHECKs that are placed. -/
structure Serves (s t : State) : Prop where
  follows : Follows { s with service := { s.service with ladders := t.service.ladders } } t
  frame : t = { s with lane := t.lane, service := { s.service with ladders := t.service.ladders, pending := t.service.pending } }
  placed : ∀ q ∈ t.service.pending, (∀ set, q.op ≠ .check set) → q ∈ s.service.pending
  clear : ∀ k, k ≠ .eventsLost → t.lane.conditions.latched k = s.lane.conditions.latched k

theorem Serves.refl (s : State) : Serves s s := ⟨.refl s, rfl, fun _ h _ => h, fun _ _ => rfl⟩

theorem Serves.trans {s t u : State} (h : Serves s t) (k : Serves t u) : Serves s u where
  follows :=
    Follows.trans (t := { t with service := { t.service with ladders := u.service.ladders } }) { h.follows with ladders := fun _ _ => rfl } k.follows
  frame := by rw [k.frame, h.frame]
  placed q hq other := h.placed q (k.placed q hq other) other
  clear c hc := (k.clear c hc).trans (h.clear c hc)

theorem mem_checkAsked {s : State} {c : Channel} {q : Request} (h : q ∈ (s.checkAsked c).service.pending) (other : ∀ set, q.op ≠ .check set) :
    q ∈ s.service.pending := by
  rcases mem_place h with old | rfl | ⟨p, hp, hm, rfl⟩
  · exact old
  · exact absurd rfl (other _)
  · have isCheck : ∃ set, p.op = .check set := by cases hop : p.op <;> simp_all [StationOp.matches, StationOp.refillChannel]
    obtain ⟨set, hset⟩ := isCheck
    refine absurd ?_ (other (channelUnion set (channelSingle c)))
    simp [Request.merge, hset, StationOp.merge]

theorem Serves.serveLadder (s : State) (states : List LadderState) (c : Channel) : Serves s (s.serveLadder states c) := by
  rw [State.serveLadder_eq]
  split
  · generalize s.service.ladders[c].served states = l
    refine ⟨?_, rfl, fun q hq other => mem_checkAsked (s := (s.laddered c l).raise (l.event c)) hq other,
      fun k hk => Lane.raise_latched_iff _ _ _ hk⟩
    have told : Follows (s.laddered c l) ((s.laddered c l).raise (l.event c)) := .raise ..
    exact told.trans (.place ..)
  · exact .refl s

theorem State.serveLadder_ladders (s : State) (states : List LadderState) (c : Channel) :
    (s.serveLadder states c).service.ladders = setAt s.service.ladders c (s.service.ladders[c].served states) := by
  rw [State.serveLadder_eq]
  split
  · rfl
  next waits => rw [Ladder.served_of_not waits, setAt_same]

theorem serveLadder_asks {s : State} {states : List LadderState} {c : Channel} (waits : s.service.ladders[c].waitsIn states) :
    ∃ q ∈ (s.serveLadder states c).service.pending, q.covers ⟨.check (channelSingle c), none, byLadder⟩ := by
  rw [State.serveLadder_eq, if_pos waits]
  exact State.place_covers ..

/-! ### The ladders of a head -/

/-- A fold over channels that writes each channel's ladder by its own record does so for every channel of the list. -/
theorem foldl_ladders {f : State → Channel → State} {g : Channel → Ladder → Ladder}
    (hf : ∀ t c, (f t c).service.ladders = setAt t.service.ladders c (g c t.service.ladders[c])) {l : List Channel} (once : l.Nodup) (s : State)
    (d : Channel) : (l.foldl f s).service.ladders[d] = if d ∈ l then g d s.service.ladders[d] else s.service.ladders[d] := by
  induction l generalizing s with
  | nil => simp
  | cons c l ih =>
    obtain ⟨fresh, once⟩ := List.nodup_cons.1 once
    rw [List.foldl_cons, ih once, hf, getElem_setAt]
    by_cases e : d = c
    · subst e; simp [fresh]
    · simp [e]

/-- The ladders of head h served, each in its own states. -/
@[irreducible] def State.laddersServed (s : State) (h : Head) (states : Channel → List LadderState) : State :=
  (channels.filter fun c => headOf c = h).foldl (fun t c => t.serveLadder (states c) c) s

section

variable (s : State) (h : Head) (states : Channel → List LadderState)

theorem Serves.laddersServed : Serves s (s.laddersServed h states) := by
  unfold State.laddersServed
  exact foldl_keeps (P := Serves s) (fun t c k => k.trans (.serveLadder t _ c)) (.refl s) _

theorem State.laddersServed_ladders (d : Channel) : (s.laddersServed h states).service.ladders[d] =
    if headOf d = h then s.service.ladders[d].served (states d) else s.service.ladders[d] := by
  unfold State.laddersServed
  rw [foldl_ladders (g := fun c l => l.served (states c)) (fun t c => t.serveLadder_ladders _ c) (nodup_channels.filter _)]
  simp [mem_channels]

variable {s h states}

theorem laddersServed_asks {d : Channel} (hd : headOf d = h) (waits : s.service.ladders[d].waitsIn (states d)) :
    ∃ q ∈ (s.laddersServed h states).service.pending, q.covers ⟨.check (channelSingle d), none, byLadder⟩ := by
  have listed : d ∈ channels.filter fun c => headOf c = h := List.mem_filter.2 ⟨mem_channels d, decide_eq_true hd⟩
  have once := nodup_channels.filter fun c => decide (headOf c = h)
  unfold State.laddersServed
  generalize channels.filter (fun c => decide (headOf c = h)) = l at listed once
  induction l generalizing s with
  | nil => cases listed
  | cons c l ih =>
    obtain ⟨fresh, once⟩ := List.nodup_cons.1 once
    rw [List.foldl_cons]
    rcases List.mem_cons.1 listed with rfl | later
    · have served := foldl_keeps (P := Serves (s.serveLadder (states d) d)) (f := fun t c => t.serveLadder (states c) c)
        (fun t c k => k.trans (.serveLadder t _ c)) (.refl _) l
      exact served.follows.covers nofun (serveLadder_asks waits)
    · have other : d ≠ c := fun e => fresh (e ▸ later)
      refine ih ?_ later once
      rw [State.serveLadder_ladders, getElem_setAt, if_neg other]
      exact waits

end

end Sys2Proof.Machine
end

section
/-!
PROOFS. The statement on WIPE, PRIME and CAP completions (R100, R101, R103).
-/

-- One declaration at a time: side by side, the threads' stacks come near the memory limit of the check.
set_option Elab.async false

namespace Sys2Proof.Machine

/-! ## Ladders that stand -/

/-- A ladder that stands in a step's effect stands after what follows. -/
theorem LadderStands.finish {s x : State} {d : Channel} (h : LadderStands s x d) (formed : s.SupplyInv → x.SupplyInv) (force : Bool) (s0 : State) :
    LadderStands s (State.finish force s0 x) d := by
  intro either
  have same := h either
  rcases either with moving | inv
  · rw [(Follows.finish force s0 x).ladders d (by rw [same]; exact moving), same]
  · rw [(Tends.finish force s0 x).ladders (formed inv), same]

theorem LadderStands.of_eq {s x : State} {d : Channel} (h : x.service.ladders[d] = s.service.ladders[d]) : LadderStands s x d := fun _ => h

/-- What follows forms again leaves the ladders as LadderStands says. -/
theorem LadderStands.of_reforms {s x w : State} {d : Channel} (follows : Follows w x) (forms : Forms s x)
    (same : w.service.ladders = s.service.ladders) : LadderStands s x d := by
  rintro (moving | inv)
  · rw [follows.ladders d (by rw [same]; exact moving), same]
  · rw [forms.ladders inv]

/-! ## An operation worked -/

/-- What a completed operation leaves, but for what forms again: these accounts and stamps, these drops since wipe, these requests, and
the carriage free. -/
def State.workDone (s w : State) (drops : Vector Nat 3) (requests : List Request) : State :=
  { s with
    accounts := w.accounts
    service := { s.service with
      stamps := w.service.stamps, drops := drops, pending := requests, holder := .free, idleSince := s.now, uncapInFlight := false } }

/-- From s an operation has been charged and stamped, its drops since wipe written and its carriage given back in w. -/
structure Worked (s w : State) (drops : Vector Nat 3) (requests : List Request) : Prop where
  follows : Follows (s.workDone w drops requests) w
  formed : s.SupplyInv → w.SupplyInv
  ladders : s.SupplyInv → w.service.ladders = s.service.ladders
  placed : s.SupplyInv → ∀ q ∈ w.service.pending, q.op.refillChannel = none → q ∈ requests

theorem Worked.stands {s w : State} {drops : Vector Nat 3} {requests : List Request} (h : Worked s w drops requests) (d : Channel) :
    LadderStands s w d := by
  rintro (moving | inv)
  · exact h.follows.ladders d moving
  · rw [h.ladders inv]

theorem State.opDone_eq (s : State) :
    s.opDone = { s with service := { s.service with holder := .free, idleSince := s.now, uncapInFlight := false } } := rfl

section

variable (s : State) (o : OpInFlight) (h : Head)

theorem Worked.wipe : Worked s ((s.opCharged o wholeProgress).wiped h).opDone (setAt s.service.drops h 0) s.service.pending := by
  have charged := Follows.opCharged s o wholeProgress
  have reforms := Reforms.opCharged s o wholeProgress
  generalize s.opCharged o wholeProgress = u at charged reforms
  refine ⟨?_, fun inv => supplyInv_congr (s := u) rfl rfl rfl (reforms.supply inv), fun inv => reforms.ladders inv,
    fun inv => reforms.requests inv⟩
  exact { charged with
    stamps := rfl, drops := congrArg (setAt · h 0) charged.drops, holder := rfl, idleSince := charged.now, uncapInFlight := rfl }

theorem Request.op_of_matches_wipe {a : StationOp} {h : Head} (hm : (StationOp.wipe h).matches a = true) : a = .wipe h := by
  cases a <;> simp_all [StationOp.matches, StationOp.refillChannel]

theorem Worked.prime : Worked s (((s.opCharged o wholeProgress).wiped h).withdraw fun op => op = .wipe h).opDone (setAt s.service.drops h 0)
    (s.service.pending.filter fun q => !decide (q.op = .wipe h)) := by
  have charged := Follows.opCharged s o wholeProgress
  have reforms := Reforms.opCharged s o wholeProgress
  generalize s.opCharged o wholeProgress = u at charged reforms
  refine ⟨?_, fun inv => supplyInv_congr (s := u) rfl rfl rfl (reforms.supply inv), fun inv => reforms.ladders inv,
    fun inv q hq ho => ?_⟩
  · exact { charged with
      stamps := rfl, drops := congrArg (setAt · h 0) charged.drops, holder := rfl, idleSince := charged.now, uncapInFlight := rfl
      requests := fun r hr hc => by
        obtain ⟨hr, other⟩ := List.mem_filter.1 hr
        obtain ⟨q, hq, covers⟩ := charged.requests r hr hc
        refine ⟨q, List.mem_filter.2 ⟨hq, ?_⟩, covers⟩
        rw [Bool.not_eq_true', decide_eq_false_iff_not] at other ⊢
        intro wipe
        have hm := covers.1
        rw [wipe] at hm
        exact other (Request.op_of_matches_wipe hm) }
  · obtain ⟨hq, other⟩ := List.mem_filter.1 hq
    exact List.mem_filter.2 ⟨reforms.requests inv q hq ho, other⟩

end

theorem State.wiped_parts (u : State) (h : Head) :
    (u.wiped h).opDone.accounts = u.accounts ∧ (u.wiped h).opDone.service.stamps = u.service.stamps := ⟨rfl, rfl⟩

theorem State.primed_parts (u : State) (h : Head) (p : StationOp → Bool) : ((u.wiped h).withdraw p).opDone.accounts = u.accounts ∧
    ((u.wiped h).withdraw p).opDone.service.stamps = u.service.stamps := ⟨rfl, rfl⟩

/-! ## Completions -/

theorem State.wipeDone_eq (s : State) (o : OpInFlight) (h : Head) :
    s.wipeDone o h = ((s.opCharged o wholeProgress).wiped h).opDone.laddersServed h fun _ => [.wipeCheck] := by
  unfold State.wipeDone State.laddersServed
  rfl

/-- The states in which a PRIME of channel c serves the ladder of a channel of its head (R101). -/
def primeServes (c d : Channel) : List LadderState := if d = c then [.wipeCheck, .primeCheck, .prime2Check] else [.wipeCheck]

theorem State.primeDone_eq (s : State) (o : OpInFlight) (c : Channel) : s.primeDone o c =
    (((s.opCharged o wholeProgress).wiped (headOf c)).withdraw fun op => op = .wipe (headOf c)).opDone.laddersServed (headOf c) (primeServes c) := by
  unfold State.primeDone State.laddersServed primeServes
  rfl

/-- What a worked operation leaves once the ladders of its head are served. -/
structure Completes (s x : State) (h : Head) (states : Channel → List LadderState) (drops : Vector Nat 3) (w : State)
    (requests : List Request) : Prop where
  follows : Follows { s.workDone w drops requests with service := { (s.workDone w drops requests).service with
    ladders := x.service.ladders } } x
  formed : s.SupplyInv → x.SupplyInv
  served : ∀ d : Channel, headOf d = h → s.service.ladders[d].state ≠ .suspended → s.service.ladders[d].waitsIn (states d) →
    x.service.ladders[d] = { s.service.ladders[d] with phase := some .check } ∧
      ∃ q ∈ x.service.pending, q.covers ⟨.check (channelSingle d), none, byLadder⟩
  others : ∀ d : Channel, ¬ (headOf d = h ∧ s.service.ladders[d].waitsIn (states d)) → LadderStands s x d
  placed : s.SupplyInv → ∀ q ∈ x.service.pending, q.op.refillChannel = none → (∀ set, q.op ≠ .check set) → q ∈ requests

theorem Worked.completes {s w : State} {drops : Vector Nat 3} {requests : List Request} (work : Worked s w drops requests) (h : Head)
    (states : Channel → List LadderState) : Completes s (w.laddersServed h states) h states drops w requests := by
  have serves := Serves.laddersServed w h states
  have ladders := State.laddersServed_ladders w h states
  have asks (d : Channel) := laddersServed_asks (s := w) (h := h) (states := states) (d := d)
  generalize w.laddersServed h states = x at serves ladders asks ⊢
  have tables : x.tables = w.tables ∧ x.supply = w.supply ∧ x.accounts = w.accounts := by rw [serves.frame]; exact ⟨rfl, rfl, rfl⟩
  refine ⟨?_, fun inv => supplyInv_congr tables.2.1 tables.2.2 tables.1 (work.formed inv), fun d hd moving waits => ?_, fun d other => ?_,
    fun inv q hq ho check => work.placed inv q (serves.placed q hq check) ho⟩
  · exact Follows.trans (t := { w with service := { w.service with ladders := x.service.ladders } })
      { work.follows with ladders := fun _ _ => rfl } serves.follows
  · have same := work.stands d (.inl moving)
    rw [ladders, if_pos hd, same]
    exact ⟨Ladder.served_of_waits waits, asks d hd (by rw [same]; exact waits)⟩
  · intro either
    have same := work.stands d either
    rw [ladders]
    split
    next hd => rw [same, Ladder.served_of_not fun waits => other ⟨hd, waits⟩]
    next => exact same

/-! ## What a WIPE or PRIME spits (R53, R97, R100) -/

/-- The operation ends with the post-wipe spit of the head. -/
structure Spits (o : OpInFlight) (h : Head) : Prop where
  burst : ∀ d : Channel, o.req.op.burst o.spit d = if headOf d = h then ⟨0, 0, 32 * o.spit[d]⟩ else Counts.zero
  purges : ∀ c, o.req.op = .prime c → headOf c = h

theorem Spits.wipe {o : OpInFlight} {h : Head} (op : o.req.op = .wipe h) : Spits o h :=
  ⟨fun d => by rw [op]; rfl, fun c hc => by rw [op] at hc; cases hc⟩

theorem Spits.prime {o : OpInFlight} {c : Channel} (op : o.req.op = .prime c) : Spits o (headOf c) :=
  ⟨fun d => by rw [op]; rfl, fun d hd => by rw [op] at hd; cases hd; rfl⟩

section

variable {s : State} {o : OpInFlight} {h : Head} (spits : Spits o h)
include spits

theorem Spits.firedDrops (d : Channel) : o.req.op.firedDrops o.spit wholeProgress d =
    if headOf d = h then ⟨0, 0, 768 * o.spit[d]⟩ else ⟨0, 0, 0⟩ := by
  rw [StationOp.firedDrops_whole, spits.burst]
  split
  · show (⟨24 * 0, 24 * 0, 24 * (32 * o.spit[d])⟩ : Counts) = _
    rw [← Nat.mul_assoc]
  · rfl

theorem Spits.accounts (carries : s.CarryInv) (d : Channel) : (s.opCharged o wholeProgress).accounts[d] = if headOf d = h then
    (s.purgedBy o).servicedAccount d ⟨0, 0, 768 * o.spit[d]⟩ else s.accounts[d] := by
  rw [State.opCharged_accounts, spits.firedDrops]
  split
  next => exact State.serviceAccount_serviced (s.purgedBy_prices o) _ fun _ => State.purgedBy_carry carries o d
  next other =>
    have unpurged : (s.purgedBy o).accounts[d] = s.accounts[d] := by
      unfold State.purgedBy
      dsimp only
      split
      next c v op _ => rw [getElem_setAt, if_neg fun e => other (by rw [e]; exact spits.purges c op)]
      next => rfl
    exact (if_pos rfl).trans unpurged

theorem Spits.stamps (d : Channel) (g : Fin 24) :
    (spitsFor o h d → (s.opCharged o wholeProgress).service.stamps[d][g] = max s.now s.service.stamps[d][g]) ∧
    (¬ spitsFor o h d → (s.opCharged o wholeProgress).service.stamps[d][g] = s.service.stamps[d][g]) := by
  have fires : (o.req.op.burst o.spit d).total ≠ 0 ↔ spitsFor o h d := by
    rw [spits.burst]
    unfold spitsFor
    split
    next hd => simp only [Counts.total, hd, true_and]; omega
    next hd => simp only [hd, false_and, iff_false]; exact not_not.2 rfl
  rw [State.opCharged_stamps, StationOp.firedGroups_whole, ← fires]
  exact ⟨fun some_fired => if_pos (decide_eq_true some_fired), fun none_fired => if_neg (by rw [decide_eq_false none_fired]; decide)⟩

end

/-! ## The statement -/

theorem OperationEnded.of_follows {s w t : State} (h : Follows w t) (base : w = { s with service := w.service, accounts := w.accounts })
    (holder : w.service.holder = .free) (docked : w.service.docked = s.service.docked) (idle : w.service.idleSince = s.now) :
    OperationEnded s t := by
  have supply : w.supply = s.supply := by rw [base]
  have maps : w.maps = s.maps := by rw [base]
  have all := ((h.withService).withAccounts).withSupply
  rw [base] at all
  refine ⟨{ all with maps := rfl }, h.holder.trans holder, h.docked.trans docked, h.idleSince.trans idle, fun d => ?_⟩
  rw [← supply]
  exact h.refills d

section

variable {s : State} {o : OpInFlight} (running : s.service.running = some o)
include running

theorem wipeCompletion_runs {h : Head} (op : o.req.op = .wipe h) : exec .wipeCompletion s = ends false s (s.wipeDone o h) := by
  show execWipeCompletion s = _
  unfold execWipeCompletion
  rw [running]
  dsimp only
  rw [op]

theorem primeCompletion_runs {c : Channel} (op : o.req.op = .prime c) : exec .primeCompletion s = ends false s (s.primeDone o c) := by
  show execPrimeCompletion s = _
  unfold execPrimeCompletion
  rw [running]
  dsimp only
  rw [op]

theorem capCompletion_runs (op : o.req.op = .cap) :
    exec .capCompletion s = ends false s ({ s with service := { s.service with capped := true } } : State).opDone := by
  show execCapCompletion s = _
  unfold execCapCompletion
  rw [running]
  exact if_pos op

theorem wipeCompletion_other (op : ∀ h, o.req.op ≠ .wipe h) : exec .wipeCompletion s = .next s := by
  show execWipeCompletion s = _
  unfold execWipeCompletion
  rw [running]
  dsimp only
  split
  next h e => exact absurd e (op h)
  next => rfl

theorem primeCompletion_other (op : ∀ c, o.req.op ≠ .prime c) : exec .primeCompletion s = .next s := by
  show execPrimeCompletion s = _
  unfold execPrimeCompletion
  rw [running]
  dsimp only
  split
  next c e => exact absurd e (op c)
  next => rfl

theorem capCompletion_other (op : o.req.op ≠ .cap) : exec .capCompletion s = .next s := by
  show execCapCompletion s = _
  unfold execCapCompletion
  rw [running]
  exact if_neg op

end

theorem completions_idle {s : State} (idle : s.service.running = none) :
    ∀ c ∈ [Instr.wipeCompletion, .primeCompletion, .capCompletion], exec c s = .next s := by
  simp only [List.forall_mem_cons]
  refine ⟨?_, ?_, ?_, nofun⟩
  · show execWipeCompletion s = _
    unfold execWipeCompletion
    rw [idle]
  · show execPrimeCompletion s = _
    unfold execPrimeCompletion
    rw [idle]
  · show execCapCompletion s = _
    unfold execCapCompletion
    rw [idle]

/-- The clauses of a completed WIPE or PRIME of head h. -/
theorem Completes.statement {s x w : State} {o : OpInFlight} {h : Head} {states : Channel → List LadderState} {requests : List Request}
    (done : Completes s x h states (setAt s.service.drops h 0) w requests) (spits : Spits o h)
    (accounts : w.accounts = (s.opCharged o wholeProgress).accounts)
    (stamps : w.service.stamps = (s.opCharged o wholeProgress).service.stamps) (carries : s.CarryInv)
    (asked : ∀ d : Channel, headOf d = h → (s.service.ladders[d].state ∈ states d ↔ s.service.ladders[d].state = .wipeCheck ∨
      (o.req.op = .prime d ∧ (s.service.ladders[d].state = .primeCheck ∨ s.service.ladders[d].state = .prime2Check)))) :
    let t := State.finish false s x
    OperationEnded s t ∧ t.maps = s.maps ∧ t.service.capped = s.service.capped ∧
      (∀ g : Head, t.service.drops[g] = if g = h then 0 else s.service.drops[g]) ∧
      (∀ (d : Channel) (g : Fin 24),
        (spitsFor o h d → t.service.stamps[d][g] = max s.now s.service.stamps[d][g]) ∧
        (¬ spitsFor o h d → t.service.stamps[d][g] = s.service.stamps[d][g])) ∧
      (∀ d : Channel, t.accounts[d] = if headOf d = h then
        (s.purgedBy o).servicedAccount d ⟨0, 0, 768 * o.spit[d]⟩ else s.accounts[d]) ∧
      (∀ d : Channel, s.service.ladders[d].phase = some .operation → headOf d = h →
        (s.service.ladders[d].state = .wipeCheck ∨
          (o.req.op = .prime d ∧ (s.service.ladders[d].state = .primeCheck ∨ s.service.ladders[d].state = .prime2Check))) →
        t.service.ladders[d] = { s.service.ladders[d] with phase := some .check } ∧
          ∃ q ∈ t.service.pending, q.covers ⟨.check (channelSingle d), none, byLadder⟩) ∧
      (∀ d : Channel, ¬ (s.service.ladders[d].phase = some .operation ∧ headOf d = h ∧
        (s.service.ladders[d].state = .wipeCheck ∨
          (o.req.op = .prime d ∧ (s.service.ladders[d].state = .primeCheck ∨ s.service.ladders[d].state = .prime2Check)))) →
        LadderStands s t d) ∧
      (∀ q ∈ requests, q.op ≠ .cap → ∃ r ∈ t.service.pending, r.covers q) ∧
      (s.SupplyInv → ∀ q ∈ t.service.pending, q.op.refillChannel = none → (∀ set, q.op ≠ .check set) → q ∈ requests) := by
  have follows := Follows.finish false s x
  have tends := Tends.finish false s x
  have all := done.follows.trans follows
  have stands (d : Channel) (h' : LadderStands s x d) := LadderStands.finish h' done.formed false s
  have charges := spits.accounts carries
  have stamped := spits.stamps (s := s)
  dsimp only
  generalize State.finish false s x = t at follows tends all stands ⊢
  unfold State.workDone at all
  refine ⟨.of_follows all rfl rfl rfl rfl, all.maps, all.capped, fun g => ?_, fun d g => ?_, fun d => ?_, fun d phase hd state => ?_, fun d other => ?_,
    all.requests, fun inv q hq ho check => done.placed inv q (tends.requests (done.formed inv) q hq ho) ho check⟩
  · rw [all.drops]
    exact getElem_setAt ..
  · rw [all.stamps, stamps]
    exact stamped d g
  · rw [all.accounts, accounts]
    exact charges d
  · have moving : s.service.ladders[d].state ≠ .suspended := by
      rcases state with e | ⟨-, e | e⟩ <;> rw [e] <;> decide
    obtain ⟨ladder, check⟩ := done.served d hd moving ⟨(asked d hd).2 state, phase⟩
    refine ⟨?_, follows.covers nofun check⟩
    rw [← ladder]
    exact follows.ladders d (by rw [ladder]; exact moving)
  · refine stands d (done.others d fun ⟨hd, state, phase⟩ => other ⟨phase, hd, (asked d hd).1 state⟩)

/-- The clauses of a completed CAP. -/
theorem cap_completes (s : State) :
    let t := State.finish false s ({ s with service := { s.service with capped := true } } : State).opDone
    OperationEnded s t ∧ t.service.capped = true ∧ t.accounts = s.accounts ∧ t.service.stamps = s.service.stamps ∧
      t.service.drops = s.service.drops ∧ t.maps = s.maps ∧ (∀ d, LadderStands s t d) ∧
      ∀ q ∈ s.service.pending, q.op ≠ .cap → ∃ r ∈ t.service.pending, r.covers q := by
  rw [State.opDone_eq]
  dsimp only
  generalize hx : ({ s with service := { s.service with
    capped := true, holder := .free, idleSince := s.now, uncapInFlight := false } } : State) = x
  have formed : s.SupplyInv → x.SupplyInv := by rw [← hx]; exact supplyInv_congr rfl rfl rfl
  have stands (d : Channel) := LadderStands.finish (s := s) (x := x) (d := d) (.of_eq (by rw [← hx])) formed false s
  have follows := Follows.finish false s x
  generalize State.finish false s x = t at stands follows ⊢
  rw [← hx] at follows
  exact ⟨.of_follows follows rfl rfl rfl rfl, follows.capped, follows.accounts, follows.stamps, follows.drops, follows.maps, stands,
    follows.requests⟩

/-- Settles O36. -/
theorem completedOperationsTakeEffect : Obligations.CompletedOperationsTakeEffect := by
  refine fun s => ⟨fun idle => completions_idle ?idle, fun o ho hr => ?running⟩
  case idle =>
    cases run : s.service.running with
    | none => rfl
    | some o =>
      obtain ⟨ho, hr⟩ := Service.running_eq_some.1 run
      rw [idle o ho] at hr
      cases hr
  case running =>
    have running := Service.running_eq_some.2 ⟨ho, hr⟩
    refine ⟨wipeCompletion_other running, primeCompletion_other running, capCompletion_other running, fun op => ?cap, fun h c which carries => ?spits⟩
    case cap =>
      exact ⟨_, capCompletion_runs running op, cap_completes s⟩
    case spits =>
      rcases which with ⟨rfl, op⟩ | ⟨rfl, c, op, rfl⟩
      · have runs := wipeCompletion_runs running op
        rw [State.wipeDone_eq] at runs
        obtain ⟨charged, stamped⟩ := (s.opCharged o wholeProgress).wiped_parts h
        obtain ⟨ended, maps, capped, drops, stamps, accounts, served, others, requests, -⟩ :=
          ((Worked.wipe s o h).completes h fun _ => [.wipeCheck]).statement (Spits.wipe op) charged stamped carries
            fun d hd => by simp [op]
        exact ⟨_, runs, ended, maps, capped, drops, stamps, accounts, served, others, fun q hq hc _ => requests q hq hc, nofun⟩
      · have runs := primeCompletion_runs running op
        rw [State.primeDone_eq] at runs
        obtain ⟨charged, stamped⟩ := (s.opCharged o wholeProgress).primed_parts (headOf c) fun op => op = .wipe (headOf c)
        obtain ⟨ended, maps, capped, drops, stamps, accounts, served, others, requests, placed⟩ :=
          ((Worked.prime s o (headOf c)).completes (headOf c) (primeServes c)).statement (Spits.prime op) charged stamped carries
            fun d hd => by
              unfold primeServes
              by_cases e : d = c
              · subst e; simp [op]
              · simp [op, e, Ne.symm e]
        refine ⟨_, runs, ended, maps, capped, drops, stamps, accounts, served, others, fun q hq hc other => requests q ?_ hc,
          fun _ inv q hq wipe => ?_⟩
        · exact List.mem_filter.2 ⟨hq, by rw [decide_eq_false (other rfl)]; rfl⟩
        · have kept := placed inv q hq (by rw [wipe]; rfl) fun set e => by rw [wipe] at e; cases e
          have other := (List.mem_filter.1 kept).2
          rw [decide_eq_true wipe] at other
          cases other

end Sys2Proof.Machine
end

section
/-!
PROOFS. Two statements about ladders that a state outside Table 4.1.2 refutes. A channel whose recorded supply state is STARVED, while the
conditions of Table 4.1.2 give another, leaves STARVED at the first charge to its account, and its SUSPENDED ladder then returns to its
step (R115) in the middle of the command. What the step asks for merges with a pending request that the statement holds to stand, and
LADDER leaves that request when the step is left in the same command (R107). SupplyInv excludes such a state; both statements take it as a
premise for the ladders alone, and not where they say that the other requests stand.
-/

-- One declaration at a time: side by side, the threads' stacks come near the memory limit of the check.
set_option Elab.async false

namespace Sys2Proof.Machine

/-- A ladder SUSPENDED with cause STARVED in a step's phase. -/
def starvedLadder (st : LadderState) (ph : LadderPhase) : Ladder :=
  { initLadder with state := .suspended, suspStep := some st, suspPhase := some ph, cause := some .starved }

/-- An operation that a ladder has asked for, in its sequence; its channels fire no spit, and a purge of 0 nL was begun with it. -/
def spitless (op : StationOp) : OpInFlight := ⟨⟨op, none, byLadder⟩, 0, 50, true, some 0, Vector.replicate 6 0, false⟩

/-- Channel 0, bound to ink kind 0, is recorded STARVED without an ink need and its ladder is suspended; an operation runs, and one request
that a ladder has placed is pending. -/
def misformed (running pending : StationOp) (l : Ladder) : State :=
  { State.reset with
    tables := { defaultTables with channel := setAt defaultTables.channel 0 { defaultChannel 0 with kind := some 0 } }
    supply := setAt State.reset.supply 0 { initSupply with state := .starved }
    service := { initService with
      holder := .op (spitless running), docked := true, pending := [⟨pending, none, byLadder⟩]
      ladders := setAt initService.ladders 0 l } }

/-! ## The result of a CHECK -/

/-- A CHECK of channel 0 runs, at which its ladder stopped, and one of channel 1 is pending. -/
def misformedCheck : State :=
  misformed (.check (channelSingle 0)) (.check (channelSingle 1)) (starvedLadder .wipeCheck .check)

theorem misformedCheck_leaves_no_request :
    (State.finish false misformedCheck
      (misformedCheck.checkDone (spitless (.check (channelSingle 0))) (channelSingle 0) [])).service.pending = [] := by
  decide +kernel

theorem misformedCheck_completes : exec (.checkCompletion []) misformedCheck =
    ends false misformedCheck (misformedCheck.checkDone (spitless (.check (channelSingle 0))) (channelSingle 0) []) := rfl

/-- Refutes O37: the charge of the CHECK makes channel 0 leave STARVED, its ladder returns to WIPE-CHECK and its CHECK joins the pending
one of channel 1; the result found then makes the ladder NORMAL, and the joined request goes with it. -/
theorem not_checkResultReachesMapAndLadder : ¬ Obligations.CheckResultReachesMapAndLadder := by
  intro h
  obtain ⟨t, ht, -, -, -, -, -, -, -, -, -, -, -, stands, -⟩ :=
    h misformedCheck (spitless (.check (channelSingle 0))) (channelSingle 0) [] rfl rfl rfl
  have hnone : t.service.pending = [] := by
    rw [misformedCheck_completes] at ht
    exact Host.Outcome.next.inj ht ▸ misformedCheck_leaves_no_request
  have hother : ∀ c : Channel, (channelSingle 0)[c] = true → (StationOp.check (channelSingle 1)).ofLadder c = false := by decide
  obtain ⟨r, hr, -⟩ := stands ⟨.check (channelSingle 1), none, byLadder⟩ (List.mem_singleton.mpr rfl) nofun (.inr hother)
  rw [hnone] at hr
  exact List.not_mem_nil hr

/-! ## A failed operation -/

theorem StationOp.firedDrops_of_burst_zero {op : StationOp} {spit : Vector Nat 6} {c : Channel} (h : op.burst spit c = Counts.zero)
    (p : Config.StationProgress) : (op.firedDrops spit p c).total = 0 := by
  unfold StationOp.firedDrops
  rw [h]
  by_cases hn : GroupSet.size p.groups[c] < 24 <;>
    simp [Counts.zero, Counts.times, Counts.upTo, Counts.plus, Counts.total]

theorem StationOp.firedGroups_of_burst_zero {op : StationOp} {spit : Vector Nat 6} {c : Channel} (h : op.burst spit c = Counts.zero)
    (p : Config.StationProgress) : op.firedGroups spit p c = noGroups := by
  unfold StationOp.firedGroups
  rw [h]
  rfl

/-- The charge of an operation that fires no drops does not depend on how far it came. -/
theorem State.opCharged_of_burst_zero {o : OpInFlight} (h : ∀ c, o.req.op.burst o.spit c = Counts.zero) (s : State)
    (p q : Config.StationProgress) : s.opCharged o p = s.opCharged o q := by
  have hdrops : ∀ p, (fun (t : State) c => t.chargeService c (o.req.op.firedDrops o.spit p c)) = fun t _ => t := fun p => by
    funext t c
    exact if_pos (StationOp.firedDrops_of_burst_zero (h c) p)
  have hgroups : ∀ p, (fun c : Fin 6 => o.req.op.firedGroups o.spit p c) = fun _ => noGroups := fun p => by
    funext c
    exact StationOp.firedGroups_of_burst_zero (h c) p
  unfold State.opCharged
  rw [hdrops p, hdrops q, hgroups p, hgroups q]

/-- A PRIME of channel 0 runs, the next step of its suspended ladder, which has a PRIME pending too. -/
def misformedPrime : State := misformed (.prime 0) (.prime 0) (starvedLadder .primeCheck .operation)

theorem misformedPrime_failed_leaves_no_request :
    (State.finish false misformedPrime
      (misformedPrime.failOp (spitless (.prime 0)) false)).service.pending = [] := by
  have hburst : ∀ c, (spitless (.prime 0)).req.op.burst (spitless (.prime 0)).spit c = Counts.zero := by decide
  unfold State.failOp State.opInterrupted
  rw [State.opCharged_of_burst_zero hburst _ _ wholeProgress]
  decide +kernel

/-- Refutes O35: the charge of the PRIME's purge makes channel 0 leave STARVED and its ladder return to PRIME-CHECK, which the fault of
the PRIME then suspends again; LADDER leaves the PRIME pending, which has no other origin. -/
theorem not_failedOperationFreesTheStation : ¬ Obligations.FailedOperationFreesTheStation := by
  intro h
  obtain ⟨-, -, ended⟩ := (h misformedPrime).2 (spitless (.prime 0)) rfl
  obtain ⟨t, ht, -, -, -, -, -, -, -, -, -, -, -, -, -, stands, -⟩ := ended .stationDriveFault false (.inr (.inl ⟨rfl, rfl⟩))
  have hnone : t.service.pending = [] := Host.Outcome.next.inj ht ▸ misformedPrime_failed_leaves_no_request
  have hidle : ∀ d : Channel, misformedPrime.service.ladders[d].waitsOn d (.prime 0) = true →
      (StationOp.prime 0).ofLadder d = false := by decide
  obtain ⟨r, hr, -⟩ := stands ⟨.prime 0, none, byLadder⟩ (List.mem_singleton.mpr rfl) nofun (.inl rfl) (.inr (.inr hidle))
  rw [hnone] at hr
  exact List.not_mem_nil hr

end Sys2Proof.Machine
end

section
/-!
PROOFS. The tag link (R69 to R74): a cartridge record written with its event, the ink need that an identified cartridge serves, and the
statement on the answers of a tag.
-/

-- One declaration at a time: side by side, the threads' stacks come near the memory limit of the check.
set_option Elab.async false

namespace Sys2Proof.Machine

/-! ## A cartridge record written -/

/-- The record of slot c written. -/
def State.carted (s : State) (c : Channel) (r : Cartridge) : State := { s with carts := setAt s.carts c r }

/-- The record of slot c written with its event (R71). -/
def State.cartTold (s : State) (c : Channel) (r : Cartridge) : State := (s.carted c r).raise (r.event c)

theorem State.setCart_told (s : State) (c : Channel) (r : Cartridge) : s.setCart c r true =
    if s.canSupply c && !r.state.canSupply then (s.cartTold c r).handBack c
    else if !s.canSupply c && r.state.canSupply then (s.cartTold c r).cartridgeAble c
    else s.cartTold c r := rfl

/-- A quiet operation leaves the supply records, the requests and the ladders that it writes. -/
theorem Quiet.follows {n : Nat} {u x : State} (q : Quiet n u x) : Follows { u with
    supply := x.supply, service := { u.service with pending := x.service.pending, ladders := x.service.ladders } } x := by
  have raised := Follows.of_raised (u := { u with
    supply := x.supply, service := { u.service with pending := x.service.pending, ladders := x.service.ladders } }) q.lane
  rwa [← q.frame] at raised

theorem Follows.withLadders {u t : State} (h : Follows u t) :
    Follows { u with service := { u.service with ladders := t.service.ladders } } t := { h with ladders := fun _ _ => rfl }

/-- From s to x the record of slot c has become r; supply states, ink needs, requests and suspended ladders apart, nothing else is written. -/
structure Slotted (s x : State) (c : Channel) (r : Cartridge) : Prop where
  quiet : Quiet 4 (s.carted c r) x
  ladders : ∀ d : Channel, s.service.ladders[d].state ≠ .suspended → x.service.ladders[d] = s.service.ladders[d]

theorem Slotted.setCart (s : State) (c : Channel) (r : Cartridge) (report : Bool) : Slotted s (s.setCart c r report) c r :=
  ⟨(Quiet.setCart s c r report).mono (by omega), (Refills.setCart s c r report).ladders⟩

section

variable {s x t : State} {c : Channel} {r : Cartridge}

/-- What follows a record written leaves besides the ladders. -/
theorem Slotted.follows (h : Slotted s x c r) (f : Follows x t) : Follows { s with
    carts := t.carts, supply := t.supply
    service := { s.service with pending := t.service.pending, ladders := t.service.ladders } } t :=
  ((((h.quiet.follows.trans f).withSupply).withCarts).withPending).withLadders

/-- The ladders stand too, but for suspended ones. -/
theorem Slotted.follows_ladders (h : Slotted s x c r) (f : Follows x t) : Follows { s with
    carts := t.carts, supply := t.supply, service := { s.service with pending := t.service.pending } } t :=
  { h.follows f with
    ladders := fun d moving => by rw [f.ladders d (by rw [h.ladders d moving]; exact moving), h.ladders d moving] }

theorem Slotted.cart (h : Slotted s x c r) : x.carts[c] = r := by
  rw [h.quiet.carts]
  exact setAt_self ..

/-- The step's end sends the deduction owed from the record written. -/
theorem Slotted.sent (h : Slotted s x c r) (force : Bool) (s0 : State) : (State.finish force s0 x).carts[c] = r.sendOwed s.now := by
  rw [(State.finish_carts force s0 x c).1, h.cart, h.quiet.now]
  rfl

theorem Slotted.others (h : Slotted s x c r) (f : Follows x t) {d : Channel} (hd : d ≠ c) :
    { t.carts[d] with link := s.carts[d].link } = s.carts[d] ∧ t.supply[d].refill = s.supply[d].refill ∧
      t.supply[d].faultMark = s.supply[d].faultMark := by
  obtain ⟨refill, mark⟩ := h.quiet.refills d
  have cart : x.carts[d] = s.carts[d] := by rw [h.quiet.carts]; exact setAt_ne hd r
  refine ⟨?_, (f.refills d).1.trans refill, (f.refills d).2.trans mark⟩
  rw [← cart]
  exact f.carts d

end

/-! ## An ink need served (R61, R115) -/

/-- An ink need of channel c turned into a pending request. -/
def State.needPlaced (s : State) (c : Channel) (n : Need) : State :=
  ({ s with supply := modifyAt s.supply c fun r => { r with need := none } } : State).place (n.kind.op c)
    (if n.kind = .urgent then n.amount else none) n.origins

/-- What R59 calls for where a cartridge becomes able to supply. -/
def State.ableAsked (s : State) (c : Channel) : State :=
  if s.supply[c].faultMark then s
  else if s.accounts[c].known = false then s.place (.fillToMark c) none bySupply
  else if s.supply[c].state = SupplyState.low then s.place (.refill c) none bySupply
  else s

theorem State.cartridgeAble_of_need {s : State} {c : Channel} {n : Need} (h : s.supply[c].need = some n) :
    s.cartridgeAble c = ((s.needPlaced c n).reformSupply c).ableAsked c := by
  unfold State.cartridgeAble
  rw [h]
  rfl

theorem State.ableAsked_keeps (s : State) (c : Channel) : Follows s (s.ableAsked c) ∧ (s.ableAsked c).supply = s.supply ∧
    (s.ableAsked c).accounts = s.accounts ∧ (s.ableAsked c).tables = s.tables ∧
    (s.ableAsked c).service.ladders = s.service.ladders := by
  unfold State.ableAsked
  split_ifs
  · exact ⟨.refl s, rfl, rfl, rfl, rfl⟩
  · exact ⟨.place .., rfl, rfl, rfl, rfl⟩
  · exact ⟨.place .., rfl, rfl, rfl, rfl⟩
  · exact ⟨.refl s, rfl, rfl, rfl, rfl⟩

/-- The ladder l returned to its step and phase (R115). -/
def Ladder.resumed (l : Ladder) (st : LadderState) (ph : LadderPhase) : Ladder :=
  { l with state := st, phase := some ph, suspStep := none, suspPhase := none, cause := none }

/-- A ladder SUSPENDED with cause STARVED in the phase ph of the step st. -/
structure Ladder.StarvedAt (l : Ladder) (st : LadderState) (ph : LadderPhase) : Prop where
  state : l.state = .suspended
  cause : l.cause = some .starved
  step : l.suspStep = some st
  phase : l.suspPhase = some ph

/-- A resumed ladder stands in its step and phase, and what that calls for is pending. -/
theorem State.resumeLadder_resumes {s : State} {c : Channel} {st : LadderState} {ph : LadderPhase}
    (h : s.service.ladders[c].StarvedAt st ph) :
    (s.resumeLadder c).service.ladders[c] = s.service.ladders[c].resumed st ph ∧
      ∀ op, (ph = .check ∧ op = .check (channelSingle c)) ∨ (ph = .operation ∧ st.stepOp c = some op) →
        ∃ q ∈ (s.resumeLadder c).service.pending, q.covers ⟨op, none, byLadder⟩ := by
  obtain ⟨state, cause, step, phase⟩ := h
  have resumed : s.resumeLadder c = (s.setLadder c (s.service.ladders[c].resumed st ph)).placeStep c st ph := by
    unfold State.resumeLadder
    dsimp only
    rw [state, cause, step, phase]
    rfl
  rw [resumed]
  constructor
  · have kept : ∀ u : State, (u.placeStep c st ph).service.ladders = u.service.ladders := fun u => by
      unfold State.placeStep; split <;> rfl
    rw [kept, State.setLadder_ladders]
    exact setAt_self ..
  · rintro op (⟨rfl, rfl⟩ | ⟨rfl, hop⟩)
    · exact State.place_covers ..
    · unfold State.placeStep
      rw [hop]
      exact State.place_covers ..

section

variable {s : State} {c : Channel} {n : Need}

theorem State.needPlaced_supply (s : State) (c d : Channel) (n : Need) :
    (s.needPlaced c n).supply[d] = if d = c then { s.supply[d] with need := none } else s.supply[d] := getElem_modifyAt ..

/-- A STARVED channel whose ink need becomes a request leaves STARVED, and its ladder returns to its step. -/
theorem needPlaced_reform (formed : s.SupplyInv) (mark : s.supply[c].faultMark = false) (refill : s.supply[c].refill = none)
    (need : s.supply[c].need = some n) {st : LadderState} {ph : LadderPhase} (l : s.service.ladders[c].StarvedAt st ph) :
    ((s.needPlaced c n).reformSupply c).service.ladders[c] = s.service.ladders[c].resumed st ph ∧
      ∀ op, (ph = .check ∧ op = .check (channelSingle c)) ∨ (ph = .operation ∧ st.stepOp c = some op) →
        ∃ q ∈ ((s.needPlaced c n).reformSupply c).service.pending, q.covers ⟨op, none, byLadder⟩ := by
  have supply := s.needPlaced_supply c c n
  rw [if_pos rfl] at supply
  have starved : (s.needPlaced c n).supply[c].state = .starved := by
    rw [supply]
    exact (formed c).trans (State.formedSupply_eq_starved.2 ⟨mark, by rw [refill]; rfl, by rw [need]; rfl⟩)
  have left : (s.needPlaced c n).formedSupply c ≠ .starved := fun e => by
    obtain ⟨-, -, needed⟩ := State.formedSupply_eq_starved.1 e
    rw [supply] at needed
    exact Bool.noConfusion needed
  obtain ⟨ladder, placed⟩ := State.resumeLadder_resumes (s := (s.needPlaced c n).supplyTold c) l
  rw [State.reformSupply_eq, if_neg (by rw [starved]; exact left), if_pos starved]
  unfold State.lowPlaced
  split
  · refine ⟨ladder, fun op hop => ?_⟩
    obtain ⟨q, hq, covers⟩ := placed op hop
    obtain ⟨p, hp, older⟩ := addRequest_covers_old ⟨.refill c, none, bySupply⟩ _ q hq
    exact ⟨p, hp, Request.covers_trans older covers⟩
  · exact ⟨ladder, placed⟩

theorem SupplyInv.needPlaced (formed : s.SupplyInv) (c : Channel) (n : Need) : ((s.needPlaced c n).reformSupply c).SupplyInv := by
  intro d
  by_cases hd : d = c
  · exact hd ▸ State.reformSupply_formed ..
  · refine State.Formed.reformSupply (s := s.needPlaced c n) (State.Formed.of_eq (s := s) (formed d) ?_ rfl rfl) c
    exact (s.needPlaced_supply c d n).trans (if_neg hd)

end

/-- A cartridge that becomes able to supply serves the channel's ink need. -/
theorem setCart_serves {s w : State} {c : Channel} {r : Cartridge} (formed : s.SupplyInv) (supply : w.supply = s.supply)
    (accounts : w.accounts = s.accounts) (tables : w.tables = s.tables) (service : w.service = s.service)
    (unable : w.canSupply c = false) (able : r.state.canSupply = true) (mark : s.supply[c].faultMark = false)
    (refill : s.supply[c].refill = none) {n : Need} (need : s.supply[c].need = some n) (force : Bool) (s0 : State) :
    NeedServed s (State.finish force s0 (w.setCart c r true)) c n := by
  have told : w.setCart c r true = (w.cartTold c r).cartridgeAble c := by
    rw [State.setCart_told, unable, able]
    rfl
  have inv : (w.cartTold c r).SupplyInv := supplyInv_congr supply accounts tables formed
  have ladders : (w.cartTold c r).service.ladders = s.service.ladders := congrArg Service.ladders service
  have same : (w.cartTold c r).supply = s.supply := supply
  have carted : (w.setCart c r true).carts[c] = r := (Slotted.setCart w c r true).cart
  rw [State.cartridgeAble_of_need (by rw [same]; exact need)] at told
  obtain ⟨asked, askedSupply, askedAccounts, askedTables, askedLadders⟩ :=
    ((w.cartTold c r).needPlaced c n |>.reformSupply c).ableAsked_keeps c
  have after := asked.trans (Follows.finish force s0 _)
  have stands := (Tends.finish force s0 _).ladders (supplyInv_congr askedSupply askedAccounts askedTables (SupplyInv.needPlaced inv c n))
  have needs := (State.finish_carts force s0 (w.setCart c r true) c).2 (.inr (by unfold State.canSupply; rw [carted]; exact able))
  rw [told] at needs ⊢
  refine ⟨?_, ?_, fun st ph state cause step phase => ?_⟩
  · rw [needs, askedSupply, State.reformSupply_need, State.needPlaced_supply, if_pos rfl]
  · have placed : ∃ q ∈ ((w.cartTold c r).needPlaced c n).service.pending, q.covers ⟨n.kind.op c, none, n.origins⟩ :=
      State.place_covers ..
    exact ((Follows.reformSupply _ c).trans after).covers (fun e : n.kind.op c = .cap => RefillKind.op_refill n.kind c (by rw [e]; rfl)) placed
  · obtain ⟨ladder, placed⟩ := needPlaced_reform inv (by rw [same]; exact mark) (by rw [same]; exact refill)
      (by rw [same]; exact need) (st := st) (ph := ph) (by rw [ladders]; exact ⟨state, cause, step, phase⟩)
    refine ⟨?_, fun op hop => ?_⟩
    · rw [stands, askedLadders, ladder, ladders]
      rfl
    · have step : (ph = .check ∧ op = .check (channelSingle c)) ∨ (ph = .operation ∧ st.stepOp c = some op) := by
        rcases hop with ⟨hph, hop⟩ | ⟨hph, rfl, rfl⟩ | ⟨hph, rfl | rfl, rfl⟩
        exacts [.inl ⟨hph, hop⟩, .inr ⟨hph, rfl⟩, .inr ⟨hph, rfl⟩, .inr ⟨hph, rfl⟩]
      exact after.covers (by rcases hop with ⟨-, rfl⟩ | ⟨-, -, rfl⟩ | ⟨-, -, rfl⟩ <;> nofun) (placed op step)

end Sys2Proof.Machine
end

section
/-!
PROOFS. The statement on tag answers and timeouts (R69 to R74).
-/

-- One declaration at a time: side by side, the threads' stacks come near the memory limit of the check.
set_option Elab.async false

namespace Sys2Proof.Machine

/-! ## A tag fault (R70) -/

theorem Cartridge.keepOwed_frame (r : Cartridge) : r.keepOwed = { r with owed := r.keepOwed.owed, unsynced := r.keepOwed.unsynced } := by
  unfold Cartridge.keepOwed
  split
  · split <;> rfl
  · rfl

/-- What is owed is kept in the unsynced record of the tag's serial. -/
theorem Cartridge.keepOwed_kept {r : Cartridge} {ser : Nat} (h : r.serial = some ser) : r.keepOwed.owed = 0 ∧
    (0 < r.owed → r.keepOwed.unsynced = some ⟨ser, r.owed + (match r.unsynced with
      | some u => if u.serial = ser then u.amount else 0
      | none => 0)⟩) := by
  unfold Cartridge.keepOwed
  rw [h]
  by_cases owes : 0 < r.owed
  · simp only [if_pos owes]
    refine ⟨trivial, fun _ => ?_⟩
    unfold addUnsynced
    cases hu : r.unsynced with
    | none => simp
    | some u => by_cases hs : u.serial = ser <;> simp [hs, Nat.add_comm]
  · simp only [if_neg owes]
    exact ⟨by omega, fun h => absurd h owes⟩

/-- The record of a slot that a tag fault leaves. -/
def Cartridge.faulted (r : Cartridge) : Cartridge := { r.keepOwed with state := .tagFault, link := none, reject := none }

theorem Cartridge.faulted_frame (r : Cartridge) : r.faulted = { r with
    state := .tagFault, link := none, reject := none, owed := r.keepOwed.owed, unsynced := r.keepOwed.unsynced } :=
  congrArg (fun k : Cartridge => { k with state := .tagFault, link := none, reject := none }) r.keepOwed_frame

theorem State.tagFaults_slotted (s : State) (c : Channel) : Slotted s (s.tagFaults c) c s.carts[c].faulted := by
  have written := Slotted.setCart (s.raiseCondition (.tagFault c)) c s.carts[c].faulted true
  have raised := (Quiet.raiseCondition (s.carted c s.carts[c].faulted) (.tagFault c)).trans
    (Quiet.setCart (s.raiseCondition (.tagFault c)) c s.carts[c].faulted true)
  exact ⟨raised, written.ladders⟩

theorem State.tagFaults_latched (s : State) (c : Channel) : (s.tagFaults c).lane.conditions.tagFault = true :=
  (Quiet.setCart (s.raiseCondition (.tagFault c)) c s.carts[c].faulted true).lane.latched .tagFault
    (Lane.raiseCondition_latched s.now (.tagFault c) s.lane)

theorem Cartridge.sendOwed_of_unidentified {r : Cartridge} (h : r.state.identified = false) (now : Nat) : r.sendOwed now = r :=
  if_neg (by simp [h])

/-! ## Identification (R72, R73) -/

/-- The record of slot c that identification leaves of r. -/
def Tables.identified (t : Tables) (c : Channel) (i : TagInfo) (r : Cartridge) : Cartridge :=
  match t.rejects c i.code with
  | some why => { r with
      state := .rejected, reject := some why, serial := some i.serial, kind := t.findCode i.code, tagCarry := 0, owed := 0, link := none }
  | none => { r with
      state := formedCart t.channel[c] (i.remaining * 1000), reject := none, serial := some i.serial, kind := t.findCode i.code
      capacity := some i.capacity, remaining := i.remaining * 1000, link := none }

theorem State.identify_eq (s : State) (c : Channel) (i : TagInfo) :
    s.identify c i = s.setCart c (s.tables.identified c i s.carts[c]) true := by
  unfold State.identify Tables.identified
  dsimp only
  cases s.tables.rejects c i.code <;> rfl

section

variable {t : Tables} {c : Channel} {i : TagInfo} (r : Cartridge)

theorem Tables.identified_of_rejects {why : RejectReason} (h : t.rejects c i.code = some why) :
    (t.identified c i r).state = .rejected ∧ (t.identified c i r).reject = some why ∧
      (t.identified c i r).tagCarry = 0 ∧ (t.identified c i r).owed = 0 := by
  unfold Tables.identified
  rw [h]
  exact ⟨rfl, rfl, rfl, rfl⟩

theorem Tables.identified_of_accepted (h : t.rejects c i.code = none) :
    (t.identified c i r).state = formedCart t.channel[c] (i.remaining * 1000) ∧ (t.identified c i r).reject = none ∧
      (t.identified c i r).capacity = some i.capacity ∧ (t.identified c i r).remaining = i.remaining * 1000 := by
  unfold Tables.identified
  rw [h]
  exact ⟨rfl, rfl, rfl, rfl⟩

theorem Tables.identified_tag (t : Tables) (c : Channel) (i : TagInfo) (r : Cartridge) : (t.identified c i r).serial = some i.serial ∧
    (t.identified c i r).kind = t.findCode i.code ∧ (t.identified c i r).unsynced = r.unsynced := by
  unfold Tables.identified
  split <;> exact ⟨rfl, rfl, rfl⟩

theorem Tables.rejects_of_unknown (h : t.findCode i.code = none) : t.rejects c i.code = some .unknownInk := by
  unfold Tables.rejects
  rw [h]

theorem Tables.rejects_of_found {k : Fin 16} (h : t.findCode i.code = some k) : t.rejects c i.code =
    if t.ink[k].accepted[c] = false then some .wrongSlot else if t.channel[c].kind ≠ some k then some .mismatch else none := by
  unfold Tables.rejects
  rw [h]

end

/-- The unsynced record of slot c discarded (R71). -/
def State.unsyncedDropped (s : State) (c : Channel) : State := s.carted c { s.carts[c] with unsynced := none }

/-- The record of slot c that identification leaves, no unsynced record standing. -/
def State.identifiedCart (s : State) (c : Channel) (i : TagInfo) : Cartridge :=
  s.tables.identified c i { s.carts[c] with unsynced := none }

theorem State.unsyncedDropped_identify (s : State) (c : Channel) (i : TagInfo) :
    (s.unsyncedDropped c).identify c i = (s.unsyncedDropped c).setCart c (s.identifiedCart c i) true := by
  rw [State.identify_eq]
  have cart : (s.unsyncedDropped c).carts[c] = { s.carts[c] with unsynced := none } := setAt_self ..
  rw [cart]
  rfl

theorem State.unsyncedDropped_of_none {s : State} {c : Channel} (h : s.carts[c].unsynced = none) : s.unsyncedDropped c = s := by
  have same : ({ s.carts[c] with unsynced := none } : Cartridge) = s.carts[c] := by rw [← h]
  unfold State.unsyncedDropped State.carted
  rw [same, setAt_same]

theorem State.identify_slotted (s : State) (c : Channel) (i : TagInfo) :
    Slotted s ((s.unsyncedDropped c).identify c i) c (s.identifiedCart c i) := by
  rw [State.unsyncedDropped_identify]
  obtain ⟨quiet, ladders⟩ := Slotted.setCart (s.unsyncedDropped c) c (s.identifiedCart c i) true
  have twice : (s.unsyncedDropped c).carted c (s.identifiedCart c i) = s.carted c (s.identifiedCart c i) := by
    unfold State.unsyncedDropped State.carted setAt
    simp
  rw [twice] at quiet
  exact ⟨quiet, ladders⟩

theorem State.identify_identifies (s : State) (c : Channel) (i : TagInfo) :
    Identified s (State.finish false s ((s.unsyncedDropped c).identify c i)) c i := by
  have slotted := s.identify_slotted c i
  have after := Follows.finish false s ((s.unsyncedDropped c).identify c i)
  obtain ⟨serial, kind, unsynced⟩ := s.tables.identified_tag c i { s.carts[c] with unsynced := none }
  have kept := after.carts c
  rw [slotted.cart] at kept
  have state := congrArg Cartridge.state kept
  have reject := congrArg Cartridge.reject kept
  have rejected {why : RejectReason} (h : s.tables.rejects c i.code = some why) := Tables.identified_of_rejects
    (r := { s.carts[c] with unsynced := none }) h
  have accepted (h : s.tables.rejects c i.code = none) := Tables.identified_of_accepted
    (r := { s.carts[c] with unsynced := none }) h
  refine ⟨slotted.follows after, (congrArg Cartridge.serial kept).trans serial, (congrArg Cartridge.kind kept).trans kind,
    (congrArg Cartridge.unsynced kept).trans unsynced, fun lost => ?_, fun k found closed => ?_, fun d hd => slotted.others after hd,
    fun k found taken other => ?_, fun formed was is mark refill n need => ?_, fun isRejected => ?_, fun k found taken same => ?_⟩
  · have h := rejected (Tables.rejects_of_unknown lost)
    exact ⟨state.trans h.1, reject.trans h.2.1⟩
  · have h := rejected ((Tables.rejects_of_found found).trans (if_pos closed))
    exact ⟨state.trans h.1, reject.trans h.2.1⟩
  · have h := rejected ((Tables.rejects_of_found found).trans ((if_neg (by rw [taken]; decide)).trans (if_pos other)))
    exact ⟨state.trans h.1, reject.trans h.2.1⟩
  · rw [State.unsyncedDropped_identify]
    have able : (s.identifiedCart c i).state.canSupply = true := by rw [← state]; exact is
    have unable : (s.unsyncedDropped c).canSupply c = false := by
      have cart : (s.unsyncedDropped c).carts[c] = { s.carts[c] with unsynced := none } := setAt_self ..
      unfold State.canSupply
      rw [cart]
      exact was
    exact setCart_serves (w := s.unsyncedDropped c) (r := s.identifiedCart c i) formed rfl rfl rfl rfl unable able mark refill need false s
  · cases h : s.tables.rejects c i.code with
    | some why =>
      obtain ⟨-, -, carry, owed⟩ := rejected h
      exact ⟨(congrArg Cartridge.tagCarry kept).trans carry, (congrArg Cartridge.owed kept).trans owed⟩
    | none =>
      have formed := (state.symm.trans isRejected).symm.trans (accepted h).1
      exact absurd (congrArg CartState.identified formed) (by rw [formedCart_identified]; nofun)
  · have open_ : s.tables.rejects c i.code = none :=
      (Tables.rejects_of_found found).trans ((if_neg (by rw [taken]; decide)).trans (if_neg (not_not.2 same)))
    obtain ⟨hstate, hreject, capacity, remaining⟩ := accepted open_
    exact ⟨(congrArg Cartridge.remaining kept).trans remaining, (congrArg Cartridge.capacity kept).trans capacity,
      reject.trans hreject, state.trans hstate⟩

/-! ## Answers (R69) -/

section

variable {s : State} {c : Channel} {txn : TagTxn} {d : Nat}

theorem tagBackwardFrame_eq (h : s.carts[c].link = some (txn, d)) (answer : TagAnswer) : exec (.tagBackwardFrame c answer) s =
    ends false s (if s.now ≤ d then s.tagAnswered c txn answer else s.tagFaults c) := by
  show execTagBackwardFrame c answer s = _
  unfold execTagBackwardFrame
  rw [h]

theorem tagTimeout_eq (h : s.carts[c].link = some (txn, d)) :
    exec (.tagTimeout c) s = if d ≤ s.now then ends false s (s.tagFaults c) else .next s := by
  show execTagTimeout c s = _
  unfold execTagTimeout
  rw [h]

/-- A missing, faulty, ill-ranged or crossed answer is a tag fault, and a READ whose remaining exceeds its capacity (log 29). -/
theorem State.tagAnswered_faults (s : State) (c : Channel) {answer : TagAnswer}
    (h : answer = .violation ∨ answer = .wrongLength ∨ answer.wf = false ∨ (txn = .read ∧ ∃ n, answer = .deductData n) ∨
      (txn ≠ .read ∧ ∃ a b e f, answer = .readData a b e f) ∨ (txn = .read ∧ ∃ a b e f, answer = .readData a b e f ∧ b < e)) :
    s.tagAnswered c txn answer = s.tagFaults c := by
  unfold State.tagAnswered
  by_cases wf : answer.wf = true
  · rw [if_pos wf]
    rcases h with rfl | rfl | bad | ⟨rfl, n, rfl⟩ | ⟨other, a, b, e, f, rfl⟩ | ⟨rfl, a, b, e, f, rfl, more⟩
    · cases txn <;> rfl
    · cases txn <;> rfl
    · rw [wf] at bad
      exact Bool.noConfusion bad
    · rfl
    · cases txn with
      | read => exact absurd rfl other
      | _ => rfl
    · exact if_pos more
  · exact if_neg wf

/-- A tag fault leaves what the statement says. -/
theorem tagFaults_faults (s : State) (c : Channel) : let t := State.finish false s (s.tagFaults c)
    Follows { s with carts := t.carts, supply := t.supply, service := { s.service with pending := t.service.pending } } t ∧
    t.carts[c] = s.carts[c].faulted ∧
    (∀ e : Channel, e ≠ c → { t.carts[e] with link := s.carts[e].link } = s.carts[e] ∧
      t.supply[e].refill = s.supply[e].refill ∧ t.supply[e].faultMark = s.supply[e].faultMark) ∧ t.lane.conditions.tagFault = true := by
  have slotted := s.tagFaults_slotted c
  have after := Follows.finish false s (s.tagFaults c)
  exact ⟨slotted.follows_ladders after, (slotted.sent false s).trans (Cartridge.sendOwed_of_unidentified rfl _),
    fun e he => slotted.others after he, after.latched .tagFault (s.tagFaults_latched c)⟩

theorem readSucceeds_of_match {i : TagInfo} {u : Unsynced} (fits : i.remaining ≤ i.capacity) (hu : s.carts[c].unsynced = some u)
    (serial : u.serial = i.serial) : s.readSucceeds c i =
      s.carted c { s.carts[c] with link := some (.insertDeduct (min u.amount 65535) i, s.now + 20) } := by
  unfold State.readSucceeds
  dsimp only
  rw [if_neg (by omega), hu]
  exact if_pos serial

theorem readSucceeds_of_other {i : TagInfo} (fits : i.remaining ≤ i.capacity)
    (other : ∀ u, s.carts[c].unsynced = some u → u.serial ≠ i.serial) : s.readSucceeds c i = (s.unsyncedDropped c).identify c i := by
  unfold State.readSucceeds
  dsimp only
  rw [if_neg (by omega)]
  split
  next u hu => exact if_neg (other u hu)
  next hu => rw [State.unsyncedDropped_of_none hu]

theorem insertDeductSucceeds_of_more {amount remaining : Nat} {i : TagInfo} {u : Unsynced} (hu : s.carts[c].unsynced = some u)
    (more : amount < u.amount) : s.insertDeductSucceeds c amount i remaining = s.carted c { s.carts[c] with
      unsynced := some ⟨u.serial, u.amount - amount⟩
      link := some (.insertDeduct (min (u.amount - amount) 65535) { i with remaining := remaining }, s.now + 20) } := by
  unfold State.insertDeductSucceeds
  dsimp only
  rw [hu]
  exact if_neg (by omega)

theorem insertDeductSucceeds_of_paid {amount : Nat} (remaining : Nat) (i : TagInfo)
    (paid : ∀ u, s.carts[c].unsynced = some u → u.amount ≤ amount) :
    s.insertDeductSucceeds c amount i remaining = (s.unsyncedDropped c).identify c { i with remaining := remaining } := by
  unfold State.insertDeductSucceeds
  dsimp only
  split
  next u hu => exact if_pos (paid u hu)
  next hu => rw [State.unsyncedDropped_of_none hu]

end

/-- Settles O39: each branch of the answer writes one cartridge record, and an identified cartridge serves the ink need. -/
theorem tagAnswersEndTheTransaction : Obligations.TagAnswersEndTheTransaction := by
  intro s c answer
  refine ⟨fun idle => ⟨?_, ?_⟩, fun txn d link => ⟨fun early => ?_, fun i hi => ?fault,
    fun code capacity remaining ser hread hanswer wf time fits => ⟨fun u hu hser => ?pays, fun other => ?reads⟩,
    fun amount info remaining hins hanswer wf time => ⟨fun u hu more => ?deducts, fun paid => ?paid⟩,
    fun amount remaining hded hanswer wf time => ?deducted⟩⟩
  · show execTagBackwardFrame c answer s = _
    unfold execTagBackwardFrame
    rw [idle]
  · show execTagTimeout c s = _
    unfold execTagTimeout
    rw [idle]
  · exact (tagTimeout_eq link).trans (if_neg (by omega))
  case fault =>
    have run : exec i s = ends false s (s.tagFaults c) := by
      rcases hi with ⟨rfl, late⟩ | ⟨rfl, late | bad⟩
      · exact (tagTimeout_eq link).trans (if_pos late)
      · rw [tagBackwardFrame_eq link, if_neg (by omega)]
      · rw [tagBackwardFrame_eq link, s.tagAnswered_faults c bad, ite_self]
    obtain ⟨follows, cart, others, latched⟩ := tagFaults_faults s c
    refine ⟨_, run, follows, ?_⟩
    rw [cart, Cartridge.faulted_frame]
    exact ⟨rfl, rfl, rfl, rfl, rfl, rfl, rfl, rfl, others, latched, fun ser hser => Cartridge.keepOwed_kept hser⟩
  all_goals
    subst hanswer
    have run := tagBackwardFrame_eq link
  case pays =>
    subst hread
    have taken : s.tagAnswered c .read (.readData code capacity remaining ser) = _ :=
      (if_pos wf).trans (readSucceeds_of_match (i := ⟨code, capacity, remaining, ser⟩) fits hu hser)
    exact ⟨_, (run _).trans (by rw [if_pos time, taken]; rfl), Follows.finish ..⟩
  case reads =>
    subst hread
    have taken : s.tagAnswered c .read (.readData code capacity remaining ser) = _ :=
      (if_pos wf).trans (readSucceeds_of_other (i := ⟨code, capacity, remaining, ser⟩) fits other)
    exact ⟨_, (run _).trans (by rw [if_pos time, taken]; rfl), s.identify_identifies c _⟩
  case deducts =>
    subst hins
    have taken : s.tagAnswered c (.insertDeduct amount info) (.deductData remaining) = _ :=
      (if_pos wf).trans (insertDeductSucceeds_of_more hu more)
    exact ⟨_, (run _).trans (by rw [if_pos time, taken]; rfl), Follows.finish ..⟩
  case paid =>
    subst hins
    have taken : s.tagAnswered c (.insertDeduct amount info) (.deductData remaining) = _ :=
      (if_pos wf).trans (insertDeductSucceeds_of_paid remaining info paid)
    exact ⟨_, (run _).trans (by rw [if_pos time, taken]; rfl), s.identify_identifies c _⟩
  case deducted =>
    subst hded
    have taken : s.tagAnswered c (.deduct amount) (.deductData remaining) =
        s.carted c { s.carts[c] with owed := s.carts[c].owed - amount, link := none } := if_pos wf
    exact ⟨_, (run _).trans (by rw [if_pos time, taken]; rfl), Follows.finish ..⟩

end Sys2Proof.Machine
end

section
/-!
PROOFS. The conditions of the gate (R25 to R28, R30, R31): what each hold reason of a head entry says.
-/

-- One declaration at a time: side by side, the threads' stacks come near the memory limit of the check.
set_option Elab.async false

namespace Sys2Proof.Machine

/-! ## The ink test (R27, R28, R48) -/

theorem GroupSet.size_ofFn (f : Fin 24 → Bool) : GroupSet.size (Vector.ofFn f) = (List.finRange 24).countP f := by
  unfold GroupSet.size
  rw [Vector.toList_ofFn, List.ofFn_eq_map, List.countP_map]
  congr 1
  funext g
  simp

theorem GroupSet.size_noGroups : GroupSet.size noGroups = 0 := by
  unfold GroupSet.size noGroups
  simp

/-- The groups that a swath released now would spit: none while CAPPED (R99). -/
theorem State.spitGroups_size (s : State) (sl : Slot) {c : Channel} {k : InkKind} (hk : s.tables.kindOf c = some k) :
    GroupSet.size (s.spitGroups sl c) = if s.service.capped then 0 else (List.finRange 24).countP fun g =>
      sl.groups[c][g] && decide (s.decapLimit k < s.now - s.service.stamps[c][g]) := by
  unfold State.spitGroups
  rw [hk]
  dsimp only
  split
  · exact GroupSet.size_noGroups
  · exact GroupSet.size_ofFn _

theorem State.estimate_of_bound (s : State) (sl : Slot) {c : Channel} {k : InkKind} (hk : s.tables.kindOf c = some k) :
    s.estimate sl c = some (estimateOf (dropProduct k.vSmall k.vMedium k.vLarge k.coeff s.scan.results[tempInput (headOf c)].value
      sl.arrival[c] (GroupSet.size (s.spitGroups sl c) * s.tables.burstSize c))) := by
  unfold State.estimate
  rw [hk]
  rfl

theorem swathEstimate_of_bound (s : State) (sl : Slot) {c : Channel} {k : InkKind} (hk : s.tables.kindOf c = some k) :
    swathEstimate s sl c = some (estimateOf (dropProduct k.vSmall k.vMedium k.vLarge k.coeff
      s.scan.results[tempInput (headOf c)].value sl.arrival[c]
      ((if s.service.capped then 0 else (List.finRange 24).countP fun g =>
        sl.groups[c][g] && decide (s.decapLimit k < s.now - s.service.stamps[c][g])) * (32 * k.spitCount)))) := by
  unfold swathEstimate
  rw [hk]
  rfl

theorem State.estimate_eq (s : State) (sl : Slot) (c : Channel) : s.estimate sl c = swathEstimate s sl c := by
  cases hk : s.tables.kindOf c with
  | none =>
    unfold State.estimate swathEstimate
    rw [hk, Option.map_none, Option.map_none]
  | some k =>
    have burst : s.tables.burstSize c = 32 * k.spitCount := by unfold Tables.burstSize; rw [hk]
    rw [s.estimate_of_bound sl hk, swathEstimate_of_bound s sl hk, s.spitGroups_size sl hk, burst]

section

variable {s : State} {sl : Slot} {c : Channel}

theorem inkTest_of_stale (h : s.fresh (tempInput (headOf c)) = false) : s.inkTest sl c = .fits := by
  unfold State.inkTest
  rw [h]
  rfl

theorem inkTest_of_unbound (fresh : s.fresh (tempInput (headOf c)) = true) (h : swathEstimate s sl c = none) :
    s.inkTest sl c = if sl.arrival[c].total = 0 then .fits else .unbound := by
  unfold State.inkTest
  rw [fresh, State.estimate_eq, h]
  rfl

theorem inkTest_of_estimate (fresh : s.fresh (tempInput (headOf c)) = true) {e : Nat} (h : swathEstimate s sl c = some e) :
    s.inkTest sl c = if e = 0 then .fits
      else if (s.tables.channel[c].markLevel : Int) - s.tables.channel[c].floor < e then .capacity
      else if s.accounts[c].known = false then .unknown
      else if s.accounts[c].reserved + e + s.tables.channel[c].floor ≤ s.accounts[c].level then .fits
      else .short e := by
  unfold State.inkTest
  rw [fresh, State.estimate_eq, h]
  rfl

theorem inkTest_eq_capacity : s.inkTest sl c = .capacity ↔ overMark s sl c := by
  unfold overMark
  cases fresh : s.fresh (tempInput (headOf c)) with
  | false => simp [inkTest_of_stale fresh]
  | true =>
    cases he : swathEstimate s sl c with
    | none =>
      rw [inkTest_of_unbound fresh he]
      split_ifs
      · simp
      · simp
    | some e =>
      rw [inkTest_of_estimate fresh he]
      split_ifs <;> simp_all
      all_goals omega

theorem inkTest_eq_unknown : s.inkTest sl c = .unknown ↔ ∃ e, inkShort s sl c false e := by
  unfold inkShort
  cases fresh : s.fresh (tempInput (headOf c)) with
  | false => simp [inkTest_of_stale fresh]
  | true =>
    cases he : swathEstimate s sl c with
    | none =>
      rw [inkTest_of_unbound fresh he]
      split_ifs
      · simp
      · simp
    | some e =>
      rw [inkTest_of_estimate fresh he]
      split_ifs <;> simp_all
      all_goals omega

theorem inkTest_eq_short {e : Nat} : s.inkTest sl c = .short e ↔ inkShort s sl c true e := by
  unfold inkShort
  cases fresh : s.fresh (tempInput (headOf c)) with
  | false => simp [inkTest_of_stale fresh]
  | true =>
    cases he : swathEstimate s sl c with
    | none =>
      rw [inkTest_of_unbound fresh he]
      split_ifs
      · simp
      · simp
    | some e' =>
      rw [inkTest_of_estimate fresh he]
      split_ifs <;> simp_all
      all_goals rintro rfl
      all_goals omega

theorem inkTest_eq_unbound : s.inkTest sl c = .unbound ↔
    s.fresh (tempInput (headOf c)) = true ∧ s.tables.kindOf c = none ∧ sl.arrival[c] ≠ ⟨0, 0, 0⟩ := by
  have bound : swathEstimate s sl c = none ↔ s.tables.kindOf c = none := by
    unfold swathEstimate
    rw [Option.map_eq_none_iff]
  have blank : sl.arrival[c].total = 0 ↔ sl.arrival[c] = ⟨0, 0, 0⟩ := by
    cases sl.arrival[c]
    simp [Counts.total, and_assoc]
  cases fresh : s.fresh (tempInput (headOf c)) with
  | false => simp [inkTest_of_stale fresh]
  | true =>
    rw [← bound]
    cases he : swathEstimate s sl c with
    | none =>
      rw [inkTest_of_unbound fresh he, Ne, ← blank]
      split_ifs with h <;> simp [-Fin.getElem_fin, h]
    | some e =>
      rw [inkTest_of_estimate fresh he]
      split_ifs <;> simp

theorem inkTest_isInk : (s.inkTest sl c).isInk = true ↔ (∃ b e, inkShort s sl c b e) ∨
    (s.fresh (tempInput (headOf c)) = true ∧ s.tables.kindOf c = none ∧ sl.arrival[c] ≠ ⟨0, 0, 0⟩) := by
  have isInk : (s.inkTest sl c).isInk = true ↔
      s.inkTest sl c = .unknown ∨ (∃ e, s.inkTest sl c = .short e) ∨ s.inkTest sl c = .unbound := by
    cases s.inkTest sl c <;> simp [InkTest.isInk]
  rw [isInk, inkTest_eq_unknown, inkTest_eq_unbound, Bool.exists_bool, ← or_assoc]
  simp only [inkTest_eq_short]

end

/-! ## The conditions of a swath (R25, R26) -/

theorem channels_any {p : Channel → Bool} : channels.any p = true ↔ ∃ c, p c = true := by
  simp [List.any_eq_true, mem_channels]

theorem channels_all {p : Channel → Bool} : channels.all p = false ↔ ∃ c, p c = false := by
  rw [List.all_eq_false]
  simp [mem_channels]

theorem State.swathMedia_iff (s : State) : s.swathMedia = true ↔ s.feed.path = .ready ∨
    ∃ a p, s.feed.path = .tailOut ∧ s.feed.tail = some a ∧ s.feed.pos = some p ∧ 10838 ≤ a - p := by
  unfold State.swathMedia Feed.remaining
  cases s.feed.path <;> cases s.feed.tail <;> cases s.feed.pos <;> simp

theorem State.orphanInFlight_iff (s : State) : s.orphanInFlight = true ↔ ∃ m, s.feed.motion = some m ∧ m.owner = .orphan := by
  unfold State.orphanInFlight
  cases s.feed.motion <;> simp

theorem StationOp.aheadOfPass_iff (op : StationOp) : op.aheadOfPass = true ↔ op ≠ .cap ∧ ∀ c, op ≠ .refill c := by
  cases op <;> simp [StationOp.aheadOfPass]

theorem LadderState.inStep_iff (st : LadderState) : st.inStep = true ↔ st ∈ [LadderState.wipeCheck, .primeCheck, .prime2Check] := by
  cases st <;> simp [LadderState.inStep]

theorem State.swathService_iff (s : State) : s.swathService = false ↔ (∃ o, s.service.holder = .op o) ∨
    (∃ q ∈ s.service.pending, q.op ≠ .cap ∧ ∀ c, q.op ≠ .refill c) ∨
    ∃ c : Channel, s.service.ladders[c].state ∈ [LadderState.wipeCheck, .primeCheck, .prime2Check] := by
  have inFlight : s.service.inFlight.isNone = false ↔ ∃ o, s.service.holder = .op o := by
    unfold Service.inFlight
    cases s.service.holder <;> simp
  have ahead : (s.service.pending.any fun r => r.op.aheadOfPass) = true ↔
      ∃ q ∈ s.service.pending, q.op ≠ .cap ∧ ∀ c, q.op ≠ .refill c := by
    simp only [List.any_eq_true, StationOp.aheadOfPass_iff]
  have steps : (channels.any fun c => (s.service.ladders[c]).state.inStep) = true ↔
      ∃ c : Channel, s.service.ladders[c].state ∈ [LadderState.wipeCheck, .primeCheck, .prime2Check] := by
    simp only [channels_any, LadderState.inStep_iff]
  unfold State.swathService
  rw [Bool.and_eq_false_iff, Bool.and_eq_false_iff, inFlight, Bool.not_eq_false', Bool.not_eq_false', ahead, steps, or_assoc]

theorem State.pressuresFit_iff (s : State) : s.pressuresFit = false ↔ ∃ c : Channel, s.fresh (pressureInput c) = false ∨
    s.scan.results[pressureInput c].value < s.tables.channel[c].gateLow ∨
    s.tables.channel[c].gateHigh < s.scan.results[pressureInput c].value := by
  unfold State.pressuresFit
  rw [channels_all]
  simp only [Bool.and_eq_false_iff, decide_eq_false_iff_not, not_le, or_assoc]

theorem Tables.withinLimit_iff (t : Tables) (h : Head) (v : Int) :
    t.withinLimit h v = false ↔ ∃ c : Channel, headOf c = h ∧ t.kindLimit c < v := by
  unfold Tables.withinLimit
  rw [channels_all]
  simp

theorem headOf_surjective (h : Head) : h ∈ ([0, 1, 2] : List Head) ∧ ∃ c : Channel, headOf c = h := by
  revert h
  decide

theorem State.temperaturesFit_iff (s : State) : s.temperaturesFit = false ↔
    ∃ c : Channel, s.fresh (tempInput (headOf c)) = false ∨ s.tables.kindLimit c < s.scan.results[tempInput (headOf c)].value := by
  unfold State.temperaturesFit
  rw [List.all_eq_false]
  simp only [Bool.not_eq_true, Bool.and_eq_false_iff, Tables.withinLimit_iff]
  constructor
  · rintro ⟨h, -, stale | ⟨c, rfl, hot⟩⟩
    · obtain ⟨-, c, rfl⟩ := headOf_surjective h
      exact ⟨c, .inl stale⟩
    · exact ⟨c, .inr hot⟩
  · rintro ⟨c, stale | hot⟩
    · exact ⟨headOf c, (headOf_surjective _).1, .inl stale⟩
    · exact ⟨headOf c, (headOf_surjective _).1, .inr ⟨c, rfl, hot⟩⟩

/-- The hold reasons of a swath are those of its conditions. -/
theorem swathHolds_heldBy (s : State) (sl : Slot) : HeldBy s sl (s.swathHolds sl) where
  stop := Iff.rfl
  busy := s.orphanInFlight_iff
  media := by
    rw [← s.swathMedia_iff]
    exact iff_of_eq (Bool.not_eq_false' s.swathMedia)
  service := by
    rw [← s.swathService_iff]
    exact iff_of_eq (Bool.not_eq_true' s.swathService)
  pressure := by
    rw [← s.pressuresFit_iff]
    exact iff_of_eq (Bool.not_eq_true' s.pressuresFit)
  temperature := Iff.trans (iff_of_eq (Bool.not_eq_true' s.temperaturesFit)) s.temperaturesFit_iff
  ink := by
    show (channels.any fun c => (s.inkTest sl c).isInk) = true ↔ _
    simp only [channels_any, inkTest_isInk]
  capacity := by
    show (channels.any fun c => s.inkTest sl c = .capacity) = true ↔ _
    simp only [channels_any, decide_eq_true_iff, inkTest_eq_capacity]
  dry := rfl

end Sys2Proof.Machine
end

section
/-!
PROOFS. A granted pass (R29, R32, R50): the gate's inputs fix its hold reasons, and a release sets up the pass.
-/

-- One declaration at a time: side by side, the threads' stacks come near the memory limit of the check.
set_option Elab.async false

namespace Sys2Proof.Machine

/-! ## What the conditions read (R24) -/

section

variable {s t : State} (now : t.now = s.now) (scan : t.scan = s.scan) (tables : t.tables = s.tables)

include now scan tables

theorem decapLimit_congr (k : InkKind) : t.decapLimit k = s.decapLimit k := by
  unfold State.decapLimit State.bandPercent
  rw [State.fresh_congr now scan tables, scan, tables]

theorem spitGroups_congr (stamps : t.service.stamps = s.service.stamps) (capped : t.service.capped = s.service.capped) (sl : Slot)
    (c : Channel) : t.spitGroups sl c = s.spitGroups sl c := by
  unfold State.spitGroups
  simp only [decapLimit_congr now scan tables, now, tables, stamps, capped]

theorem estimate_congr (stamps : t.service.stamps = s.service.stamps) (capped : t.service.capped = s.service.capped) (sl : Slot)
    (c : Channel) : t.estimate sl c = s.estimate sl c := by
  unfold State.estimate
  rw [spitGroups_congr now scan tables stamps capped, scan, tables]

theorem inkTest_congr (accounts : t.accounts = s.accounts) (stamps : t.service.stamps = s.service.stamps)
    (capped : t.service.capped = s.service.capped) (sl : Slot) (c : Channel) : t.inkTest sl c = s.inkTest sl c := by
  unfold State.inkTest
  rw [estimate_congr now scan tables stamps capped, State.fresh_congr now scan tables, tables, accounts]

theorem pressuresFit_congr : t.pressuresFit = s.pressuresFit := by
  unfold State.pressuresFit
  simp only [State.fresh_congr now scan tables, scan, tables]

theorem temperaturesFit_congr : t.temperaturesFit = s.temperaturesFit := by
  unfold State.temperaturesFit
  simp only [State.fresh_congr now scan tables, scan, tables]

end

/-- The gate's inputs, with the time and the scan, fix the hold reasons of a swath. -/
theorem swathHolds_of_inputs {s t : State} (now : t.now = s.now) (scan : t.scan = s.scan) (h : t.gateInputs = s.gateInputs) (sl : Slot) :
    t.swathHolds sl = s.swathHolds sl := by
  have stop : t.stop.set = s.stop.set := congrArg GateInputs.stop h
  have path : t.feed.path = s.feed.path := congrArg GateInputs.path h
  have remaining : t.feed.remaining = s.feed.remaining := congrArg GateInputs.remaining h
  have motion : (t.feed.motion.map fun m => (m.work.kind, m.owner)) = s.feed.motion.map fun m => (m.work.kind, m.owner) :=
    congrArg GateInputs.motion h
  have operation : t.service.inFlight.isSome = s.service.inFlight.isSome := congrArg GateInputs.operation h
  have requests : t.service.pending = s.service.pending := congrArg GateInputs.requests h
  have ladders : (t.service.ladders.map (·.state)) = s.service.ladders.map (·.state) := congrArg GateInputs.ladders h
  have accounts : t.accounts = s.accounts := congrArg GateInputs.accounts h
  have tables : t.tables = s.tables := congrArg GateInputs.tables h
  have stamps : t.service.stamps = s.service.stamps := congrArg GateInputs.stamps h
  have capped : t.service.capped = s.service.capped := congrArg GateInputs.capped h
  have orphan : t.orphanInFlight = s.orphanInFlight := by
    unfold State.orphanInFlight
    cases ht : t.feed.motion <;> cases hs : s.feed.motion <;> simp_all
  have media : t.swathMedia = s.swathMedia := by
    unfold State.swathMedia
    rw [path, remaining]
  have steps (c : Channel) : t.service.ladders[c].state = s.service.ladders[c].state := by
    simpa using congrArg (fun v : Vector LadderState 6 => v[c]) ladders
  have service : t.swathService = s.swathService := by
    unfold State.swathService
    rw [← Option.not_isSome, ← Option.not_isSome, operation, requests]
    simp only [steps]
  unfold State.swathHolds
  simp only [stop, orphan, media, service, pressuresFit_congr now scan tables, temperaturesFit_congr now scan tables,
    inkTest_congr now scan tables accounts stamps capped]

/-! ## A release (R29) -/

theorem State.bandRisk_frame (s : State) (i : SlotIx) : s.bandRisk i = { s with lane := (s.bandRisk i).lane } := by
  unfold State.bandRisk
  split
  · split <;> rfl
  · rfl

theorem State.bandRisk_told (s : State) (i : SlotIx) {w : Nat} {k : Fin 16} (wet : s.wetEdge = some w) (profile : s.feed.profile = some k)
    (long : s.tables.profile[k].wetEdge < s.now - w) (room : s.lane.events.length < 64) :
    ⟨s.now, .bandRisk i (s.now - w) s.tables.profile[k].wetEdge⟩ ∈ (s.bandRisk i).lane.events := by
  unfold State.bandRisk
  rw [wet, profile]
  dsimp only
  rw [if_pos long]
  exact State.mem_raise s _ room

/-- At a release the heads uncap where they are CAPPED, which stamps every group. -/
theorem State.headsUncapped_frame (s : State) : s.headsUncapped = { s with service := { s.service with
      capped := false, stamps := s.headsUncapped.service.stamps, uncapInFlight := s.headsUncapped.service.uncapInFlight } } ∧
    ∀ (c : Channel) (g : Fin 24), s.headsUncapped.service.stamps[c][g] =
      if s.service.capped then max s.now s.service.stamps[c][g] else s.service.stamps[c][g] := by
  unfold State.headsUncapped
  by_cases capped : s.service.capped = true
  · simp only [if_pos capped]
    obtain ⟨frame, stamps⟩ := s.uncap_frame
    exact ⟨rfl, stamps⟩
  · have open_ : s.service.capped = false := by simpa using capped
    simp only [if_neg capped, implies_true, and_true]
    rw [← open_]

section

variable {s : State} {i : SlotIx} {rep : Bool} {rest : List Entry}

theorem State.passReleased_follows (s : State) (i : SlotIx) (rep : Bool) (rest : List Entry) :
    Follows { s with
      service := { s.service with
        holder := .pass, docked := false, capped := false, stamps := (s.passReleased i rep rest).service.stamps
        uncapInFlight := (s.passReleased i rep rest).service.uncapInFlight }
      accounts := (s.passReleased i rep rest).accounts, slots := setAt s.slots i { s.slots[i] with state := .printing }
      queue := ⟨.swath i rep, .active⟩ :: rest, pass := some (s.passContext i), driveEnable := true
      scan := s.scan.trigger
      out := { s.out with
        carriage := .pass s.service.capped s.slots[i].dir (s.passContext i).colA (s.passContext i).colB } } (s.passReleased i rep rest) := by
  have frame := s.headsUncapped_frame.1
  unfold State.passReleased
  generalize s.headsUncapped = u at frame ⊢
  rw [frame]
  exact { Follows.refl _ with }

theorem State.release_reserves (s : State) (i : SlotIx) (c : Channel) :
    (s.reserveAll s.slots[i] (s.passContext i).temps)[c] = { s.accounts[c] with
      reserved := s.accounts[c].reserved + (swathEstimate s s.slots[i] c).getD 0
      release := some (match s.tables.kindOf c with
        | some k => ⟨(swathEstimate s s.slots[i] c).getD 0, max 5 (min 70 s.scan.results[tempInput (headOf c)].value),
            k.vSmall, k.vMedium, k.vLarge, k.coeff⟩
        | none => ⟨(swathEstimate s s.slots[i] c).getD 0, max 5 (min 70 s.scan.results[tempInput (headOf c)].value), 0, 0, 0, 0⟩) } := by
  have temp : (s.passContext i).temps[headOf c] = max 5 (min 70 s.scan.results[tempInput (headOf c)].value) := by
    simp [State.passContext, clampTemp]
  have reserved : (s.reserveAll s.slots[i] (s.passContext i).temps)[c] = s.accounts[c].reserve
      (releaseRecord (s.tables.kindOf c) (s.passContext i).temps[headOf c] ((swathEstimate s s.slots[i] c).getD 0)) := by
    rw [← State.estimate_eq]
    simp [State.reserveAll]
  rw [reserved, temp]
  unfold Account.reserve releaseRecord
  cases s.tables.kindOf c <;> rfl

theorem passContext_congr {s t : State} (now : t.now = s.now) (scan : t.scan = s.scan) (tables : t.tables = s.tables)
    (slots : t.slots = s.slots) (stamps : t.service.stamps = s.service.stamps) (capped : t.service.capped = s.service.capped)
    (i : SlotIx) : t.passContext i = s.passContext i := by
  unfold State.passContext
  simp only [spitGroups_congr now scan tables stamps capped, now, scan, tables, slots]

/-- The groups that the pass spits: those of the swath that have been idle beyond the decap limit (R99). -/
theorem State.spitGroups_iff (s : State) (sl : Slot) (c : Channel) (g : Fin 24) : (s.spitGroups sl c)[g] = true ↔
    s.service.capped = false ∧ sl.groups[c][g] = true ∧
      ∃ k, s.tables.kindOf c = some k ∧ s.decapLimit k < s.now - s.service.stamps[c][g] := by
  unfold State.spitGroups
  cases s.tables.kindOf c with
  | none => simp [noGroups]
  | some k => cases s.service.capped <;> simp [noGroups]

/-- The pass context that a release sets up (R32). -/
structure PassSet (s : State) (i : SlotIx) (p : PassContext) : Prop where
  columns : (p.colA, p.colB) = traverse s.slots[i] p.offsets
  slot : p.slot = i
  dir : p.dir = s.slots[i].dir
  first : p.first = s.slots[i].first
  last : p.last = s.slots[i].last
  gen : p.gen = s.slots[i].gen
  offsets : ∀ c : Channel, p.offsets[c] = (match s.slots[i].dir with
    | .fwd => s.tables.channel[c].columnOffset
    | .rev => s.tables.channel[c].columnOffset + s.tables.reverseShift[headOf c])
  spit : ∀ (c : Channel) (g : Fin 24), p.spit[c][g] = true ↔ s.service.capped = false ∧ s.slots[i].groups[c][g] = true ∧
    ∃ k, s.tables.kindOf c = some k ∧ s.decapLimit k < s.now - s.service.stamps[c][g]
  burst : ∀ c : Channel, p.burst[c] = 32 * (match s.tables.kindOf c with
    | some k => k.spitCount
    | none => 0)
  temps : ∀ h : Head, p.temps[h] = max 5 (min 70 s.scan.results[tempInput h].value)
  nothing : ∀ (c : Channel) (g : Fin 24), p.fired[c][g] = false ∧ p.output[c][g] = ⟨0, 0, 0⟩
  spitDone : p.spitDone = false
  lastCol : p.lastCol = none
  deadline : p.deadline = some (s.now + 2000)

theorem State.passContext_set (s : State) (i : SlotIx) : PassSet s i (s.passContext i) where
  columns := rfl
  slot := rfl
  dir := rfl
  first := rfl
  last := rfl
  gen := rfl
  offsets c := by
    have offset : (s.passContext i).offsets[c] = s.tables.offset s.slots[i].dir c := by simp [State.passContext]
    rw [offset]
    unfold Tables.offset
    cases s.slots[i].dir <;> rfl
  spit c g := by
    have spit : (s.passContext i).spit[c] = s.spitGroups s.slots[i] c := by simp [State.passContext]
    rw [spit]
    exact s.spitGroups_iff ..
  burst c := by
    have burst : (s.passContext i).burst[c] = s.tables.burstSize c := by simp [State.passContext]
    rw [burst]
    unfold Tables.burstSize
    cases s.tables.kindOf c <;> rfl
  temps h := by simp [State.passContext, clampTemp]
  nothing c g := by simp [State.passContext, noGroups, Counts.zero]
  spitDone := rfl
  lastCol := rfl
  deadline := rfl

end

/-! ## The grant (R108) -/

section

variable {s : State} {i : SlotIx} {rep : Bool} {rest : List Entry}

/-- The carriage is granted to the pass where nothing is pending. -/
theorem arbiterGrant_pass (free : s.service.holder = .free) (noPass : s.pass = none) (latch : s.stop.set = false)
    (nothing : s.service.pending = []) (asked : s.service.passAsked = true) :
    exec .arbiterGrant s = ends false s s.grantPass := by
  have may : s.mayGrant = true := by simp [State.mayGrant, free, noPass, latch]
  have first : s.firstRequest = none := by
    unfold State.firstRequest
    rw [nothing]
    rfl
  have arbitrated : s.arbitrate = s.grantPass := by
    unfold State.arbitrate
    rw [arbitratePrimes_of_none (by rw [nothing]; nofun)]
    dsimp only
    rw [first, asked]
    rfl
  show execArbiterGrant s = _
  unfold execArbiterGrant
  rw [if_pos may, arbitrated]

theorem State.grantPass_swath (hq : s.queue = ⟨.swath i rep, .waiting⟩ :: rest) : s.grantPass =
    if s.swathHolds s.slots[i] = {} then (s.passTaken.bandRisk i).passReleased i rep rest
    else s.passTaken.evaluateSwath i rep rest := by
  have same : s.passTaken.swathHolds s.slots[i] = s.swathHolds s.slots[i] := swathHolds_of_inputs rfl rfl rfl _
  have taken : s.grantPass = if (s.passTaken.swathHolds s.slots[i]).isEmpty then s.passTaken.release i rep rest
      else s.passTaken.evaluateSwath i rep rest := by
    unfold State.grantPass
    dsimp only
    split
    next hq' =>
      cases hq.symm.trans hq'
      rfl
    next other => exact absurd hq (other i rep rest)
  rw [taken, same, State.release_eq]
  by_cases fits : s.swathHolds s.slots[i] = {}
  · rw [if_pos fits, if_pos ((Holds.isEmpty_iff _).2 fits)]
  · rw [if_neg fits, if_neg (mt (Holds.isEmpty_iff _).1 fits)]

end

/-- The state in which a pass is released is s but for the pass flag and BAND RISK. -/
theorem State.bandRisked_frame (s : State) (i : SlotIx) : ∃ l, s.lane.Raised 1 l ∧
    s.passTaken.bandRisk i = { s with lane := l, service := { s.service with passAsked := false } } ∧
    ∀ w k, s.wetEdge = some w → s.feed.profile = some k → s.tables.profile[k].wetEdge < s.now - w → s.lane.events.length < 64 →
      ⟨s.now, .bandRisk i (s.now - w) s.tables.profile[k].wetEdge⟩ ∈ l.events :=
  ⟨_, (Quiet.bandRisk s.passTaken i).lane, s.passTaken.bandRisk_frame i, fun _ _ wet profile long room =>
    State.bandRisk_told s.passTaken i wet profile long room⟩

/-- What a release from y, which is s but for the pass flag and events, leaves of s. -/
theorem released_follows {s y t : State} {l : Lane} (raised : s.lane.Raised 1 l)
    (frame : y = { s with lane := l, service := { s.service with passAsked := false } }) (i : SlotIx) (rep : Bool) (rest : List Entry)
    (h : Follows (y.passReleased i rep rest) t) : Follows { s with
      service := { s.service with
        holder := .pass, docked := false, capped := false, stamps := t.service.stamps, uncapInFlight := t.service.uncapInFlight }
      accounts := t.accounts, slots := setAt s.slots i { s.slots[i] with state := .printing }
      queue := ⟨.swath i rep, .active⟩ :: rest, pass := some (y.passContext i), driveEnable := true
      scan := s.scan.trigger
      out := { s.out with
        carriage := .pass s.service.capped s.slots[i].dir (y.passContext i).colA (y.passContext i).colB } } t := by
  have released := (y.passReleased_follows i rep rest).trans h
  have same : (y.passReleased i rep rest).service.stamps = t.service.stamps ∧
      (y.passReleased i rep rest).service.uncapInFlight = t.service.uncapInFlight ∧
      (y.passReleased i rep rest).accounts = t.accounts := ⟨h.stamps.symm, h.uncapInFlight.symm, h.accounts.symm⟩
  obtain ⟨stamps, uncap, accounts⟩ := same
  rw [stamps, uncap, accounts] at released
  generalize y.passContext i = p at released ⊢
  subst frame
  have answers : l.answers = s.lane.answers := by simp only [Lane.answers, raised.sending, raised.replies]
  exact { released with
    aligned := released.aligned.trans raised.aligned, rx := released.rx.trans raised.rx, hold := released.hold.trans raised.hold
    answers := released.answers.trans answers, events := raised.reported.trans released.events
    latched := fun k hk => released.latched k (raised.latched k hk) }

/-- Settles O30: with no hold reason the pass is released, and with one the gate evaluates the entry again. -/
theorem grantedPassIsReleased : Obligations.GrantedPassIsReleased := by
  intro s i rep rest free noPass latch nothing asked hq
  have step := arbiterGrant_pass free noPass latch nothing asked
  rw [State.grantPass_swath hq] at step
  refine ⟨swathHolds_heldBy s s.slots[i], fun held => ?returned, fun fits => ?released⟩
  case returned =>
    rw [if_neg held] at step
    have evaluated := Follows.evaluateSwath s.passTaken i rep rest (by rw [show s.passTaken.queue = s.queue from rfl, hq])
    have taken : Follows s s.passTaken := { Follows.refl s with }
    exact ⟨_, step, (taken.trans evaluated).trans (Follows.finish ..)⟩
  case released =>
    rw [if_pos fits] at step
    obtain ⟨l, raised, frame, told⟩ := s.bandRisked_frame i
    generalize s.passTaken.bandRisk i = y at step frame
    have now : y.now = s.now := by rw [frame]
    have scan : y.scan = s.scan := by rw [frame]
    have tables : y.tables = s.tables := by rw [frame]
    have slots : y.slots = s.slots := by rw [frame]
    have accounts : y.accounts = s.accounts := by rw [frame]
    have stamps : y.service.stamps = s.service.stamps := by rw [frame]
    have capped : y.service.capped = s.service.capped := by rw [frame]
    have lane : y.lane = l := by rw [frame]
    have context : y.passContext i = s.passContext i := passContext_congr now scan tables slots stamps capped i
    have after := Follows.finish false s (y.passReleased i rep rest)
    have follows := released_follows raised frame i rep rest after
    rw [context] at follows
    have p := s.passContext_set i
    refine ⟨_, s.passContext i, step, follows, fun c g => ?_, fun c => ?_, p.columns, p.slot, p.dir, p.first, p.last, p.gen, p.offsets,
      p.spit, p.burst, p.temps, p.nothing, p.spitDone, p.lastCol, p.deadline, fun w k wet profile long => ?_⟩
    · rw [after.stamps]
      have stamped := y.headsUncapped_frame.2 c g
      rw [stamps, capped, now] at stamped
      exact stamped
    · rw [after.accounts]
      have reserved : (y.passReleased i rep rest).accounts[c] = _ := y.release_reserves i c
      rw [← State.estimate_eq, slots, estimate_congr now scan tables stamps capped, State.estimate_eq, accounts, tables, scan] at reserved
      exact reserved
    · exact tells_of_mem (x := y.passReleased i rep rest) (fun room => by
        have standing : y.headsUncapped.lane = y.lane := by rw [y.headsUncapped_frame.1]
        have released : (y.passReleased i rep rest).lane = y.headsUncapped.lane := rfl
        rw [released, standing, lane]
        exact told w k wet profile long (by omega)) after

end Sys2Proof.Machine
end

section
/-!
PROOFS. The gate's evaluation settles (R24, R27; log 32): the refills that a swath's ink tests call for are merged into the pending ones,
and a second evaluation finds them there and changes none of the gate's inputs.
-/

-- One declaration at a time: side by side, the threads' stacks come near the memory limit of the check.
set_option Elab.async false

namespace Sys2Proof.Machine

/-! ## Requests that a list takes up -/

/-- The list stands for the request: placing it changes nothing. -/
def Absorbs (l : List Request) (r : Request) : Prop := addRequest r l = l

/-- A refill request of the gate for channel c (R27). -/
structure Request.CallOf (r : Request) (c : Channel) : Prop where
  shape : (∃ a, r = ⟨.urgentRefill c, a, byGate⟩) ∨ r = ⟨.fillToMark c, none, byGate⟩

theorem Request.CallOf.channel {r : Request} {c : Channel} (h : r.CallOf c) : r.op.refillChannel = some c := by
  rcases h.shape with ⟨a, rfl⟩ | rfl <;> rfl

theorem maxAmount_absorb (a b : Option Nat) : maxAmount (maxAmount a b) b = maxAmount a b := by
  cases a <;> cases b <;> simp [maxAmount]

/-- A request merged twice is merged once. -/
theorem Request.CallOf.merge_absorb {p r : Request} {c : Channel} (h : r.CallOf c) (m : p.op.matches r.op = true) :
    (p.merge r).merge r = p.merge r := by
  obtain ⟨op, amount, origins⟩ := p
  have channel := (StationOp.refillChannel_of_matches m).trans h.channel
  rcases h.shape with ⟨a, rfl⟩ | rfl <;> cases op <;>
    simp_all [Request.merge, StationOp.merge, StationOp.refillChannel, Origins.union_absorb_right, maxAmount_absorb]

theorem Request.CallOf.merge_self {r : Request} {c : Channel} (h : r.CallOf c) : r.merge r = r := by
  rcases h.shape with ⟨a | a, rfl⟩ | rfl <;> simp [Request.merge, StationOp.merge, maxAmount, Origins.union_self]

theorem addRequest_absorbs {r : Request} {c : Channel} (h : r.CallOf c) (l : List Request) : Absorbs (addRequest r l) r := by
  unfold Absorbs
  induction l with
  | nil => simp only [addRequest, StationOp.matches_self, if_true, h.merge_self]
  | cons p ps ih =>
    by_cases m : p.op.matches r.op = true
    · simp only [addRequest, if_pos m, if_pos (Request.merge_covers_new m).1, h.merge_absorb m]
    · simp only [addRequest, if_neg m, ih]

/-- Refill requests of other channels leave what a list takes up. -/
theorem Absorbs.addRequest {l : List Request} {r r' : Request} {c d : Channel} (h : Absorbs l r) (hr : r.CallOf c) (hr' : r'.CallOf d)
    (hd : d ≠ c) : Absorbs (addRequest r' l) r := by
  have apart {p : Request} (m : p.op.matches r'.op = true) : ¬ p.op.matches r.op = true := fun m' => by
    have both := ((StationOp.refillChannel_of_matches m).symm.trans (StationOp.refillChannel_of_matches m'))
    rw [hr.channel, hr'.channel] at both
    exact hd (Option.some.inj both)
  unfold Absorbs at h ⊢
  induction l with
  | nil => simp [Sys2Proof.Machine.addRequest] at h
  | cons p ps ih =>
    by_cases m' : p.op.matches r'.op = true
    · have none' := apart m'
      have merged := apart (Request.merge_covers_new m').1
      rw [Sys2Proof.Machine.addRequest, if_neg none'] at h
      rw [Sys2Proof.Machine.addRequest, if_pos m', Sys2Proof.Machine.addRequest, if_neg merged, (List.cons.inj h).2]
    · rw [Sys2Proof.Machine.addRequest, if_neg m']
      by_cases m : p.op.matches r.op = true
      · rw [Sys2Proof.Machine.addRequest, if_pos m] at h ⊢
        rw [(List.cons.inj h).1]
      · rw [Sys2Proof.Machine.addRequest, if_neg m] at h ⊢
        rw [ih (List.cons.inj h).2]

/-- What a list takes up is pending in it with the amount asked. -/
theorem Absorbs.pending {l : List Request} {r : Request} (h : Absorbs l r) (c : Channel) :
    ∃ q ∈ l, q.covers r ∧ (q.op = .urgentRefill c → r.op ≠ .fillToMark c ∧ ∀ e, r.amount = some e → ∃ a, q.amount = some a ∧ e ≤ a) := by
  unfold Absorbs at h
  induction l with
  | nil => simp [Sys2Proof.Machine.addRequest] at h
  | cons p ps ih =>
    by_cases m : p.op.matches r.op = true
    · rw [Sys2Proof.Machine.addRequest, if_pos m] at h
      have same : p.merge r = p := (List.cons.inj h).1
      refine ⟨p, List.mem_cons_self .., same ▸ Request.merge_covers_new m, fun urgent => ?_⟩
      have op : p.op.merge r.op = .urgentRefill c := (congrArg Request.op same).trans urgent
      refine ⟨fun fills => ?_, fun e he => ?_⟩
      · rw [urgent, fills] at op
        cases op
      have amount : p.amount = maxAmount p.amount r.amount := by
        have := congrArg Request.amount same
        simp only [Request.merge, op] at this
        exact this.symm
      rw [amount, he]
      cases p.amount with
      | none => exact ⟨e, rfl, Nat.le_refl e⟩
      | some b => exact ⟨max b e, rfl, Nat.le_max_right ..⟩
    · rw [Sys2Proof.Machine.addRequest, if_neg m] at h
      obtain ⟨q, hq, found⟩ := ih (List.cons.inj h).2
      exact ⟨q, List.mem_cons_of_mem _ hq, found⟩

/-- The list with a request placed, if there is one. -/
def placed (r : Option Request) (l : List Request) : List Request :=
  match r with
  | some r => addRequest r l
  | none => l

section

variable {order : Channel → Option Request} (calls : ∀ c r, order c = some r → r.CallOf c)

include calls

/-- The requests of a list of channels, placed one after the other, are taken up. -/
theorem foldl_placed_absorbs {c : Channel} {r : Request} (hr : order c = some r) (cs : List Channel) (l : List Request)
    (h : c ∈ cs ∨ Absorbs l r) : Absorbs (cs.foldl (fun p d => placed (order d) p) l) r := by
  induction cs generalizing l with
  | nil => exact h.resolve_left (List.not_mem_nil)
  | cons d cs ih =>
    refine ih _ ?_
    have here : d = c → Absorbs (placed (order d) l) r := fun e => by
      rw [e, hr]
      exact addRequest_absorbs (calls c r hr) l
    by_cases e : d = c
    · exact .inr (here e)
    rcases h with h | h
    · exact .inl ((List.mem_cons.1 h).resolve_left (Ne.symm e))
    · refine .inr ?_
      show Absorbs (placed (order d) l) r
      unfold placed
      cases hd : order d with
      | none => exact h
      | some r' => exact h.addRequest (calls c r hr) (calls d r' hd) e

omit calls in
/-- Requests taken up already change nothing. -/
theorem foldl_placed_of_absorbs {l : List Request} (h : ∀ c r, order c = some r → Absorbs l r) (cs : List Channel) :
    cs.foldl (fun p d => placed (order d) p) l = l := by
  induction cs with
  | nil => rfl
  | cons d cs ih =>
    have same : placed (order d) l = l := by
      unfold placed
      cases hd : order d with
      | none => rfl
      | some r => exact h d r hd
    rw [List.foldl_cons, same, ih]

end

/-! ## What a channel's ink test calls for (R27, R60) -/

/-- The kind and amount of the refill that an ink test calls for. -/
def InkTest.call : InkTest → Option (RefillKind × Option Nat)
  | .short e => some (.urgent, some e)
  | .unknown => some (.fill, none)
  | _ => none

theorem State.gateRequest_eq (s : State) (x : InkTest) (c : Channel) : s.gateRequest x c = match x.call with
    | some (k, a) => (s.requestRefill c k a byGate).reformSupply c
    | none => s := by
  cases x <;> rfl

theorem InkTest.isInk_of_call {x : InkTest} {k : RefillKind × Option Nat} (h : x.call = some k) : x.isInk = true := by
  cases x with
  | short e => rfl
  | unknown => rfl
  | _ => cases h

/-- The request that an ink test places: none under the fault mark, nor where the cartridge cannot supply. -/
def State.gateOrder (s : State) (x : InkTest) (c : Channel) : Option Request :=
  match x.call with
  | some (k, a) =>
    if s.supply[c].faultMark = false ∧ s.canSupply c = true then
      some ⟨(s.refillKind c k).op c, if s.refillKind c k = .urgent then a else none, byGate⟩
    else none
  | none => none

theorem InkTest.call_kind {x : InkTest} {k : RefillKind} {a : Option Nat} (h : x.call = some (k, a)) : k = .urgent ∨ k = .fill := by
  cases x <;> simp only [InkTest.call, reduceCtorEq, Option.some.injEq, Prod.mk.injEq] at h
  · exact .inl h.1.symm
  · exact .inr h.1.symm

theorem State.gateOrder_calls {s : State} {x : InkTest} {c : Channel} {r : Request} (h : s.gateOrder x c = some r) : r.CallOf c := by
  unfold State.gateOrder at h
  split at h
  next k a hx =>
    split at h
    · cases h
      have kinds := InkTest.call_kind hx
      unfold State.refillKind
      rcases kinds with rfl | rfl <;> cases s.accounts[c].known
      · exact ⟨.inr rfl⟩
      · exact ⟨.inl ⟨a, rfl⟩⟩
      · exact ⟨.inr rfl⟩
      · exact ⟨.inr rfl⟩
    · cases h
  · cases h

theorem State.gateOrder_congr {s t : State} {c : Channel} (mark : t.supply[c].faultMark = s.supply[c].faultMark)
    (carts : t.carts = s.carts) (accounts : t.accounts = s.accounts) (x : InkTest) : t.gateOrder x c = s.gateOrder x c := by
  unfold State.gateOrder State.canSupply State.refillKind
  rw [mark, carts, accounts]

/-- A refill request of the gate under its three cases (R60). -/
theorem State.requestRefill_gate (s : State) (c : Channel) (k : RefillKind) (a : Option Nat) : s.requestRefill c k a byGate =
    if s.supply[c].faultMark then s
    else if s.canSupply c then s.place ((s.refillKind c k).op c) (if s.refillKind c k = .urgent then a else none) byGate
    else if s.refillKind c k ≠ .refill then s.recordNeed c ⟨s.refillKind c k, a, byGate⟩
    else s := by
  unfold State.requestRefill
  simp [byGate, -Fin.getElem_fin]
  rfl

theorem State.formedSupply_ne_low {s : State} {c : Channel} (h : s.supply[c].need ≠ none) : s.formedSupply c ≠ .low := by
  have needed := Option.isSome_iff_ne_none.2 h
  unfold State.formedSupply
  dsimp only
  rw [needed, if_pos rfl]
  split_ifs <;> nofun

/-- Where the supply states are formed, forming one again after an ink need was recorded places nothing. -/
theorem recordNeed_reform_pending {s : State} (inv : s.SupplyInv) (c : Channel) (n : Need) :
    ((s.recordNeed c n).reformSupply c).service.pending = s.service.pending := by
  have need : (s.recordNeed c n).supply[c].need ≠ none := by
    rw [show (s.recordNeed c n).supply[c] = { s.supply[c] with need := some (Need.join s.supply[c].need n) } from modifyAt_self ..]
    nofun
  have state : (s.recordNeed c n).supply[c].state = s.formedSupply c := (congrArg Supply.state (modifyAt_self ..)).trans (inv c)
  rw [State.reformSupply_eq]
  split
  · rfl
  next changed =>
    have notStarved : (s.recordNeed c n).supply[c].state ≠ .starved := fun starved => changed (by
      have was := State.formedSupply_eq_starved.1 (state.symm.trans starved)
      rw [starved]
      refine State.formedSupply_eq_starved.2 ⟨?_, ?_, Option.isSome_iff_ne_none.2 need⟩
      · exact (congrArg Supply.faultMark (modifyAt_self ..)).trans was.1
      · exact (congrArg (fun r : Supply => r.refill.isSome) (modifyAt_self ..)).trans was.2.1)
    rw [if_neg notStarved]
    unfold State.lowPlaced
    rw [if_neg fun both => State.formedSupply_ne_low need both.1]
    rfl

theorem State.gateOrder_of_call {s : State} {x : InkTest} {c : Channel} {k : RefillKind} {a : Option Nat} (hx : x.call = some (k, a))
    (mark : s.supply[c].faultMark = false) (able : s.canSupply c = true) : s.gateOrder x c =
      some ⟨(s.refillKind c k).op c, if s.refillKind c k = .urgent then a else none, byGate⟩ := by
  unfold State.gateOrder
  rw [hx]
  exact if_pos ⟨mark, able⟩

theorem State.gateOrder_eq_none {s : State} {x : InkTest} {c : Channel}
    (h : x.call = none ∨ s.supply[c].faultMark = true ∨ s.canSupply c = false) : s.gateOrder x c = none := by
  unfold State.gateOrder
  split
  next k a hx =>
    refine if_neg fun both => ?_
    rw [both.1, both.2, hx] at h
    simp at h
  next => rfl

/-- Where the supply states are formed, the gate's request for a channel places its order and nothing else. -/
theorem gateRequest_pending {s : State} (inv : s.SupplyInv) (x : InkTest) (c : Channel) :
    (s.gateRequest x c).service.pending = placed (s.gateOrder x c) s.service.pending := by
  rw [State.gateRequest_eq]
  cases hx : x.call with
  | none => rw [State.gateOrder_eq_none (.inl hx)]; rfl
  | some ka =>
    obtain ⟨k, a⟩ := ka
    have gate := s.requestRefill_gate c k a
    dsimp only
    by_cases mark : s.supply[c].faultMark = true
    · rw [if_pos mark] at gate
      rw [gate, State.reformSupply_of_formed (inv c), State.gateOrder_eq_none (.inr (.inl mark))]
      rfl
    rw [if_neg mark] at gate
    by_cases able : s.canSupply c = true
    · rw [if_pos able] at gate
      have formed (op : StationOp) (n : Option Nat) : (s.place op n byGate).reformSupply c = s.place op n byGate :=
        State.reformSupply_of_formed (State.Formed.of_eq (s := s) (inv c) rfl rfl rfl)
      rw [gate, formed, State.gateOrder_of_call hx (Bool.eq_false_iff.2 mark) able]
      rfl
    rw [if_neg able] at gate
    rw [gate, State.gateOrder_eq_none (.inr (.inr (Bool.eq_false_iff.2 able)))]
    split
    · exact recordNeed_reform_pending inv c _
    · rw [State.reformSupply_of_formed (inv c)]
      rfl

theorem foldl_gateRequest_pending (tests : Channel → InkTest) (cs : List Channel) {s : State} (inv : s.SupplyInv) :
    (cs.foldl (fun t c => t.gateRequest (tests c) c) s).service.pending =
      cs.foldl (fun p c => placed (s.gateOrder (tests c) c) p) s.service.pending := by
  induction cs generalizing s with
  | nil => rfl
  | cons d cs ih =>
    have quiet := Quiet.gateRequest s (tests d) d
    have same (c : Channel) : (s.gateRequest (tests d) d).gateOrder (tests c) c = s.gateOrder (tests c) c :=
      State.gateOrder_congr (quiet.refills c).2 quiet.carts quiet.accounts _
    rw [List.foldl_cons, ih (inv.gateRequest (tests d) d), gateRequest_pending inv]
    simp only [same]
    rfl

/-! ## A swath evaluated (R24, R27) -/

theorem State.reportCapacity_frame (s : State) (sl : Slot) (i : SlotIx) (rep : Bool) (rest : List Entry) :
    s.reportCapacity sl i rep rest =
      { s with lane := (s.reportCapacity sl i rep rest).lane, queue := (s.reportCapacity sl i rep rest).queue } := by
  unfold State.reportCapacity
  split <;> rfl

/-- The channels that show CAPACITY, the lowest first (R28). -/
def State.overMarkFirst (s : State) (sl : Slot) : Option Channel := channels.find? fun c => s.inkTest sl c = .capacity

theorem State.reportCapacity_eq (s : State) (sl : Slot) (i : SlotIx) (rep : Bool) (rest : List Entry) :
    (rep = true → s.reportCapacity sl i rep rest = s) ∧ (s.overMarkFirst sl = none → s.reportCapacity sl i rep rest = s) ∧
    ∀ c, rep = false → s.overMarkFirst sl = some c → s.reportCapacity sl i rep rest =
      ({ s with queue := ⟨.swath i true, .waiting⟩ :: rest } : State).raiseCondition (.capacity i c) := by
  unfold State.reportCapacity State.overMarkFirst
  refine ⟨fun h => ?_, fun h => ?_, fun c h hc => ?_⟩
  · rw [h]
  · rw [h]
    cases rep <;> rfl
  · rw [h, hc]

theorem swathHolds_ink {s : State} {sl : Slot} : (s.swathHolds sl).ink = true ↔ ∃ c, (s.inkTest sl c).isInk = true := by
  show (channels.any fun c => (s.inkTest sl c).isInk) = true ↔ _
  rw [channels_any]

theorem swathHolds_capacity {s : State} {sl : Slot} : (s.swathHolds sl).capacity = true ↔ ∃ c, s.overMarkFirst sl = some c := by
  show (channels.any fun c => s.inkTest sl c = .capacity) = true ↔ _
  rw [channels_any, ← Option.isSome_iff_exists, State.overMarkFirst, List.find?_isSome]
  simp [mem_channels]

/-- The order that the swath's ink test of a channel gives. -/
def State.swathOrder (s : State) (sl : Slot) (c : Channel) : Option Request := s.gateOrder (s.inkTest sl c) c

theorem State.swathOrder_calls (s : State) (sl : Slot) (c : Channel) (r : Request) (h : s.swathOrder sl c = some r) : r.CallOf c :=
  State.gateOrder_calls h

theorem State.inkSent_pending {s : State} (inv : s.SupplyInv) (i : SlotIx) (rep : Bool) (rest : List Entry) :
    (s.inkSent i rep rest).service.pending = channels.foldl (fun p c => placed (s.swathOrder s.slots[i] c) p) s.service.pending := by
  have frame := s.reportCapacity_frame s.slots[i] i rep rest
  unfold State.inkSent
  rw [foldl_gateRequest_pending (fun c => s.inkTest s.slots[i] c) channels (inv.reportCapacity _ i rep rest), frame]
  rfl

/-- Where the swath is held for no reason, nothing is called for. -/
theorem swathOrder_of_clear {s : State} {sl : Slot} (h : s.swathHolds sl = {}) (c : Channel) : s.swathOrder sl c = none := by
  have ink : (s.swathHolds sl).ink = false := by rw [h]
  refine State.gateOrder_eq_none (.inl ?_)
  cases hx : (s.inkTest sl c).call with
  | none => rfl
  | some ka =>
    have : (s.swathHolds sl).ink = true := swathHolds_ink.2 ⟨c, InkTest.isInk_of_call hx⟩
    rw [ink] at this
    exact Bool.noConfusion this

/-- The requests that pend once a swath has been evaluated: its calls taken up, or, with nothing holding it, the CAPs withdrawn. -/
theorem evaluateSwath_pending {s : State} (inv : s.SupplyInv) (i : SlotIx) (rep : Bool) (rest : List Entry) :
    (s.swathHolds s.slots[i] = {} → (s.evaluateSwath i rep rest).service.pending =
      s.service.pending.filter fun r => !decide (r.op = .cap)) ∧
    (s.swathHolds s.slots[i] ≠ {} → (s.evaluateSwath i rep rest).service.pending =
      channels.foldl (fun p c => placed (s.swathOrder s.slots[i] c) p) s.service.pending) := by
  have sent := s.inkSent_pending inv i rep rest
  rw [State.evaluateSwath_eq]
  refine ⟨fun clear => ?_, fun held => ?_⟩
  · rw [if_pos ((Holds.isEmpty_iff _).2 clear)]
    rw [foldl_placed_of_absorbs (fun c r hr => by rw [swathOrder_of_clear clear] at hr; cases hr)] at sent
    exact congrArg (List.filter fun r : Request => !decide (r.op = .cap)) sent
  · rw [if_neg (mt (Holds.isEmpty_iff _).1 held)]
    exact sent

/-- What an evaluation of a swath writes: its hold reasons, the pass asked for with none, and its entry's flag (R24, R28). -/
theorem evaluateSwath_writes {s : State} {i : SlotIx} {rep : Bool} {rest : List Entry} (hq : s.queue = ⟨.swath i rep, .waiting⟩ :: rest) :
    (s.evaluateSwath i rep rest).holds = s.swathHolds s.slots[i] ∧
    ((s.evaluateSwath i rep rest).service.passAsked = true ↔ s.swathHolds s.slots[i] = {}) ∧
    (s.evaluateSwath i rep rest).queue = ⟨.swath i (rep || (s.swathHolds s.slots[i]).capacity), .waiting⟩ :: rest := by
  have queue : (s.inkSent i rep rest).queue = ⟨.swath i (rep || (s.swathHolds s.slots[i]).capacity), .waiting⟩ :: rest := by
    have sent : (s.inkSent i rep rest).queue = (s.reportCapacity s.slots[i] i rep rest).queue :=
      (Quiet.foldl (fun t c => Quiet.gateRequest t (s.inkTest s.slots[i] c) c) channels _).queue
    rw [sent]
    obtain ⟨again, none_, first⟩ := s.reportCapacity_eq s.slots[i] i rep rest
    cases rep with
    | true => rw [again rfl, hq]; rfl
    | false =>
      cases found : s.overMarkFirst s.slots[i] with
      | none =>
        have clear : (s.swathHolds s.slots[i]).capacity = false := by
          rw [Bool.eq_false_iff, ne_eq, swathHolds_capacity, found]
          nofun
        rw [none_ found, hq, clear]
        rfl
      | some c => rw [first c rfl found, swathHolds_capacity.2 ⟨c, found⟩]; rfl
  rw [State.evaluateSwath_eq]
  split
  next clear => exact ⟨rfl, iff_of_true rfl ((Holds.isEmpty_iff _).1 clear), queue⟩
  next held => exact ⟨rfl, iff_of_false Bool.false_ne_true (mt (Holds.isEmpty_iff _).2 held), queue⟩

end Sys2Proof.Machine
end

section
/-!
PROOFS. A second evaluation of the head entry changes none of the gate's inputs, and what the gate leaves of a WAITING head entry (R24 to
R31).
-/

-- One declaration at a time: side by side, the threads' stacks come near the memory limit of the check.
set_option Elab.async false

namespace Sys2Proof.Machine

/-! ## Inputs that stand (R24; log 32) -/

/-- What follows a state leaves the gate's inputs, requests and ladders apart. -/
theorem gateInputs_of_follows {s t : State} (h : Follows s t) (pending : t.service.pending = s.service.pending)
    (ladders : t.service.ladders = s.service.ladders) : t.gateInputs = s.gateInputs := by
  have head : t.queue.head?.map Entry.bare = s.queue.head?.map Entry.bare := by
    rw [← List.head?_map, ← List.head?_map, h.queue]
  have operation : t.service.inFlight = s.service.inFlight := by
    unfold Service.inFlight
    rw [h.holder]
  unfold State.gateInputs
  rw [head, operation, h.stop, h.feed, pending, ladders, h.scan, h.accounts, h.tables, h.stamps, h.capped]

theorem StationOp.aheadOfPass_of_covers {q r : Request} (h : q.covers r) (ahead : r.op.aheadOfPass = true) : q.op.aheadOfPass = true := by
  obtain ⟨m, rank, -, -⟩ := h
  cases hq : q.op <;> cases hr : r.op <;>
    simp_all [StationOp.matches, StationOp.refillChannel, StationOp.aheadOfPass, StationOp.rank]

section

variable {s : State} {i : SlotIx} {rep : Bool} {rest : List Entry}

theorem State.evaluate_swath (hq : s.queue = ⟨.swath i rep, .waiting⟩ :: rest) : s.evaluate = s.evaluateSwath i rep rest := by
  unfold State.evaluate
  rw [hq]

theorem swathOrder_evaluated (hq : s.queue = ⟨.swath i rep, .waiting⟩ :: rest) (sl : Slot) (c : Channel) :
    (s.evaluateSwath i rep rest).swathOrder sl c = s.swathOrder sl c := by
  have h := Follows.evaluateSwath s i rep rest hq
  have carts : (s.evaluateSwath i rep rest).carts = s.carts := by rw [(Evaluates.evaluateSwath hq).frame]
  unfold State.swathOrder
  rw [inkTest_congr h.now h.scan h.tables h.accounts h.stamps h.capped, State.gateOrder_congr (h.refills c).2 carts h.accounts]

/-- An evaluation changes no hold reason but SERVICE. -/
theorem swathHolds_evaluated (hq : s.queue = ⟨.swath i rep, .waiting⟩ :: rest) (sl : Slot) :
    (s.evaluateSwath i rep rest).swathHolds sl =
      { s.swathHolds sl with service := !(s.evaluateSwath i rep rest).swathService } := by
  have h := Follows.evaluateSwath s i rep rest hq
  unfold State.swathHolds State.orphanInFlight State.swathMedia
  simp only [h.stop, h.feed, pressuresFit_congr h.now h.scan h.tables, temperaturesFit_congr h.now h.scan h.tables,
    inkTest_congr h.now h.scan h.tables h.accounts h.stamps h.capped]

theorem swathHolds_service (s : State) (sl : Slot) : (s.swathHolds sl).service = !s.swathService := rfl

variable (inv : s.SupplyInv) (hq : s.queue = ⟨.swath i rep, .waiting⟩ :: rest)

include inv hq

theorem evaluateSwath_ladders : (s.evaluateSwath i rep rest).service.ladders = s.service.ladders := by
  rw [← State.evaluate_swath hq]
  exact (Tends.evaluate s).ladders inv

/-- The service condition of a swath can only be lost by what an evaluation places. -/
theorem swathService_evaluated (h : (s.evaluateSwath i rep rest).swathService = true) : s.swathService = true := by
  have follows := Follows.evaluateSwath s i rep rest hq
  rw [← Bool.not_eq_false] at h ⊢
  refine fun lost => h ?_
  rw [State.swathService_iff] at lost ⊢
  rcases lost with ⟨o, flying⟩ | ⟨q, mem, notCap, notRefill⟩ | ⟨c, step⟩
  · exact .inl ⟨o, follows.holder.trans flying⟩
  · obtain ⟨r, hr, covers⟩ := follows.requests q mem notCap
    have ahead := StationOp.aheadOfPass_of_covers covers ((StationOp.aheadOfPass_iff _).2 ⟨notCap, notRefill⟩)
    exact .inr (.inl ⟨r, hr, (StationOp.aheadOfPass_iff _).1 ahead⟩)
  · exact .inr (.inr ⟨c, by rw [evaluateSwath_ladders inv hq]; exact step⟩)

/-- The withdrawal of CAPs leaves the service condition. -/
theorem swathService_cleared (clear : s.swathHolds s.slots[i] = {}) : (s.evaluateSwath i rep rest).swathService = true := by
  have fits : s.swathService = true := by
    have : (s.swathHolds s.slots[i]).service = false := by rw [clear]
    rwa [swathHolds_service, Bool.not_eq_false'] at this
  rw [← Bool.not_eq_false] at fits ⊢
  refine fun lost => fits ?_
  rw [State.swathService_iff] at lost ⊢
  rw [(Follows.evaluateSwath s i rep rest hq).holder, (evaluateSwath_pending inv i rep rest).1 clear, evaluateSwath_ladders inv hq] at lost
  rcases lost with flying | ⟨q, mem, ahead⟩ | step
  · exact .inl flying
  · exact .inr (.inl ⟨q, (List.mem_filter.1 mem).1, ahead⟩)
  · exact .inr (.inr step)

/-- A second evaluation finds a hold reason where the first did. -/
theorem swathHolds_evaluated_empty :
    (s.evaluateSwath i rep rest).swathHolds s.slots[i] = {} ↔ s.swathHolds s.slots[i] = {} := by
  have holds := swathHolds_evaluated hq s.slots[i]
  refine ⟨fun clear => ?_, fun clear => ?_⟩
  · have fits : (s.evaluateSwath i rep rest).swathService = true := by
      have : ((s.evaluateSwath i rep rest).swathHolds s.slots[i]).service = false := by rw [clear]
      rwa [swathHolds_service, Bool.not_eq_false'] at this
    have service : (s.swathHolds s.slots[i]).service = false := by
      rw [swathHolds_service, swathService_evaluated inv hq fits]
      rfl
    have same : s.swathHolds s.slots[i] = { (s.evaluateSwath i rep rest).swathHolds s.slots[i] with
        service := (s.swathHolds s.slots[i]).service } := by rw [holds]
    rw [same, clear, service]
  · rw [holds, clear, swathService_cleared inv hq clear]
    rfl

/-- A second evaluation of a swath changes none of the gate's inputs. -/
theorem evaluateSwath_settles :
    (s.evaluateSwath i rep rest).evaluate.gateInputs = (s.evaluateSwath i rep rest).gateInputs := by
  have queue := (evaluateSwath_writes hq).2.2
  have formed : (s.evaluateSwath i rep rest).SupplyInv := by rw [← State.evaluate_swath hq]; exact inv.evaluate
  have first := evaluateSwath_pending inv i rep rest
  have clears := swathHolds_evaluated_empty inv hq
  have orders := swathOrder_evaluated hq s.slots[i]
  have slots : (s.evaluateSwath i rep rest).slots = s.slots := (Follows.evaluateSwath s i rep rest hq).slots
  generalize s.evaluateSwath i rep rest = w at *
  rw [State.evaluate_swath queue]
  have second := evaluateSwath_pending formed i (rep || (s.swathHolds s.slots[i]).capacity) rest
  rw [slots] at second
  refine gateInputs_of_follows (Follows.evaluateSwath w i _ rest queue) ?_ (evaluateSwath_ladders formed queue)
  by_cases clear : s.swathHolds s.slots[i] = {}
  · rw [second.1 (clears.2 clear), first.1 clear, List.filter_filter]
    simp
  · rw [second.2 (mt clears.1 clear)]
    refine foldl_placed_of_absorbs (fun c r hr => ?_) channels
    rw [first.2 clear]
    exact foldl_placed_absorbs (s.swathOrder_calls s.slots[i]) ((orders c).symm.trans hr) channels _ (.inl (mem_channels c))

end

/-- An evaluation that settles at once is the last, and it found the inputs that it left. -/
theorem evaluateAgain_settled {v : State} (h : v.evaluate.evaluate.gateInputs = v.evaluate.gateInputs) :
    ∃ w, (w = v ∨ w = v.evaluate) ∧ State.evaluateAgain 3 v = w.evaluate ∧ w.evaluate.gateInputs = w.gateInputs := by
  by_cases same : v.evaluate.gateInputs = v.gateInputs
  · exact ⟨v, .inl rfl, if_pos same, same⟩
  · exact ⟨v.evaluate, .inr rfl, (if_neg same).trans (if_pos h), h⟩

end Sys2Proof.Machine
end

section
/-!
PROOFS. What the gate leaves of a WAITING head entry where a step makes it evaluate (R24 to R31, R124).
-/

-- One declaration at a time: side by side, the threads' stacks come near the memory limit of the check.
set_option Elab.async false

namespace Sys2Proof.Machine

/-! ## The gate within the end of a step -/

/-- The end of a step after the gate: deductions sent, lamps formed, a return frame chosen. -/
def State.closed (g : State) : State := g.sendDeductions.reformLamps.chooseReturn

theorem finish_closed (s0 x : State) :
    State.finish true s0 x = (State.evaluateAgain 3 x.reformAll.idleGate).closed := by
  unfold State.finish State.runGate State.closed
  rw [Bool.true_or]
  exact congrArg (fun g : State => g.sendDeductions.reformLamps.chooseReturn) (if_pos rfl)

/-- What the end of a step after the gate leaves as the gate has set it. -/
theorem State.closed_frame (g : State) :
    g.closed.holds = g.holds ∧ g.closed.queue = g.queue ∧ g.closed.service = g.service ∧ g.closed.supply = g.supply ∧
      g.closed.gateInputs = g.gateInputs ∧ g.closed.now = g.now ∧ g.closed.scan = g.scan :=
  ⟨rfl, rfl, rfl, rfl, rfl, rfl, rfl⟩

theorem State.closed_latched (g : State) (k : Condition) :
    g.closed.lane.conditions.latched k = g.lane.conditions.latched k := Lane.choose_latched ..

theorem State.closed_reported (g : State) : g.lane.reported <+: g.closed.lane.reported :=
  (Follows.chooseReturn g.sendDeductions.reformLamps).events

/-- An evaluation that leaves requests and ladders is the last. -/
theorem evaluateAgain_once {v : State} (pending : v.evaluate.service.pending = v.service.pending)
    (ladders : v.evaluate.service.ladders = v.service.ladders) : State.evaluateAgain 3 v = v.evaluate :=
  if_pos (gateInputs_of_follows (Follows.evaluate v) pending ladders)

/-! ## ADVANCE and CUT entries (R30, R31, R124) -/

section

variable {s x u : State}

/-- From s to x nothing that a feed entry's conditions read has changed, and x leaves room for an event. -/
structure FeedStands (s x : State) : Prop where
  queue : x.queue = s.queue
  feed : x.feed = s.feed
  stop : x.stop = s.stop
  tables : x.tables = s.tables
  now : x.now = s.now
  room : s.lane.events.length ≤ 32 → x.lane.events.length < 64

section

variable (h : FeedStands s x)
include h

theorem FeedStands.advance (d : Nat) :
    x.advanceFigures d = s.advanceFigures d ∧ x.advanceMedia d = s.advanceMedia d ∧ x.advanceHolds d = s.advanceHolds d := by
  have figures : x.advanceFigures d = s.advanceFigures d := by
    unfold State.advanceFigures State.calibration
    rw [h.feed, h.tables]
  have media : x.advanceMedia d = s.advanceMedia d := by
    unfold State.advanceMedia
    rw [figures, h.feed]
  refine ⟨figures, media, ?_⟩
  unfold State.advanceHolds State.orphanInFlight
  rw [media, h.feed, h.stop]

theorem FeedStands.cut : x.cutHolds = s.cutHolds := by
  unfold State.cutHolds State.orphanInFlight State.dryDone
  rw [h.feed, h.stop, h.now]

end

theorem State.evaluate_advance {v : State} {d : Nat} {n r : Option Nat} {short : Bool} {rest : List Entry}
    (hq : v.queue = ⟨.advance d n r short, .waiting⟩ :: rest) : v.evaluate = v.evaluateAdvance d n r short rest := by
  unfold State.evaluate
  rw [hq]

/-- An advance held in TAIL OUT is told once; any other evaluation of it writes its hold reasons alone. -/
theorem evaluateAdvance_cases (v : State) (d : Nat) (n r : Option Nat) (short : Bool) (rest : List Entry) :
    ((v.advanceMedia d = false ∧ v.feed.path = .tailOut ∧ short = false) ∧ v.evaluateAdvance d n r short rest =
      ({ v with holds := v.advanceHolds d, queue := ⟨.advance d n r true, .waiting⟩ :: rest } : State).raise
        (.mediaShort .blocked d (v.advanceFigures d).1 (v.feed.remaining.getD 0))) ∨
    (¬ (v.advanceMedia d = false ∧ v.feed.path = .tailOut ∧ short = false) ∧
      v.evaluateAdvance d n r short rest = { v with holds := v.advanceHolds d }) := by
  unfold State.evaluateAdvance
  dsimp only
  have told : ((v.advanceHolds d).media && decide (v.feed.path = .tailOut) && !short) = true ↔
      v.advanceMedia d = false ∧ v.feed.path = .tailOut ∧ short = false := by
    simp [State.advanceHolds, and_assoc]
  split
  next h => exact .inl ⟨told.1 h, rfl⟩
  next h => exact .inr ⟨mt told.2 h, rfl⟩

theorem evaluateAdvance_service (v : State) (d : Nat) (n r : Option Nat) (short : Bool) (rest : List Entry) :
    (v.evaluateAdvance d n r short rest).service = v.service ∧ (v.evaluateAdvance d n r short rest).holds = v.advanceHolds d := by
  rcases evaluateAdvance_cases v d n r short rest with ⟨-, e⟩ | ⟨-, e⟩ <;> rw [e] <;> exact ⟨rfl, rfl⟩

/-- The state in which the gate finds a WAITING ADVANCE or CUT head entry. -/
theorem idleGate_waiting {u : State} {e : Entry} {rest : List Entry} (hq : u.queue = e :: rest) (waits : e.phase = .waiting)
    (feeds : ∀ i rep, e.job ≠ .swath i rep) : u.idleGate = u.passTaken := by
  unfold State.idleGate
  split
  next h => cases hq.symm.trans h
  next h =>
    cases hq.symm.trans h
    rw [if_neg (by rw [waits]; nofun)]
    split
    next i rep h => exact absurd h (feeds i rep)
    next => rfl

/-- The gate evaluates a WAITING ADVANCE head entry once. -/
theorem gated_advance {u : State} {d : Nat} {n r : Option Nat} {short : Bool} {rest : List Entry}
    (hq : u.queue = ⟨.advance d n r short, .waiting⟩ :: rest) :
    State.evaluateAgain 3 u.idleGate = u.passTaken.evaluateAdvance d n r short rest := by
  have evaluated := State.evaluate_advance (v := u.passTaken) hq
  have service := (evaluateAdvance_service u.passTaken d n r short rest).1
  rw [idleGate_waiting hq rfl (by nofun), evaluateAgain_once (by rw [evaluated, service]) (by rw [evaluated, service]), evaluated]

theorem State.evaluate_cut {v : State} {rest : List Entry} (hq : v.queue = ⟨.cut, .waiting⟩ :: rest) :
    v.evaluate = { v with holds := v.cutHolds } := by
  unfold State.evaluate
  rw [hq]

/-- The gate evaluates a WAITING CUT head entry once. -/
theorem gated_cut {u : State} {rest : List Entry} (hq : u.queue = ⟨.cut, .waiting⟩ :: rest) :
    State.evaluateAgain 3 u.idleGate = { u.passTaken with holds := u.passTaken.cutHolds } := by
  have evaluated := State.evaluate_cut (v := u.passTaken) hq
  rw [idleGate_waiting hq rfl (by nofun), evaluateAgain_once (by rw [evaluated]) (by rw [evaluated]), evaluated]

theorem FeedStands.tells {g : State} {e : Event} (h : FeedStands s u) (raised : g.lane = u.lane.raise u.now e) : s.tells g.closed e := by
  intro short
  refine g.closed_reported.subset (List.mem_append_right _ ?_)
  rw [raised, Lane.raise_events, if_pos (h.room short), h.now]
  exact List.mem_append_right _ (List.mem_singleton.2 rfl)

/-- What the end of a step leaves of a feed entry that u finds WAITING, u being the state after the supply states are formed. -/
theorem FeedStands.evaluated (h : FeedStands s u) : FeedHeadEvaluated s (State.evaluateAgain 3 u.idleGate).closed where
  advance d n r short rest hq := by
    intro counts fits blocked
    obtain ⟨figures, media, holds⟩ := h.advance d
    have fits_iff : s.advanceMedia d = true ↔ fits := s.advanceMedia_iff d
    have hu := h.queue.trans hq
    rw [gated_advance hu]
    obtain ⟨held, queue, service, -⟩ := (u.passTaken.evaluateAdvance d n r short rest).closed_frame
    rw [held, queue, service, (evaluateAdvance_service ..).1, (evaluateAdvance_service ..).2]
    have held' : u.passTaken.advanceHolds d = s.advanceHolds d := holds
    rw [held']
    refine ⟨rfl, s.orphanInFlight_iff, ?_, rfl, ?_⟩
    · rw [← fits_iff]
      exact iff_of_eq (by simp [State.advanceHolds])
    rcases evaluateAdvance_cases u.passTaken d n r short rest with ⟨⟨lost, tail, untold⟩, e⟩ | ⟨no, e⟩
    · have isBlocked : blocked := ⟨h.feed ▸ tail, fun f => by
        have := fits_iff.2 f
        rw [← media] at this
        cases this.symm.trans lost⟩
      refine ⟨fun free => absurd isBlocked free, fun _ => ⟨by rw [e]; rfl, fun _ => ?_⟩⟩
      have counted : (u.advanceFigures d).1 = counts := congrArg Prod.fst figures
      have remaining : u.feed.remaining = s.feed.remaining := by rw [h.feed]
      rw [← counted, ← remaining]
      exact h.tells (by rw [e]; rfl)
    · have told : blocked → short = true := fun ⟨tail, unfit⟩ => by
        by_contra untold
        refine no ⟨?_, (congrArg Feed.path h.feed).trans tail, by simpa using untold⟩
        rw [← fits_iff, ← media] at unfit
        exact Bool.not_eq_true _ ▸ unfit
      have stays : (u.passTaken.evaluateAdvance d n r short rest).queue = ⟨.advance d n r short, .waiting⟩ :: rest := by rw [e]; exact hu
      refine ⟨fun _ => stays.trans hq.symm, fun isBlocked => ?_⟩
      have := told isBlocked
      subst this
      exact ⟨stays, nofun⟩
  cut rest hq := by
    have hu := h.queue.trans hq
    rw [gated_cut hu]
    obtain ⟨held, queue, service, -⟩ := ({ u.passTaken with holds := u.passTaken.cutHolds } : State).closed_frame
    rw [held, queue, service]
    have holds : u.passTaken.cutHolds = s.cutHolds := h.cut
    show u.queue = s.queue ∧ _
    dsimp only
    rw [holds]
    refine ⟨h.queue, rfl, rfl, ?_, ?_, ?_⟩
    · rw [← s.orphanInFlight_iff]
      exact iff_of_eq (by simp [State.cutHolds])
    · exact iff_of_eq (by simp [State.cutHolds, or_iff_not_imp_left])
    · rw [← not_iff_not, Bool.not_eq_true]
      refine Iff.trans ?_ ((s.dryDone_iff).trans (by simp))
      exact iff_of_eq (by simp [State.cutHolds])

/-- What a step whose blocks end in x, the gate then evaluating, leaves of a WAITING ADVANCE or CUT head entry. -/
theorem FeedStands.finish (h : FeedStands s x) (short : s.lane.events.length ≤ 32 → x.lane.events.length < 52) (s0 : State) :
    FeedHeadEvaluated s (State.finish true s0 x) := by
  have quiet := Quiet.reformAll x
  have stands : FeedStands s x.reformAll := by
    generalize x.reformAll = u at quiet
    refine ⟨quiet.queue.trans h.queue, quiet.feed.trans h.feed, quiet.stop.trans h.stop, quiet.tables.trans h.tables,
      quiet.now.trans h.now, fun hs => ?_⟩
    have := quiet.lane.length_le
    have := short hs
    omega
  rw [finish_closed]
  exact stands.evaluated

end

end Sys2Proof.Machine
end

section
/-!
PROOFS. Conversions and stale results (R140 to R147).
-/

-- One declaration at a time: side by side, the threads' stacks come near the memory limit of the check.
set_option Elab.async false

namespace Sys2Proof.Machine

section

variable {s : State} {i : AIn} {raw : Nat}

/-- A conversion stored and the mark watched (R140, R63). -/
def State.sampled (s : State) (i : AIn) (raw : Nat) : State :=
  (s.resultStored i (scaled s.tables.scan[i] raw)).watchMark i (scaled s.tables.scan[i] raw)

theorem State.sampled_frame (s : State) (i : AIn) (raw : Nat) : s.sampled i raw = { s with
    scan := { s.scan with results := setAt s.scan.results i ⟨scaled s.tables.scan[i] raw, some s.now, true⟩, sweep := s.scan.after i }
    supply := (s.sampled i raw).supply } := by
  unfold State.sampled State.watchMark
  split <;> rfl

theorem State.sampled_refill (s : State) (i : AIn) (raw : Nat) (c : Channel) :
    (s.sampled i raw).supply[c].refill = s.supply[c].refill.map fun k =>
      if i.val = 9 ∧ s.tables.service.markThreshold < scaled s.tables.scan[i] raw ∧ k.inStroke = true then { k with markSeen := true } else k := by
  have nine : i = 9 ↔ i.val = 9 := Fin.ext_iff
  unfold State.sampled State.watchMark
  split
  next h =>
    refine (congrArg Supply.refill (Vector.getElem_map ..)).trans (congrArg (s.supply[c].refill.map ·) (funext fun k => ?_))
    have above : s.tables.service.markThreshold < scaled s.tables.scan[i] raw := h.2
    by_cases stroke : k.inStroke = true
    · rw [if_pos stroke, if_pos ⟨nine.1 h.1, above, stroke⟩]
    · rw [if_neg stroke, if_neg fun hk => stroke hk.2.2]
  next h =>
    have never : ¬ (i.val = 9 ∧ s.tables.service.markThreshold < scaled s.tables.scan[i] raw) := by rwa [← nine]
    refine Eq.symm ((congrArg (s.supply[c].refill.map ·) (funext fun k => if_neg fun hk => never ⟨hk.1, hk.2.1⟩)).trans ?_)
    simp [State.resultStored]

theorem Scan.after_eq (v : Scan) (i : AIn) : v.after i = if i ≠ v.endIn then some ⟨(i.val + 1) % 12, by omega⟩
    else if v.mode = .continuous then some v.startIn else none := by
  have next : i + 1 = ⟨(i.val + 1) % 12, by omega⟩ := Fin.ext (by simp [Fin.val_add])
  unfold Scan.after
  by_cases h : i = v.endIn
  · rw [if_pos h, if_neg (not_not.2 h)]
  · rw [if_neg h, if_pos h, next]

theorem scaled_eq (r : ScanRec) (raw : Nat) : scaled r raw = r.offset + Int.fdiv ((raw : Int) * r.gain) 4096 := by
  unfold scaled
  rw [Int.fdiv_eq_ediv_of_nonneg _ (by decide)]

theorem pressureChannel_eq_some {i : AIn} {c : Channel} : pressureChannel i = some c ↔ pressureInput c = i := by
  unfold pressureChannel pressureInput
  rw [Option.dite_none_right_eq_some, Fin.ext_iff]
  simp only [Option.some.injEq, Fin.ext_iff]
  have := c.isLt
  constructor
  · rintro ⟨h, e⟩; omega
  · intro h; exact ⟨by omega, by omega⟩

/-- A pressure is guarded where one of the channels that it measures is outside its window during a pass. -/
theorem State.guardPressure_of_inside (s : State) (i : AIn) (v : Int) (inside : s.pass = none ∨
    (∀ c : Channel, ¬ (pressureInput c = i ∧ (v < s.tables.channel[c].stopLow ∨ s.tables.channel[c].stopHigh < v))) ∨ s.stop.set = true) :
    s.guardPressure i v = s := by
  unfold State.guardPressure
  split
  next c hc =>
    split
    next h =>
      rw [Bool.and_eq_true, Bool.or_eq_true, decide_eq_true_eq, decide_eq_true_eq] at h
      rcases inside with none | all | stopped
      · rw [none] at h; cases h.1
      · exact absurd ⟨pressureChannel_eq_some.1 hc, h.2⟩ (all c)
      · rw [State.setStop_eq, if_pos stopped]
    next => rfl
  next => rfl

theorem State.guardPressure_of_outside {s : State} {i : AIn} {v : Int} {c : Channel} {p : PassContext} (measures : pressureInput c = i)
    (outside : v < s.tables.channel[c].stopLow ∨ s.tables.channel[c].stopHigh < v) (hp : s.pass = some p) :
    s.guardPressure i v = s.setStop (.pressure c) := by
  unfold State.guardPressure
  rw [pressureChannel_eq_some.2 measures]
  refine if_pos ?_
  rw [hp, Bool.and_eq_true, Bool.or_eq_true, decide_eq_true_eq, decide_eq_true_eq]
  exact ⟨rfl, outside⟩

end

/-- What a stop during a pass leaves (R159). -/
theorem stops_pass {s t : State} {p : PassContext} {cause : StopCause} (hp : s.pass = some p) (clear : s.stop.set = false)
    (follows : Follows (s.setStop cause) t) : t.scan = s.scan ∧ t.stop = ⟨true, some cause⟩ ∧ t.pass = none ∧ t.driveEnable = false ∧
      t.slots[p.slot] = blankSlot ∧ s.tells t (.forcedStop cause s.now (some p.slot)) ∧ t.tables = s.tables ∧ t.store = s.store := by
  have all := (Follows.setStop_pass hp clear cause).trans follows
  unfold State.passCharged at all
  generalize (s.latched cause).passSettled p = y at all
  refine ⟨all.scan, all.stop, all.pass, all.driveEnable, ?_, fun room => ?_, all.tables, all.store⟩
  · rw [all.slots]
    exact (getElem_setAt ..).trans (if_pos rfl)
  · have told := State.mem_raise { s with stop := ⟨true, some cause⟩, driveEnable := false }
      (.forcedStop cause s.now (s.pass.map (·.slot))) (Nat.lt_of_le_of_lt room (by decide))
    have event : Event.forcedStop cause s.now (s.pass.map (·.slot)) = .forcedStop cause s.now (some p.slot) := by
      rw [hp]; rfl
    rw [← event]
    exact all.events.subset (List.mem_append_right _ told)

/-- A conversion that stops nothing. -/
theorem conversion_settles {s x : State} {scan : Scan} {sup : Vector Supply 6} (hx : x = { s with scan := scan, supply := sup }) :
    ∃ t, ends true s x = .next t ∧ Follows { s with scan := scan, supply := t.supply } t ∧ FeedHeadEvaluated s t ∧
      ∀ c : Channel, t.supply[c].refill = sup[c].refill := by
  obtain ⟨t, ht, follows⟩ := ends_follows true s x
  have stands : FeedStands s x := by
    refine ⟨?_, ?_, ?_, ?_, ?_, fun short => ?_⟩ <;> rw [hx]
    dsimp only
    omega
  have lane : x.lane = s.lane := by rw [hx]
  have feeds : FeedHeadEvaluated s t :=
    Host.Outcome.next.inj ht ▸ stands.finish (fun short => by rw [lane]; omega) s
  refine ⟨t, ht, ?_, feeds, ?_⟩
  all_goals subst hx
  · exact { follows with refills := fun _ => ⟨rfl, rfl⟩ }
  · exact fun c => (follows.refills c).1

theorem conversionEnd_eq {s : State} {i : AIn} (sweeps : s.scan.sweep = some i) (raw : Nat) :
    exec (.conversionEnd raw) s = ends true s ((s.sampled i raw).guardPressure i (scaled s.tables.scan[i] raw)) := by
  show execConversionEnd raw s = _
  unfold execConversionEnd
  rw [sweeps]
  exact congrArg (ends true s) (s.converted_eq i raw)

theorem resultStaleExpiry_waits {s : State} {i : AIn} (waits : s.scan.results[i].valid = false ∨ s.scan.results[i].convertedAt = none ∨
    ∃ a, s.scan.results[i].convertedAt = some a ∧ s.now < a + s.tables.scan[i].maxAge) : exec (.resultStaleExpiry i) s = .next s := by
  show execResultStaleExpiry i s = _
  unfold execResultStaleExpiry
  split
  next a valid at_ =>
    rcases waits with stale | never | ⟨b, hb, early⟩
    · cases stale.symm.trans valid
    · cases never.symm.trans at_
    · cases hb.symm.trans at_
      exact if_neg (Nat.not_le.2 early)
  next => rfl

theorem resultStaleExpiry_due {s : State} {i : AIn} {a : Nat} (valid : s.scan.results[i].valid = true)
    (converted : s.scan.results[i].convertedAt = some a) (due : a + s.tables.scan[i].maxAge ≤ s.now) :
    exec (.resultStaleExpiry i) s = ends false s (s.makeStale i) := by
  show execResultStaleExpiry i s = _
  unfold execResultStaleExpiry
  split
  next b _ hb =>
    cases converted.symm.trans hb
    exact if_pos due
  next no => exact absurd converted (no a valid)

theorem makeStale_follows (s : State) (i : AIn) : Follows (s.resultStale i) (s.makeStale i) := by
  rw [State.makeStale_eq]
  exact (Follows.raise ..).trans (.raiseCondition ..)

/-- Settles O42. -/
theorem conversionsAndStaleness : Obligations.ConversionsAndStaleness := by
  refine ⟨fun s raw => ⟨fun idle => ?idle, fun i sweeps => ?converts⟩, fun s i => ⟨resultStaleExpiry_waits, fun a valid converted due => ?stale⟩⟩
  case idle =>
    show execConversionEnd raw s = _
    unfold execConversionEnd
    rw [idle]
  case converts =>
    intro v scan outside
    have hv : scaled s.tables.scan[i] raw = v := scaled_eq ..
    have run := conversionEnd_eq sweeps raw
    have frame : s.sampled i raw = { s with scan := scan, supply := (s.sampled i raw).supply } := by
      rw [s.sampled_frame, hv, Scan.after_eq]
    have refill := s.sampled_refill i raw
    rw [hv] at run refill
    generalize s.sampled i raw = x at run frame refill
    have pass : x.pass = s.pass := by rw [frame]
    have tables : x.tables = s.tables := by rw [frame]
    have stop : x.stop = s.stop := by rw [frame]
    refine ⟨fun inside => ?_, fun c p out hp clear => ?_⟩
    · rw [State.guardPressure_of_inside x i v (by rw [pass, tables, stop]; exact inside)] at run
      obtain ⟨t, ht, follows, feeds, refills⟩ := conversion_settles frame
      exact ⟨t, run.trans ht, follows, feeds, fun c => (refills c).trans (refill c)⟩
    · rw [State.guardPressure_of_outside out.1 (by rw [tables]; exact out.2) (pass.trans hp)] at run
      obtain ⟨t, ht, follows⟩ := ends_follows true s (x.setStop (.pressure c))
      obtain ⟨hscan, hstop, hpass, drive, slot, told, htab, hstore⟩ := stops_pass (pass.trans hp) (stop ▸ clear) follows
      rw [frame] at hscan told htab hstore
      exact ⟨t, run.trans ht, hscan, hstop, hpass, drive, slot, told, htab, hstore⟩
  case stale =>
    obtain ⟨t, ht, follows⟩ := ends_follows false s (s.makeStale i)
    have all := (makeStale_follows s i).trans follows
    refine ⟨t, (resultStaleExpiry_due valid converted due).trans ht, all, ?_, fun room => ?_⟩
    · refine follows.latched .sensorStale ?_
      rw [State.makeStale_eq]
      exact Lane.raiseCondition_latched _ (.sensorStale i) _
    · refine follows.events.subset (List.mem_append_right _ ?_)
      rw [State.makeStale_eq, converted]
      refine (Quiet.raiseCondition _ _).lane.mem ?_
      exact State.mem_raise (s.resultStale i) _ (Nat.lt_of_le_of_lt room (by decide))

end Sys2Proof.Machine
end

section
/-!
PROOFS. What the gate leaves of a WAITING SWATH head entry where a step makes it evaluate (R24 to R28).
-/

-- One declaration at a time: side by side, the threads' stacks come near the memory limit of the check.
set_option Elab.async false

namespace Sys2Proof.Machine

/-! ## The ink need that the gate records (R27, R60) -/

/-- A recorded need that stands for the gate's call of a channel that fails the ink test with the estimate e. -/
def GateNeed (n : Option Need) (known : Bool) (e : Nat) : Prop :=
  ∃ m, n = some m ∧ m.origins.gate = true ∧ (known = false → m.kind = .fill) ∧ (m.kind = .urgent → ∃ a, m.amount = some a ∧ e ≤ a)

theorem Need.join_gate (old : Option Need) (known : Bool) (e : Nat) :
    GateNeed (some (Need.join old ⟨if known then .urgent else .fill, if known then some e else none, byGate⟩)) known e := by
  refine ⟨_, rfl, ?_⟩
  cases old with
  | none => cases known <;> simp [Need.join, byGate]
  | some o =>
    obtain ⟨kind, amount, origins⟩ := o
    refine ⟨by simp [Need.join, Origins.union, byGate], ?_, ?_⟩
    · rintro rfl
      simp [Need.join]
    · cases known
      · simp [Need.join]
      · intro urgent
        cases amount with
        | none => exact ⟨e, rfl, le_rfl⟩
        | some a => exact ⟨max a e, rfl, le_max_right a e⟩

section

variable {s : State} {c : Channel}

/-- The call of a channel that fails the ink test. -/
theorem InkShort.call {sl : Slot} {known : Bool} {e : Nat} (h : inkShort s sl c known e) :
    (s.inkTest sl c).call = some (if known then .urgent else .fill, if known then some e else none) ∧
      s.refillKind c (if known then .urgent else .fill) = if known then .urgent else .fill := by
  cases known with
  | false =>
    have unknown : s.inkTest sl c = .unknown := inkTest_eq_unknown.2 ⟨e, h⟩
    rw [unknown]
    exact ⟨rfl, by unfold State.refillKind; simp⟩
  | true =>
    have short : s.inkTest sl c = .short e := inkTest_eq_short.2 h
    rw [short]
    exact ⟨rfl, by unfold State.refillKind; rw [h.2.2.2.2.1]; rfl⟩

/-- What follows a state leaves the estimates, levels and marks that its channels are tested by. -/
theorem inkShort_of_follows {t : State} (h : Follows s t) (sl : Slot) (known : Bool) (e : Nat) :
    inkShort t sl c known e ↔ inkShort s sl c known e := by
  unfold inkShort
  rw [← State.estimate_eq, ← State.estimate_eq, estimate_congr h.now h.scan h.tables h.stamps h.capped,
    State.fresh_congr h.now h.scan h.tables, h.tables, h.accounts]

theorem overMark_of_follows {t : State} (h : Follows s t) (sl : Slot) : overMark t sl c ↔ overMark s sl c := by
  unfold overMark
  rw [← State.estimate_eq, ← State.estimate_eq, estimate_congr h.now h.scan h.tables h.stamps h.capped,
    State.fresh_congr h.now h.scan h.tables, h.tables]

/-- A call that no cartridge serves is recorded (R60). -/
theorem gateRequest_needs {t : State} {known : Bool} {e : Nat} {x : InkTest}
    (call : x.call = some (if known then .urgent else .fill, if known then some e else none))
    (kind : t.refillKind c (if known then .urgent else .fill) = if known then .urgent else .fill)
    (mark : t.supply[c].faultMark = false) (unable : t.canSupply c = false) :
    GateNeed (t.gateRequest x c).supply[c].need known e := by
  have recorded : (t.gateRequest x c).supply[c].need =
      some (Need.join t.supply[c].need ⟨if known then .urgent else .fill, if known then some e else none, byGate⟩) := by
    rw [State.gateRequest_eq, call]
    show ((t.requestRefill c _ _ byGate).reformSupply c).supply[c].need = _
    rw [State.reformSupply_need, State.requestRefill_gate, mark, unable, kind, if_neg (by decide), if_neg (by decide),
      if_pos (by cases known <;> decide)]
    exact congrArg Supply.need (modifyAt_self ..)
  rw [recorded]
  exact Need.join_gate ..

/-- A call for another channel leaves the need. -/
theorem gateRequest_need_ne (t : State) (x : InkTest) {d : Channel} (h : c ≠ d) :
    (t.gateRequest x d).supply[c].need = t.supply[c].need := by
  rw [State.gateRequest_eq]
  split
  · rw [State.reformSupply_need, t.requestRefill_supply_ne h]
  · rfl

/-- The calls of all channels record the need of one that fails the ink test without a cartridge that can supply. -/
theorem foldl_gateRequest_needs {tests : Channel → InkTest} {known : Bool} {e : Nat}
    (call : (tests c).call = some (if known then .urgent else .fill, if known then some e else none)) (cs : List Channel) {t : State}
    (kind : t.refillKind c (if known then .urgent else .fill) = if known then .urgent else .fill)
    (mark : t.supply[c].faultMark = false) (unable : t.canSupply c = false) (found : c ∈ cs ∨ GateNeed t.supply[c].need known e) :
    GateNeed (cs.foldl (fun t c => t.gateRequest (tests c) c) t).supply[c].need known e := by
  induction cs generalizing t with
  | nil => exact found.resolve_left List.not_mem_nil
  | cons d cs ih =>
    have quiet := Quiet.gateRequest t (tests d) d
    refine ih (t := t.gateRequest (tests d) d) ?_ ((quiet.refills c).2.trans mark) ?_ ?_
    · unfold State.refillKind at kind ⊢
      rwa [quiet.accounts]
    · unfold State.canSupply at unable ⊢
      rwa [quiet.carts]
    by_cases e : c = d
    · subst e
      exact .inr (gateRequest_needs call kind mark unable)
    · rw [gateRequest_need_ne t _ e]
      exact found.imp_left fun h => (List.mem_cons.1 h).resolve_left e

end

/-! ## One evaluation (R24, R27, R28) -/

section

variable {w : State} {i : SlotIx} {rep : Bool} {rest : List Entry}

theorem evaluateSwath_lane_supply (w : State) (i : SlotIx) (rep : Bool) (rest : List Entry) :
    (w.evaluateSwath i rep rest).lane = (w.inkSent i rep rest).lane ∧ (w.evaluateSwath i rep rest).supply = (w.inkSent i rep rest).supply := by
  rw [State.evaluateSwath_eq]
  split <;> exact ⟨rfl, rfl⟩

variable {c : Channel} {known : Bool} {e : Nat} (short : inkShort w w.slots[i] c known e) (mark : w.supply[c].faultMark = false)

include short mark

theorem evaluateSwath_sends (inv : w.SupplyInv) (able : w.canSupply c = true) :
    ∃ q ∈ (w.evaluateSwath i rep rest).service.pending, q.covers ⟨if known then .urgentRefill c else .fillToMark c, none, byGate⟩ ∧
      (q.op = .urgentRefill c → ∃ a, q.amount = some a ∧ e ≤ a) := by
  obtain ⟨call, kind⟩ := InkShort.call short
  have order := State.gateOrder_of_call call mark able
  rw [kind] at order
  have held : w.swathHolds w.slots[i] ≠ {} := fun clear => by
    have none' := swathOrder_of_clear clear c
    cases none'.symm.trans order
  rw [(evaluateSwath_pending inv i rep rest).2 held]
  obtain ⟨q, mem, covers, amount⟩ := (foldl_placed_absorbs (w.swathOrder_calls w.slots[i]) order channels w.service.pending
    (.inl (mem_channels c))).pending c
  refine ⟨q, mem, ?_, fun urgent => ?_⟩
  · cases known <;> exact covers
  · obtain ⟨notFill, asked⟩ := amount urgent
    cases known with
    | false => exact absurd rfl notFill
    | true => exact asked e rfl

theorem evaluateSwath_needs (unable : w.canSupply c = false) : GateNeed (w.evaluateSwath i rep rest).supply[c].need known e := by
  obtain ⟨call, kind⟩ := InkShort.call short
  rw [(evaluateSwath_lane_supply w i rep rest).2]
  have frame := w.reportCapacity_frame w.slots[i] i rep rest
  unfold State.inkSent
  generalize w.reportCapacity w.slots[i] i rep rest = r at frame ⊢
  refine foldl_gateRequest_needs (tests := fun c => w.inkTest w.slots[i] c) call channels ?_ ?_ ?_ (.inl (mem_channels c))
  · unfold State.refillKind at kind ⊢
    rwa [show r.accounts = w.accounts by rw [frame]]
  · rwa [show r.supply = w.supply by rw [frame]]
  · unfold State.canSupply at unable ⊢
    rwa [show r.carts = w.carts by rw [frame]]

end

section

variable {w : State} {i : SlotIx} {rest : List Entry}

/-- CAPACITY already reported is not raised again. -/
theorem evaluateSwath_once (w : State) (i : SlotIx) (rest : List Entry) :
    (w.evaluateSwath i true rest).lane.conditions.latched .capacity = w.lane.conditions.latched .capacity := by
  rw [(evaluateSwath_lane_supply w i true rest).1]
  unfold State.inkSent
  rw [(w.reportCapacity_eq w.slots[i] i true rest).1 rfl]
  exact (Reforms.foldl (f := fun t c => t.gateRequest (w.inkTest w.slots[i] c) c) (fun t c => .gateRequest t _ c) channels w).clear .capacity (by decide)

theorem channels_split : ∀ c : Channel, channels = channels.take c.val ++ c :: channels.drop (c.val + 1) ∧
    ∀ d ∈ channels.take c.val, d.val < c.val := by decide

theorem overMarkFirst_eq_some {s : State} {sl : Slot} {c : Channel} (h : overMark s sl c)
    (first : ∀ d : Channel, d.val < c.val → ¬ overMark s sl d) : s.overMarkFirst sl = some c := by
  obtain ⟨split, below⟩ := channels_split c
  refine List.find?_eq_some_iff_append.2 ⟨decide_eq_true (inkTest_eq_capacity.2 h), _, _, split, fun d hd => ?_⟩
  rw [Bool.not_eq_true', decide_eq_false_iff_not, inkTest_eq_capacity]
  exact first d (below d hd)

/-- CAPACITY not yet reported is raised for the lowest channel that shows it. -/
theorem evaluateSwath_raises {c : Channel} (h : overMark w w.slots[i] c) (first : ∀ d : Channel, d.val < c.val → ¬ overMark w w.slots[i] d) :
    (w.evaluateSwath i false rest).lane.conditions.latched .capacity = true ∧
      (w.lane.conditions.latched .capacity = false → w.lane.events.length < 64 →
        ⟨w.now, .condition (.capacity i c)⟩ ∈ (w.evaluateSwath i false rest).lane.reported) := by
  rw [(evaluateSwath_lane_supply w i false rest).1]
  unfold State.inkSent
  rw [(w.reportCapacity_eq w.slots[i] i false rest).2.2 c rfl (overMarkFirst_eq_some h first)]
  have follows := Follows.foldl (fun t c => t.gateRequest (w.inkTest w.slots[i] c) c) (fun t c => .gateRequest t _ c) channels
    (({ w with queue := ⟨.swath i true, .waiting⟩ :: rest } : State).raiseCondition (.capacity i c))
  refine ⟨follows.latched .capacity (Lane.raiseCondition_latched _ (.capacity i c) _), fun clear room => ?_⟩
  refine follows.events.subset (List.mem_append_right _ ?_)
  exact State.mem_raiseCondition ({ w with queue := ⟨.swath i true, .waiting⟩ :: rest } : State) (.capacity i c) clear room

end

/-! ## The last evaluation (R24; log 32) -/

section

variable {s u : State} {i : SlotIx} {rep : Bool} {rest : List Entry} (inv : u.SupplyInv)
  (hq : u.queue = ⟨.swath i rep, .waiting⟩ :: rest)

/-- A WAITING SWATH head entry is evaluated as the step finds it. -/
theorem idleGate_swath (hq : u.queue = ⟨.swath i rep, .waiting⟩ :: rest) : u.idleGate = u := by
  unfold State.idleGate
  split
  next h => cases hq.symm.trans h
  next h =>
    cases hq.symm.trans h
    rw [if_neg (by nofun)]

/-- The last evaluation at a step's end: of the state u as the step has left it, or of u evaluated once. -/
inductive LastFound (u : State) (i : SlotIx) (rep : Bool) (rest : List Entry) : State → Bool → Prop
  | once : LastFound u i rep rest u rep
  | again : LastFound u i rep rest (u.evaluateSwath i rep rest) (rep || (u.swathHolds u.slots[i]).capacity)

include inv hq

theorem LastFound.found {w : State} {rep' : Bool} (h : LastFound u i rep rest w rep') :
    w.SupplyInv ∧ Follows u w ∧ w.carts = u.carts ∧ w.queue = ⟨.swath i rep', .waiting⟩ :: rest ∧
      (rep' || (w.swathHolds u.slots[i]).capacity) = (rep || (w.swathHolds u.slots[i]).capacity) := by
  cases h with
  | once => exact ⟨inv, .refl u, rfl, hq, rfl⟩
  | again =>
    have carts : (u.evaluateSwath i rep rest).carts = u.carts := by rw [(Evaluates.evaluateSwath hq).frame]
    refine ⟨State.evaluate_swath hq ▸ inv.evaluate, .evaluateSwath u i rep rest hq, carts, (evaluateSwath_writes hq).2.2, ?_⟩
    rw [swathHolds_evaluated hq]
    dsimp only
    cases rep <;> cases (u.swathHolds u.slots[i]).capacity <;> rfl

theorem gate_lastFound : ∃ w rep', LastFound u i rep rest w rep' ∧
    State.evaluateAgain 3 u.idleGate = w.evaluateSwath i rep' rest ∧
      (w.evaluateSwath i rep' rest).gateInputs = w.gateInputs := by
  have settles := evaluateSwath_settles inv hq
  rw [idleGate_swath hq]
  rw [← State.evaluate_swath hq] at settles
  obtain ⟨w, rfl | rfl, last, inputs⟩ := evaluateAgain_settled settles
  · refine ⟨w, rep, .once, ?_⟩
    rw [last, ← State.evaluate_swath hq]
    exact ⟨rfl, inputs⟩
  · have queue := (LastFound.found inv hq .again).2.2.2.1
    refine ⟨_, _, .again, ?_⟩
    rw [← State.evaluate_swath queue, last, ← State.evaluate_swath hq]
    exact ⟨rfl, inputs⟩

omit inv hq in
theorem LastFound.once_reported {w : State} {rep' : Bool} (h : LastFound u i true rest w rep') :
    rep' = true ∧ w.lane.conditions.latched .capacity = u.lane.conditions.latched .capacity := by
  cases h with
  | once => exact ⟨rfl, rfl⟩
  | again => exact ⟨Bool.true_or _, evaluateSwath_once u i rest⟩

omit hq in
/-- CAPACITY stands for the lowest channel that shows it, and is told where it was not latched. -/
theorem LastFound.raises (hq : u.queue = ⟨.swath i false, .waiting⟩ :: rest) {w : State} {rep' : Bool} (found : LastFound u i false rest w rep') {c : Channel}
    (h : overMark u u.slots[i] c) (first : ∀ d : Channel, d.val < c.val → ¬ overMark u u.slots[i] d) :
    (w.evaluateSwath i rep' rest).lane.conditions.latched .capacity = true ∧
      (u.lane.conditions.latched .capacity = false → u.lane.events.length < 64 →
        ⟨u.now, .condition (.capacity i c)⟩ ∈ (w.evaluateSwath i rep' rest).lane.reported) := by
  have raised := evaluateSwath_raises (rest := rest) h first
  have queue := (found.found inv hq).2.2.2.1
  cases found with
  | once => exact raised
  | again =>
    have step := Follows.evaluateSwath _ i _ rest queue
    exact ⟨step.latched .capacity raised.1, fun clear room => step.events.subset (raised.2 clear room)⟩

/-- What the end of a step leaves of a swath that u finds WAITING, u being the state after the supply states are formed. -/
theorem swath_evaluated (follows : Follows s u) (carts : u.carts = s.carts)
    (latched : u.lane.conditions.latched .capacity = s.lane.conditions.latched .capacity)
    (room : s.lane.events.length ≤ 32 → u.lane.events.length < 64) :
    SwathEvaluated s (State.evaluateAgain 3 u.idleGate).closed i rep rest := by
  obtain ⟨w, rep', found, last, inputs⟩ := gate_lastFound inv hq
  obtain ⟨formed, after, carts', queue, flag⟩ := found.found inv hq
  have whole := follows.trans after
  have slot : w.slots[i] = s.slots[i] := by rw [whole.slots]
  have writes := evaluateSwath_writes queue
  have step := Follows.evaluateSwath w i rep' rest queue
  have able (c : Channel) : w.canSupply c = s.canSupply c := by
    unfold State.canSupply
    rw [carts', carts]
  have short {c : Channel} {known : Bool} {e : Nat} (h : inkShort s s.slots[i] c known e) : inkShort w w.slots[i] c known e := by
    rw [slot]
    exact (inkShort_of_follows whole _ _ _).2 h
  rw [last]
  obtain ⟨held, kept, service, supply, sameInputs, now, scan⟩ := (w.evaluateSwath i rep' rest).closed_frame
  have latched' := (w.evaluateSwath i rep' rest).closed_latched
  have reported := (w.evaluateSwath i rep' rest).closed_reported
  rw [slot] at writes
  exact {
    held := by
      have same := swathHolds_of_inputs (now.trans step.now) (scan.trans step.scan) (sameInputs.trans inputs) s.slots[i]
      rw [held, writes.1, ← same]
      exact swathHolds_heldBy _ _
    asked := by
      rw [held, service, writes.1]
      exact writes.2.1
    queue := by
      rw [follows.slots] at flag
      rw [kept, held, writes.1, writes.2.2, flag]
    sent := fun c known e h mark can => by
      rw [service]
      exact evaluateSwath_sends (short h) ((whole.refills c).2.trans mark) formed ((able c).trans can)
    needed := fun c known e h mark unable => by
      rw [supply]
      exact evaluateSwath_needs (short h) ((whole.refills c).2.trans mark) ((able c).trans unable)
    once := fun reported => by
      subst reported
      obtain ⟨rfl, same⟩ := found.once_reported
      exact (latched' .capacity).trans ((evaluateSwath_once w i rest).trans (same.trans latched))
    raised := fun fresh c shows first => by
      subst fresh
      rw [← follows.slots] at shows first
      obtain ⟨stands, told⟩ := found.raises inv hq ((overMark_of_follows follows _).2 shows)
        fun d hd => mt (overMark_of_follows follows _).1 (first d hd)
      refine ⟨(latched' .capacity).trans stands, fun clear short => reported.subset ?_⟩
      rw [← follows.now]
      exact told (latched.trans clear) (room short) }

end

/-- What a step that changes nothing itself leaves of a WAITING SWATH head entry, the gate then evaluating. -/
theorem swath_finish {s : State} {i : SlotIx} {rep : Bool} {rest : List Entry} (hq : s.queue = ⟨.swath i rep, .waiting⟩ :: rest)
    (s0 : State) : SwathEvaluated s (State.finish true s0 s) i rep rest := by
  have quiet := Quiet.reformAll s
  have follows := Follows.reformAll s
  have formed := s.reformAll_formed
  have latched := (Reforms.reformAll s).clear .capacity (by decide)
  rw [finish_closed]
  generalize s.reformAll = u at quiet follows formed latched ⊢
  refine swath_evaluated formed (quiet.queue.trans hq) follows quiet.carts latched fun short => ?_
  have := quiet.lane.length_le
  omega

end Sys2Proof.Machine
end

section
/-!
PROOFS. The cap delay, lamp, periodic and dry timers (R77, R105, R128, R143).
-/

-- One declaration at a time: side by side, the threads' stacks come near the memory limit of the check.
set_option Elab.async false

namespace Sys2Proof.Machine

section

variable {s : State}

/-! ## The cap delay (R105) -/

theorem capTest_of_due (capped : s.service.capped = false) (free : s.service.holder = .free) (clear : s.lane.conditions.stationFault = false)
    (due : max s.service.idleSince (s.service.capWithdrawnAt.getD 0) + s.tables.service.capDelay ≤ s.now) :
    s.capTest = s.place .cap none byWear := by
  refine if_pos ?_
  simp only [Bool.and_eq_true, Bool.not_eq_true', decide_eq_true_eq]
  exact ⟨⟨⟨capped, free⟩, clear⟩, due⟩

theorem capTest_queue (s : State) : s.capTest.queue = s.queue := by
  unfold State.capTest
  split <;> rfl

/-! ## The lamps (R77) -/

/-- A lamp toggled (R77). -/
def State.lampToggled (s : State) (c : Channel) : State := { s with lamps := modifyAt s.lamps c Lamp.toggle }

theorem Lamp.enter_of_pattern {l : Lamp} {p : LampPattern} (h : l.pattern = p) (now : Nat) : l.enter now p = l := if_pos h

theorem Lamp.toggle_pattern (l : Lamp) : l.toggle.pattern = l.pattern := by
  unfold Lamp.toggle
  split <;> rfl

theorem Cartridge.sendOwed_state (now : Nat) (r : Cartridge) : (r.sendOwed now).state = r.state := by
  unfold Cartridge.sendOwed
  split <;> rfl

theorem idleGate_frame (s : State) : s.idleGate.lamps = s.lamps ∧ s.idleGate.carts = s.carts ∧ s.idleGate.supply = s.supply ∧
    s.idleGate.now = s.now := by
  unfold State.idleGate
  split
  · exact ⟨rfl, rfl, rfl, rfl⟩
  · split
    · exact ⟨rfl, rfl, rfl, rfl⟩
    · split <;> exact ⟨rfl, rfl, rfl, rfl⟩

/-- The end of a step forms no lamp anew whose pattern is as its channel gives it. -/
theorem closed_lamps {g : State} (h : g.LampInv) (c : Channel) : g.closed.lamps[c] = g.lamps[c] := by
  have cart : (g.carts.map (Cartridge.sendOwed g.now))[c].state = g.carts[c].state :=
    (congrArg Cartridge.state (Vector.getElem_map ..)).trans (Cartridge.sendOwed_state ..)
  have formed : g.closed.lamps[c] =
      g.lamps[c].enter g.now (lampPattern (g.carts.map (Cartridge.sendOwed g.now))[c].state g.supply[c].state) :=
    Vector.getElem_ofFn ..
  rw [formed, cart]
  exact Lamp.enter_of_pattern (h c) _

/-- A step that changes lamps alone, in their patterns, forms nothing anew but the gate's set of an idle head. -/
theorem finish_lamps {x : State} (inputs : x.gateInputs = s.gateInputs) (formed : x.SupplyInv) (lit : x.LampInv) (c : Channel) :
    (State.finish false s x).lamps[c] = x.lamps[c] := by
  have still : State.finish false s x = x.idleGate.closed := by
    unfold State.finish State.runGate State.closed
    rw [State.reformAll_of_formed formed]
    refine congrArg (fun g : State => g.sendDeductions.reformLamps.chooseReturn) (if_neg ?_)
    rw [Bool.false_or, decide_eq_true_eq]
    exact not_not.2 inputs
  obtain ⟨lamps, carts, supply, -⟩ := idleGate_frame x
  rw [still, closed_lamps (fun d => by rw [lamps, carts, supply]; exact lit d), lamps]

theorem lampToggled_lit (lit : s.LampInv) (c : Channel) : (s.lampToggled c).LampInv := by
  intro d
  have lamp : (s.lampToggled c).lamps[d].pattern = s.lamps[d].pattern := by
    unfold State.lampToggled
    dsimp only
    rw [getElem_modifyAt]
    split
    next e => rw [e, Lamp.toggle_pattern]
    next => rfl
  exact lamp.trans (lit d)

theorem lampBlinkToggle_waits {c : Channel} (waits : s.lamps[c].toggleAt = none ∨ ∃ d, s.lamps[c].toggleAt = some d ∧ s.now < d) :
    exec (.lampBlinkToggle c) s = .next s := by
  show execLampBlinkToggle c s = _
  unfold execLampBlinkToggle
  rcases waits with none' | ⟨d, hd, early⟩
  · rw [none']
  · rw [hd]
    exact if_neg (Nat.not_le.2 early)

theorem lampBlinkToggle_due {c : Channel} {d : Nat} (hd : s.lamps[c].toggleAt = some d) (due : d ≤ s.now) :
    exec (.lampBlinkToggle c) s = ends false s (s.lampToggled c) := by
  show execLampBlinkToggle c s = _
  unfold execLampBlinkToggle
  rw [hd]
  exact if_pos due

/-! ## The periodic and dry timers (R143, R128) -/

theorem Scan.trigger_eq (v : Scan) : v.trigger =
    { v with sweep := if v.running = true ∧ v.mode = .triggered then some (v.sweep.getD v.startIn) else v.sweep } := by
  unfold Scan.trigger
  obtain ⟨results, running, mode, startIn, endIn, period, sweep, periodicAt⟩ := v
  cases running <;> cases mode <;> cases sweep <;> rfl

theorem periodicTimerExpiry_waits (waits : s.scan.periodicAt = none ∨ ∃ d, s.scan.periodicAt = some d ∧ s.now < d) :
    exec .periodicTimerExpiry s = .next s := by
  show execPeriodicTimerExpiry s = _
  unfold execPeriodicTimerExpiry
  rcases waits with none' | ⟨d, hd, early⟩
  · rw [none']
  · rw [hd]
    exact if_neg (Nat.not_le.2 early)

theorem periodicTimerExpiry_due {d : Nat} (hd : s.scan.periodicAt = some d) (due : d ≤ s.now) : exec .periodicTimerExpiry s =
    ends false s { s with scan := { s.scan with
      sweep := if s.scan.running = true ∧ s.scan.mode = .triggered then some (s.scan.sweep.getD s.scan.startIn) else s.scan.sweep
      periodicAt := some (d + s.scan.period) } } := by
  show execPeriodicTimerExpiry s = _
  unfold execPeriodicTimerExpiry
  rw [hd, s.scan.trigger_eq]
  exact if_pos due

theorem dryTimerExpiry_waits (waits : s.feed.dryExpiry = none ∨ ∃ d, s.feed.dryExpiry = some d ∧ s.now < d) :
    exec .dryTimerExpiry s = .next s := by
  show execDryTimerExpiry s = _
  unfold execDryTimerExpiry
  rcases waits with none' | ⟨d, hd, early⟩
  · rw [none']
  · rw [hd]
    exact if_neg (Nat.not_le.2 early)

theorem dryTimerExpiry_due {d : Nat} (hd : s.feed.dryExpiry = some d) (due : d ≤ s.now) : exec .dryTimerExpiry s = ends true s s := by
  show execDryTimerExpiry s = _
  unfold execDryTimerExpiry
  rw [hd]
  exact if_pos due

end

/-- Settles O40. -/
theorem timersActAtTheirTime : Obligations.TimersActAtTheirTime := by
  refine fun s => ⟨⟨?tested, fun capped free clear due idle => ?placed⟩, fun c => ⟨lampBlinkToggle_waits, fun d p hd due half lit formed => ?blinks⟩,
    periodicTimerExpiry_waits, fun d hd due => ?sweeps, dryTimerExpiry_waits, fun d hd due => ?dry⟩
  case tested =>
    obtain ⟨t, ht, follows⟩ := ends_follows false s s.capTest
    exact ⟨t, ht, (Follows.capTest s).trans follows⟩
  case placed =>
    obtain ⟨q, mem, covers⟩ := s.place_covers .cap none byWear
    rw [← capTest_of_due capped free clear due] at mem
    have stands := (Reforms.finish_of_empty ((capTest_queue s).trans idle) false s).caps q mem (Request.op_of_covers_cap covers)
    exact ⟨_, rfl, q, stands, covers⟩
  case blinks =>
    obtain ⟨t, ht, follows⟩ := ends_follows false s (s.lampToggled c)
    have lamps (e : Channel) : t.lamps[e] = (s.lampToggled c).lamps[e] :=
      Host.Outcome.next.inj ht ▸ finish_lamps (s := s) (x := s.lampToggled c) rfl formed (lampToggled_lit lit c) e
    refine ⟨t, (lampBlinkToggle_due hd due).trans ht, { follows with }, ?_, fun e ne => ?_⟩
    · have toggled : s.lamps[c].toggle = { s.lamps[c] with on := !s.lamps[c].on, toggleAt := some (d + p) } := by
        unfold Lamp.toggle
        rw [hd, half]
      rw [lamps, ← toggled]
      exact modifyAt_self ..
    · rw [lamps]
      exact (getElem_modifyAt ..).trans (if_neg ne)
  case sweeps =>
    obtain ⟨t, ht, follows⟩ := ends_follows false s _
    exact ⟨t, (periodicTimerExpiry_due hd due).trans ht, follows⟩
  case dry =>
    obtain ⟨t, ht, follows⟩ := ends_follows true s s
    have swath {i : SlotIx} {rep : Bool} {rest : List Entry} (hq : s.queue = ⟨.swath i rep, .waiting⟩ :: rest) : SwathEvaluated s t i rep rest :=
      Host.Outcome.next.inj ht ▸ swath_finish hq s
    have stands : FeedStands s s := ⟨rfl, rfl, rfl, rfl, rfl, fun short => by omega⟩
    have feeds : FeedHeadEvaluated s t := Host.Outcome.next.inj ht ▸ stands.finish (fun short => by omega) s
    exact ⟨t, (dryTimerExpiry_due hd due).trans ht, follows, fun i rep rest hq => swath hq, feeds⟩

end Sys2Proof.Machine
end

section
/-!
PROOFS. A PRIME pending alone is tested, and granted with its ink (R101, R108, R109).
-/

-- One declaration at a time: side by side, the threads' stacks come near the memory limit of the check.
set_option Elab.async false

namespace Sys2Proof.Machine

section

variable {s u : State} {r : Request} {c : Channel}

theorem arbitratePrimes_cons (d : Channel) (cs : List Channel) (s : State) : State.arbitratePrimes (d :: cs) s =
    if s.service.refillFirst then s
    else match s.service.pending.find? (fun r => r.op = .prime d) with
      | none => State.arbitratePrimes cs s
      | some r => if s.primeFits d then s else State.arbitratePrimes cs (s.primeFails d r.origins) := rfl

/-- A PRIME pending alone is the one that is tested. -/
theorem arbitratePrimes_lone (alone : s.service.pending = [r]) (prime : r.op = .prime c) {cs : List Channel} (mem : c ∈ cs) :
    ∃ cs', State.arbitratePrimes cs s = if s.primeFits c then s else State.arbitratePrimes cs' (s.primeFails c r.origins) := by
  have noRefill : s.service.refillFirst = false := by
    unfold Service.refillFirst
    rw [alone]
    simp [prime, StationOp.rank]
  induction cs with
  | nil => cases mem
  | cons d cs ih =>
    rw [arbitratePrimes_cons, noRefill, if_neg Bool.false_ne_true]
    by_cases e : c = d
    · subst e
      have found : s.service.pending.find? (fun r => r.op = .prime c) = some r := by
        rw [alone]
        exact List.find?_cons_of_pos (by simpa using prime)
      rw [found]
      exact ⟨cs, rfl⟩
    · have missed : s.service.pending.find? (fun r => r.op = .prime d) = none := by
        rw [alone]
        simp [prime, e]
      rw [missed]
      exact ih ((List.mem_cons.1 mem).resolve_left e)

/-- With a refill pending no PRIME is tested. -/
theorem arbitratePrimes_of_refill (refill : u.service.refillFirst = true) (cs : List Channel) : State.arbitratePrimes cs u = u := by
  cases cs with
  | nil => rfl
  | cons c cs =>
    unfold State.arbitratePrimes
    exact if_pos refill

/-- The one request of a list that goes before the others. -/
theorem firstRequest_of_first (mem : r ∈ u.service.pending) (grantable : u.grantable r = true)
    (first : ∀ q ∈ u.service.pending, q ≠ r → r.before q = true ∧ q.before r = false) : u.firstRequest = some r :=
  foldl_firstOf (r := r) _ (fun q hq => first q (List.mem_filter.1 hq).1) (.inr ⟨List.mem_filter.2 ⟨mem, grantable⟩, nofun⟩)

theorem arbiterGrant_tested (free : s.service.holder = .free) (noPass : s.pass = none) (clear : s.stop.set = false)
    (tested : State.arbitratePrimes channels s = u) (asked : u.service.passAsked = false) : exec .arbiterGrant s =
      ends false s (match u.firstRequest with
        | some r => u.grantOp r
        | none => u) := by
  have may : s.mayGrant = true := by simp [State.mayGrant, free, noPass, clear]
  have arbitrated : s.arbitrate = (match u.firstRequest with
      | some r => u.grantOp r
      | none => u) := by
    unfold State.arbitrate
    rw [tested]
    dsimp only
    cases u.firstRequest with
    | none => exact if_neg (by rw [asked]; exact Bool.false_ne_true)
    | some r => exact if_neg (by rw [asked]; exact Bool.false_ne_true)
  show execArbiterGrant s = _
  unfold execArbiterGrant
  rw [if_pos may, arbitrated]

/-- The PRIME has its ink (R101). -/
theorem State.primeFits_iff (s : State) (c : Channel) : s.primeFits c = true ↔
    ∃ k, s.tables.kindOf c = some k ∧ s.accounts[c].known = true ∧ s.tables.channel[c].floor + k.primeVolume ≤ s.accounts[c].level := by
  unfold State.primeFits
  cases s.tables.kindOf c <;> simp

variable (free : s.service.holder = .free) (noPass : s.pass = none) (clear : s.stop.set = false) (alone : s.service.pending = [r])
  (asked : s.service.passAsked = false) (prime : r.op = .prime c)

include free noPass clear alone asked prime

/-- A PRIME with its ink is granted. -/
theorem arbiterGrant_inked (fits : s.primeFits c = true) : exec .arbiterGrant s =
    ends false s (if s.service.docked then ((s.granted r).sequenced (s.grantedOp r)).uncappedFor r.op else s.granted r) := by
  obtain ⟨cs, tested⟩ := arbitratePrimes_lone alone prime (mem_channels c)
  rw [if_pos fits] at tested
  have goes : s.firstRequest = some r :=
    firstRequest_of_first (by rw [alone]; exact List.mem_singleton.2 rfl) (by unfold State.grantable; rw [prime]; exact fits)
      fun q hq ne => absurd (List.mem_singleton.1 (alone ▸ hq)) ne
  have plain : r.op.refillChannel = none := by rw [prime]; rfl
  rw [arbiterGrant_tested free noPass clear tested asked, goes]
  dsimp only
  rw [grantOp_of_notRefill plain, beginSequence_of_notRefill (o := s.grantedOp r) plain]
  rfl

omit asked in
/-- A PRIME without its ink is tested, and its failure settled first. -/
theorem arbiterGrant_dry (dry : s.primeFits c = false) (settled : (s.primeFails c r.origins).service.refillFirst = true ∨
      ∀ q ∈ (s.primeFails c r.origins).service.pending, ∀ d, q.op ≠ .prime d)
    (stays : (s.primeFails c r.origins).service.passAsked = false) : exec .arbiterGrant s =
    ends false s (match (s.primeFails c r.origins).firstRequest with
      | some q => (s.primeFails c r.origins).grantOp q
      | none => s.primeFails c r.origins) := by
  obtain ⟨cs, tested⟩ := arbitratePrimes_lone alone prime (mem_channels c)
  rw [if_neg (by rw [dry]; exact Bool.false_ne_true)] at tested
  have last : State.arbitratePrimes cs (s.primeFails c r.origins) = s.primeFails c r.origins :=
    settled.elim (fun h => arbitratePrimes_of_refill h cs) (fun h => arbitratePrimes_of_none h cs)
  exact arbiterGrant_tested free noPass clear (tested.trans last) stays

/-- A granted PRIME with the carriage UNDOCKED commands the dock. -/
theorem prime_granted_undocked (fits : s.primeFits c = true) (undocked : s.service.docked = false) : Runs .arbiterGrant s { s with
    service := { s.service with
      pending := [], uncapInFlight := s.service.capped
      holder := .op ⟨r, s.now, s.now + s.tables.service.primeTimeout, false, none, s.tables.spitCounts, false⟩ }
    out := { s.out with carriage := .dock } } := by
  have step := arbiterGrant_inked free noPass clear alone asked prime fits
  have others : (s.service.pending.filter fun q => q ≠ r) = [] := by rw [alone]; simp
  have uncaps : r.op.uncaps = true := by rw [prime]; rfl
  have held : s.grantedOp r = ⟨r, s.now, s.now + s.tables.service.primeTimeout, false, none, s.tables.spitCounts, false⟩ := by
    unfold State.grantedOp
    rw [prime]
    rfl
  rw [if_neg (by rw [undocked]; exact Bool.false_ne_true), State.granted_undocked undocked, others, uncaps, Bool.true_and, held] at step
  exact runs_of_ends false step

/-- A PRIME whose sequence runs, before the heads uncap. -/
def State.primeRuns (s : State) (r : Request) (c : Channel) (volume : Option Nat) : State := { s with
  service := { s.service with
    pending := [], uncapInFlight := false
    holder := .op ⟨r, s.now, s.now + s.tables.service.primeTimeout, true, volume, s.tables.spitCounts, false⟩ }
  out := { s.out with station := .run (.prime c) } }

omit free noPass clear asked in
theorem prime_sequenced (docked : s.service.docked = true) :
    (s.granted r).sequenced (s.grantedOp r) = s.primeRuns r c ((s.tables.kindOf c).map (·.primeVolume)) := by
  have others : (s.service.pending.filter fun q => q ≠ r) = [] := by rw [alone]; simp
  have held : s.grantedOp r = ⟨r, s.now, s.now + s.tables.service.primeTimeout, false, none, s.tables.spitCounts, false⟩ := by
    unfold State.grantedOp
    rw [prime]
    rfl
  have station : StationCmd.run r.op = .run (.prime c) := by rw [prime]
  have volume : s.purgeOf r.op = (s.tables.kindOf c).map (·.primeVolume) := by rw [prime]; rfl
  rw [State.granted_docked docked, others, held]
  unfold State.sequenced State.primeRuns
  dsimp only
  rw [station, ← volume]
  rfl

/-- A granted PRIME with the carriage DOCKED runs at once. -/
theorem prime_granted_docked (fits : s.primeFits c = true) (docked : s.service.docked = true) : ∃ t, exec .arbiterGrant s = .next t ∧
    Follows { s.primeRuns r c ((s.tables.kindOf c).map (·.primeVolume)) with
      service := { (s.primeRuns r c ((s.tables.kindOf c).map (·.primeVolume))).service with
        capped := false, stamps := t.service.stamps } } t ∧
    ∀ (d : Channel) (g : Fin 24), t.service.stamps[d][g] =
      if s.service.capped then max s.now s.service.stamps[d][g] else s.service.stamps[d][g] := by
  have step := arbiterGrant_inked free noPass clear alone asked prime fits
  have uncaps : r.op.uncaps = true := by rw [prime]; rfl
  rw [if_pos docked, prime_sequenced alone prime docked] at step
  obtain ⟨frame, stamps⟩ := State.uncappedFor_frame (s.primeRuns r c ((s.tables.kindOf c).map (·.primeVolume))) r.op
  have idle : (s.primeRuns r c ((s.tables.kindOf c).map (·.primeVolume))).service.uncapInFlight = false := rfl
  have capped : (s.primeRuns r c ((s.tables.kindOf c).map (·.primeVolume))).service.capped = s.service.capped := rfl
  rw [uncaps, idle, ite_self, Bool.not_true, Bool.and_false] at frame
  rw [uncaps, capped, Bool.true_and] at stamps
  generalize State.uncappedFor _ r.op = x at step frame stamps
  obtain ⟨t, ht, follows⟩ := ends_follows false s x
  refine ⟨t, step.trans ht, ?_, fun d g => ?_⟩
  · rw [follows.stamps]
    rw [frame] at follows
    exact follows
  · rw [follows.stamps, stamps]
    rfl

end

end Sys2Proof.Machine
end

section
/-!
PROOFS. A PRIME without its ink asks for a refill, which is granted in its place where the cartridge can supply (R101, R60, R62).
-/

-- One declaration at a time: side by side, the threads' stacks come near the memory limit of the check.
set_option Elab.async false

namespace Sys2Proof.Machine

/-! ## The one refill of the highest rank -/

/-- The urgent refill, or the fill to mark of an unknown level, that a PRIME asks for (R101, R60). -/
def primeCall (c : Channel) (known : Bool) (volume : Nat) : Request :=
  ⟨if known then .urgentRefill c else .fillToMark c, if known then some volume else none, byPrime⟩

/-- Every request of rank 1 in the list is of the kind, channel and amount of r. -/
def SoleCall (r : Request) (l : List Request) : Prop := ∀ q ∈ l, q.op.rank = 1 → q.op = r.op ∧ q.amount = r.amount

theorem StationOp.merge_of_rank {a b : StationOp} (m : a.matches b = true) (hb : b.rank ≠ 1) (h : (a.merge b).rank = 1) :
    a.rank = 1 ∧ a.merge b = a := by
  cases a <;> cases b <;> simp_all [StationOp.matches, StationOp.merge, StationOp.rank, StationOp.refillChannel]

theorem maxAmount_none (a : Option Nat) : maxAmount a none = a := by cases a <;> rfl

/-- No ladder's step is of rank 1. -/
theorem LadderState.stepOp_rank {st : LadderState} {c : Channel} {op : StationOp} (h : st.stepOp c = some op) : op.rank ≠ 1 := by
  cases st <;> simp only [LadderState.stepOp, reduceCtorEq, Option.some.injEq] at h <;> subst h <;> nofun

section

variable {c : Channel} {known : Bool} {v : Nat} {s : State}

theorem SoleCall.addRequest {l : List Request} (h : SoleCall (primeCall c known v) l) {r : Request} (rank : r.op.rank ≠ 1)
    (bare : r.amount = none) : SoleCall (primeCall c known v) (addRequest r l) := by
  intro q hq first
  rcases mem_addRequest hq with old | rfl | ⟨p, hp, m, rfl⟩
  · exact h q old first
  · exact absurd first rank
  · obtain ⟨rank1, same⟩ := StationOp.merge_of_rank m rank first
    obtain ⟨op, amount⟩ := h p hp rank1
    have merged : (p.merge r).op = (primeCall c known v).op := same.trans op
    refine ⟨merged, ?_⟩
    unfold Request.merge
    dsimp only
    rw [same, op, bare, amount]
    cases known
    · rfl
    · exact maxAmount_none _

theorem SoleCall.dropLadder {r : Request} (h : SoleCall r s.service.pending) (named : StationOp → Bool) :
    SoleCall r (s.dropLadder named).service.pending := by
  intro q hq first
  obtain ⟨p, hp, e⟩ := List.mem_filterMap.1 hq
  split at e
  · unfold Request.withoutLadder at e
    dsimp only at e
    split at e
    · cases e
    · cases e; exact h p hp first
  · cases e; exact h q hp first

theorem SoleCall.setLadder {r : Request} (h : SoleCall r s.service.pending) (l : Ladder) : SoleCall r (s.setLadder c l).service.pending := by
  rw [State.setLadder_eq]
  dsimp only
  split_ifs
  · exact SoleCall.dropLadder (s := (s.laddered c l).raise (l.event c)) h _
  · exact SoleCall.dropLadder (s := s.laddered c l) h _
  · exact h
  · exact h

theorem SoleCall.resumeLadder (h : SoleCall (primeCall c known v) s.service.pending) (d : Channel) :
    SoleCall (primeCall c known v) (s.resumeLadder d).service.pending := by
  simp only [State.resumeLadder]
  split
  next st ph _ _ _ _ =>
    unfold State.placeStep
    split
    next => exact (h.setLadder _).addRequest (LadderState.stepOp_rank ‹_›) rfl
    next => exact h.setLadder _
    next => exact (h.setLadder _).addRequest nofun rfl
  next => exact h

/-- A supply state formed again places nothing of rank 1. -/
theorem SoleCall.reformSupply (h : SoleCall (primeCall c known v) s.service.pending) (d : Channel) :
    SoleCall (primeCall c known v) (s.reformSupply d).service.pending := by
  have low (u : State) (hu : SoleCall (primeCall c known v) u.service.pending) (st : SupplyState) :
      SoleCall (primeCall c known v) (u.lowPlaced d st).service.pending := by
    unfold State.lowPlaced
    split
    · exact hu.addRequest nofun rfl
    · exact hu
  have told : SoleCall (primeCall c known v) (s.supplyTold d).service.pending := h
  rw [State.reformSupply_eq]
  split
  · exact h
  · split
    · exact low _ (told.resumeLadder d) _
    · exact low _ told _

theorem StationOp.rank_pos (o : StationOp) : 1 ≤ o.rank := by cases o <;> simp [StationOp.rank]

theorem primeCall_rank {q : Request} (covers : q.covers (primeCall c known v)) : q.op.rank = 1 := by
  have call : (primeCall c known v).op.rank = 1 := by cases known <;> rfl
  have := covers.2.1
  have := q.op.rank_pos
  omega

/-- The call goes first. -/
theorem firstRequest_of_soleCall {u : State} (inv : u.RequestInv) (sole : SoleCall (primeCall c known v) u.service.pending)
    (found : ∃ q ∈ u.service.pending, q.covers (primeCall c known v)) :
    ∃ q ∈ u.service.pending, u.firstRequest = some q ∧ q.op = (primeCall c known v).op ∧ q.amount = (primeCall c known v).amount := by
  obtain ⟨q, mem, covers⟩ := found
  have rank1 := primeCall_rank covers
  obtain ⟨op, amount⟩ := sole q mem rank1
  refine ⟨q, mem, firstRequest_of_first mem ?_ fun p hp ne => ?_, op, amount⟩
  · unfold State.grantable
    rw [op]
    cases known <;> rfl
  · have later : p.op.rank ≠ 1 := fun first => by
      have same : p.op = q.op := (sole p hp first).1.trans op.symm
      have : Std.Symm fun x y : Request => x.op.matches y.op = false := ⟨fun _ _ h => (StationOp.matches_symm ..).trans h⟩
      have apart := List.Pairwise.forall inv hp mem ne
      rw [same, StationOp.matches_self] at apart
      cases apart
    have := p.op.rank_pos
    rw [Request.before_iff, Bool.eq_false_iff, ne_eq, Request.before_iff]
    omega

end

/-! ## The call of a PRIME whose cartridge can supply (R101, R60) -/

section

variable {s : State} {r : Request} {c : Channel} {k : InkKind}

/-- The refill that a PRIME asks for, placed. -/
def State.primeAsked (s : State) (c : Channel) (volume : Nat) : State :=
  s.place (primeCall c s.accounts[c].known volume).op (primeCall c s.accounts[c].known volume).amount byPrime

/-- The refill that a PRIME asks for passes through the supply controller (R60). -/
theorem requestRefill_prime (s : State) (c : Channel) (volume : Nat) : s.requestRefill c .urgent (some volume) byPrime =
    if s.supply[c].faultMark then s
    else if s.canSupply c then s.primeAsked c volume
    else s.recordNeed c ⟨if s.accounts[c].known then .urgent else .fill, some volume, byPrime⟩ := by
  unfold State.requestRefill State.primeAsked primeCall
  cases s.supply[c].faultMark <;> cases s.canSupply c <;> cases s.accounts[c].known <;> rfl

/-- A failed PRIME that a refill may still make grantable waits on. -/
theorem primeFails_of_kept (kept : (s.primeAsks c).primeLost c = none) (o : Origins) : s.primeFails c o = s.primeAsks c := by
  rw [State.primeFails_eq, kept]

theorem primeAsks_of_kind (kind : s.tables.kindOf c = some k) :
    s.primeAsks c = (s.requestRefill c .urgent (some k.primeVolume) byPrime).reformSupply c := by
  unfold State.primeAsks
  rw [kind]

theorem primeAsks_of_able (kind : s.tables.kindOf c = some k) (mark : s.supply[c].faultMark = false) (able : s.canSupply c = true) :
    s.primeAsks c = (s.primeAsked c k.primeVolume).reformSupply c := by
  rw [primeAsks_of_kind kind, requestRefill_prime, mark, able, if_neg Bool.false_ne_true, if_pos rfl]

/-- A channel without mark, refill or need is UNKNOWN, LOW or READY. -/
theorem formedSupply_wet (mark : s.supply[c].faultMark = false) (idle : s.supply[c].refill = none) (unneeded : s.supply[c].need = none) :
    s.formedSupply c ≠ .starved ∧ s.formedSupply c ≠ .fault := by
  unfold State.formedSupply
  dsimp only
  rw [mark, idle, unneeded]
  simp only [Bool.false_eq_true, if_false, Option.isSome_none]
  constructor <;> split_ifs <;> nofun

/-- The call of a PRIME pending alone stands second. -/
theorem primeAsked_pending (alone : s.service.pending = [r]) (prime : r.op = .prime c) (volume : Nat) :
    (s.primeAsked c volume).service.pending = [r, primeCall c s.accounts[c].known volume] := by
  have apart : r.op.matches (primeCall c s.accounts[c].known volume).op = false := by
    rw [prime]
    cases s.accounts[c].known <;> rfl
  show addRequest (primeCall c s.accounts[c].known volume) s.service.pending = _
  rw [alone, addRequest, if_neg (by rw [apart]; exact Bool.false_ne_true)]
  rfl

theorem primeAsked_sole (alone : s.service.pending = [r]) (prime : r.op = .prime c) (volume : Nat) :
    SoleCall (primeCall c s.accounts[c].known volume) (s.primeAsked c volume).service.pending := by
  rw [primeAsked_pending alone prime]
  intro q hq first
  simp only [List.mem_cons, List.not_mem_nil, or_false] at hq
  rcases hq with rfl | rfl
  · rw [prime] at first; cases first
  · exact ⟨rfl, rfl⟩

/-- The refill granted to a channel whose carriage is UNDOCKED holds it. -/
theorem grantOp_refill_undocked {u : State} {q : Request} {kd : RefillKind} (undocked : u.service.docked = false)
    (refill : q.op = kd.op c) (unreached : (newRefill u.tables.channel[c] u.accounts[c].reserved kd q.amount).reached
      ((u.granted q).refillWritten c kd q.amount).accounts[c].level = false) :
    u.grantOp q = (u.granted q).refillWritten c kd q.amount := by
  have channel : q.op.refillChannel = some c := by rw [refill]; cases kd <;> rfl
  have kind : q.op.refillKind = some kd := by rw [refill]; cases kd <;> rfl
  have frame := State.granted_undocked (s := u) (r := q) undocked
  have docked : ((u.granted q).refillWritten c kd q.amount).service.docked = false := by
    refine (Follows.reformSupply _ c).docked.trans ?_
    rw [frame]
    exact undocked
  rw [State.grantOp_eq, channel, kind]
  dsimp only
  rw [if_neg (by rw [undocked]; exact Bool.false_ne_true), State.startRefill_eq]
  dsimp only
  rw [if_neg, if_neg (by rw [docked]; exact Bool.false_ne_true)]
  rw [frame] at unreached ⊢
  rw [Bool.not_eq_true]
  exact unreached

/-- The call of a PRIME that a refill may make grantable has a target above the level. -/
theorem primeCall_unreached {u x : State} (known : Bool) {volume : Nat} (level : x.accounts[c].level = u.accounts[c].level)
    (low : known = true → u.accounts[c].level < u.tables.channel[c].floor + volume)
    (fits : volume + u.tables.channel[c].floor ≤ u.tables.channel[c].markLevel) :
    (newRefill u.tables.channel[c] u.accounts[c].reserved (if known then .urgent else .fill) (primeCall c known volume).amount).reached
      (x.refillWritten c (if known then .urgent else .fill) (primeCall c known volume).amount).accounts[c].level = false := by
  cases known with
  | false => rfl
  | true =>
    have written : (x.refillWritten c .urgent (some volume)).accounts[c].level = x.accounts[c].level := by
      refine (congrArg (fun v : Vector Account 6 => v[c].level) (Quiet.reformSupply _ c).accounts).trans ?_
      rfl
    show decide (_ ≤ (x.refillWritten c .urgent (some volume)).accounts[c].level) = false
    rw [written, level, decide_eq_false_iff_not]
    have := low rfl
    have target : (primeCall c true volume).amount.getD 0 = volume := rfl
    rw [target]
    omega

/-- A PRIME that a refill makes grantable asks for it, and the refill is granted while the PRIME waits on. -/
theorem prime_refilled (free : s.service.holder = .free) (noPass : s.pass = none) (clear : s.stop.set = false)
    (alone : s.service.pending = [r]) (asked : s.service.passAsked = false) (prime : r.op = .prime c) (kind : s.tables.kindOf c = some k)
    (dry : s.accounts[c].known = false ∨ s.accounts[c].level < s.tables.channel[c].floor + k.primeVolume)
    (mark : s.supply[c].faultMark = false) (able : s.canSupply c = true) (idle : s.supply[c].refill = none)
    (unneeded : s.supply[c].need = none) (undocked : s.service.docked = false)
    (fits : k.primeVolume + s.tables.channel[c].floor ≤ s.tables.channel[c].markLevel) :
    ∃ t o, exec .arbiterGrant s = .next t ∧ t.service.holder = .op o ∧
      o.req.op = (if s.accounts[c].known then .urgentRefill c else .fillToMark c) ∧ ∃ q ∈ t.service.pending, q.covers r := by
  have asks := primeAsks_of_able kind mark able
  have follows : Follows s (s.primeAsked c k.primeVolume) := Follows.place ..
  have after : Follows s (s.primeAsks c) := by rw [asks]; exact follows.trans (.reformSupply ..)
  have quiet := Quiet.primeAsks s c
  have state : (s.primeAsks c).supply[c].state = s.formedSupply c := by
    rw [asks, State.reformSupply_supply]
    exact congrArg Supply.state (modifyAt_self ..)
  have sole : SoleCall (primeCall c s.accounts[c].known k.primeVolume) (s.primeAsks c).service.pending := by
    rw [asks]
    exact (primeAsked_sole alone prime _).reformSupply c
  have found : ∃ q ∈ (s.primeAsks c).service.pending, q.covers (primeCall c s.accounts[c].known k.primeVolume) := by
    rw [asks]
    refine (Follows.reformSupply (s.primeAsked c k.primeVolume) c).covers ?_ (s.place_covers _ _ _)
    cases s.accounts[c].known <;> nofun
  have waits : ∃ q ∈ (s.primeAsks c).service.pending, q.covers r :=
    after.requests r (by rw [alone]; exact List.mem_singleton.2 rfl) (by rw [prime]; nofun)
  have distinct : (s.primeAsks c).RequestInv := quiet.requests (by unfold State.RequestInv; rw [alone]; exact List.pairwise_singleton ..)
  have kept : (s.primeAsks c).primeLost c = none := by
    obtain ⟨notStarved, notFault⟩ := formedSupply_wet mark idle unneeded
    unfold State.primeLost
    rw [state, after.tables, kind, if_neg notStarved]
    dsimp only
    rw [if_neg notFault, if_neg (by omega)]
  have fails := primeFails_of_kept kept r.origins
  have notAsked : (s.primeAsks c).service.passAsked = false := by rw [quiet.frame]; exact asked
  have first : (s.primeAsks c).service.refillFirst = true := by
    obtain ⟨q, mem, covers⟩ := found
    exact List.any_eq_true.2 ⟨q, mem, decide_eq_true (primeCall_rank covers)⟩
  obtain ⟨q, -, goes, op, amount⟩ := firstRequest_of_soleCall distinct sole found
  have notInked : s.primeFits c = false := by
    rw [Bool.eq_false_iff, ne_eq, State.primeFits_iff]
    rintro ⟨k', hk', known, level⟩
    cases kind.symm.trans hk'
    rcases dry with unknown | low
    · rw [known] at unknown; cases unknown
    · omega
  have step := arbiterGrant_dry free noPass clear alone prime notInked (by rw [fails]; exact .inl first) (by rw [fails]; exact notAsked)
  rw [fails, goes] at step
  dsimp only at step
  have docked : (s.primeAsks c).service.docked = false := after.docked.trans undocked
  have accounts := after.accounts
  have tables := after.tables
  generalize s.primeAsks c = u at step waits docked accounts tables
  have level : (u.granted q).accounts[c].level = u.accounts[c].level := by rw [State.granted_undocked docked]
  have opq : q.op = (if s.accounts[c].known then RefillKind.urgent else .fill).op c := by rw [op]; cases s.accounts[c].known <;> rfl
  have unreached := primeCall_unreached (c := c) (u := u) (x := u.granted q) s.accounts[c].known (volume := k.primeVolume) level
    (fun known => by
      rw [accounts, tables]
      rcases dry with unknown | low
      · rw [known] at unknown; cases unknown
      · exact low) (by rw [tables]; exact fits)
  rw [← amount] at unreached
  rw [grantOp_refill_undocked docked opq unreached] at step
  obtain ⟨t, ht, settled⟩ := ends_follows false s ((u.granted q).refillWritten c (if s.accounts[c].known then .urgent else .fill) q.amount)
  have written := (Follows.reformSupply _ c).trans settled
  have base : u.granted q = { u with
      service := { u.service with
        pending := u.service.pending.filter fun p => p ≠ q, holder := .op (u.grantedOp q)
        uncapInFlight := q.op.uncaps && u.service.capped }
      out := { u.out with carriage := .dock } } := State.granted_undocked docked
  refine ⟨t, u.grantedOp q, step.trans ht, written.holder.trans ?_, ?_, written.covers (by rw [prime]; nofun) ?_⟩
  · show (u.granted q).service.holder = _
    rw [base]
  · show q.op = _
    rw [op]
    rfl
  · obtain ⟨p, hp, covers⟩ := waits
    refine ⟨p, ?_, covers⟩
    show p ∈ (u.granted q).service.pending
    rw [base]
    refine List.mem_filter.2 ⟨hp, decide_eq_true fun e => ?_⟩
    subst e
    have m := covers.1
    rw [opq, prime] at m
    cases h : s.accounts[c].known <;> rw [h] at m <;> cases m

end

end Sys2Proof.Machine
end

section
/-!
PROOFS. A PRIME that no refill can make grantable is withdrawn with NO INK, and its ladder is suspended (R101, R111, R115; log 36).
-/

-- One declaration at a time: side by side, the threads' stacks come near the memory limit of the check.
set_option Elab.async false

namespace Sys2Proof.Machine

section

variable {s w : State} {r : Request} {c : Channel} {k : InkKind} {cause : SuspendCause}

/-! ## The PRIME withdrawn (R101, R115) -/

/-- A PRIME withdrawn and the ladder whose step it was suspended. -/
def State.primeLeft (s : State) (c : Channel) (o : Origins) (cause : SuspendCause) : State :=
  let t := s.primeWithdrawn c
  if o.ladder && (t.service.ladders[c]).waitsOn c (.prime c) then t.suspendLadder c cause else t

theorem primeFails_of_lost (lost : (s.primeAsks c).primeLost c = some cause) (o : Origins) :
    s.primeFails c o = (s.primeAsks c).primeLeft c o cause := by
  rw [State.primeFails_eq, lost]
  rfl

/-- The ladder record that a withdrawn PRIME leaves (R115). -/
def Ladder.primeLeft (l : Ladder) (o : Origins) (cause : SuspendCause) : Ladder :=
  if o.ladder = true ∧ l.phase = some .operation ∧ (l.state = .primeCheck ∨ l.state = .prime2Check)
  then { l with state := .suspended, phase := none, suspStep := some l.state, suspPhase := some .operation, cause := some cause }
  else l

theorem Ladder.waitsOn_prime (l : Ladder) (c : Channel) :
    l.waitsOn c (.prime c) = true ↔ l.phase = some .operation ∧ (l.state = .primeCheck ∨ l.state = .prime2Check) := by
  unfold Ladder.waitsOn
  cases l.phase with
  | none => simp
  | some ph =>
    cases ph
    · cases h : l.state <;> simp [LadderState.stepOp]
    · simp

theorem primeLeft_ladder (w : State) (c : Channel) (o : Origins) (cause : SuspendCause) :
    (w.primeLeft c o cause).service.ladders[c] = w.service.ladders[c].primeLeft o cause := by
  have left : w.primeLeft c o cause = if (o.ladder && (w.service.ladders[c]).waitsOn c (.prime c)) = true then
      (w.primeWithdrawn c).suspendLadder c cause else w.primeWithdrawn c := rfl
  have test := Bool.and_eq_true o.ladder ((w.service.ladders[c]).waitsOn c (.prime c))
  rw [Ladder.waitsOn_prime] at test
  unfold Ladder.primeLeft
  rw [left]
  by_cases waits : (o.ladder && (w.service.ladders[c]).waitsOn c (.prime c)) = true
  · have cond := test.mp waits
    have inStep : w.service.ladders[c].state.inStep = true := by
      rcases cond.2.2 with h | h <;> rw [h] <;> rfl
    have suspended : (w.primeWithdrawn c).suspendLadder c cause = (w.primeWithdrawn c).setLadder c { w.service.ladders[c] with
        state := .suspended, phase := none, suspStep := some w.service.ladders[c].state, suspPhase := some .operation
        cause := some cause } := by
      rw [← cond.2.1]
      exact if_pos inStep
    rw [if_pos waits, if_pos cond, suspended, State.setLadder_ladders]
    exact setAt_self ..
  · rw [if_neg waits, if_neg (mt test.mpr waits)]
    rfl

/-- Dropping LADDER leaves a list that no ladder asked for. -/
theorem dropLadder_pending {s : State} (h : ∀ q ∈ s.service.pending, q.origins.ladder = false) (named : StationOp → Bool) :
    (s.dropLadder named).service.pending = s.service.pending := by
  refine Eq.trans (List.filterMap_congr (g := some) fun q hq => ?_) List.filterMap_some
  rw [h q hq]
  rfl

theorem setLadder_pending {s : State} (h : ∀ q ∈ s.service.pending, q.origins.ladder = false) (l : Ladder) :
    (s.setLadder c l).service.pending = s.service.pending := by
  rw [State.setLadder_eq]
  dsimp only
  split_ifs
  · exact dropLadder_pending (s := (s.laddered c l).raise (l.event c)) h _
  · exact dropLadder_pending (s := s.laddered c l) h _
  · rfl
  · rfl

/-- A PRIME withdrawn leaves the other requests, where no ladder asked for them. -/
theorem primeLeft_pending {l : List Request} (others : (w.service.pending.filter fun q => !decide (q.op = .prime c)) = l)
    (unasked : ∀ q ∈ l, q.origins.ladder = false) (o : Origins) (cause : SuspendCause) :
    (w.primeLeft c o cause).service.pending = l := by
  have withdrawn : (w.primeWithdrawn c).service.pending = l := others
  unfold State.primeLeft
  dsimp only
  split
  · unfold State.suspendLadder
    dsimp only
    split
    · rw [setLadder_pending (by rw [withdrawn]; exact unasked), withdrawn]
    · exact withdrawn
  · exact withdrawn

theorem CapsStand.primeLeft_clear (w : State) (c : Channel) (o : Origins) (cause : SuspendCause) {kd : Condition} (h : kd ≠ .eventsLost) :
    (w.primeLeft c o cause).lane.conditions.latched kd = w.lane.conditions.latched kd := by
  have withdrawn : (w.primeWithdrawn c).lane.conditions.latched kd = w.lane.conditions.latched kd := Lane.raise_latched_iff _ _ _ h
  unfold State.primeLeft
  dsimp only
  split
  · unfold State.suspendLadder
    dsimp only
    split
    · exact ((CapsStand.setLadder ..).clear kd h).trans withdrawn
    · exact withdrawn
  · exact withdrawn

theorem Quiet.primeLeft (w : State) (c : Channel) (o : Origins) (cause : SuspendCause) : Quiet 2 w (w.primeLeft c o cause) := by
  unfold State.primeLeft
  dsimp only
  split
  · exact (Quiet.primeWithdrawn w c).trans (.suspendLadder ..)
  · exact (Quiet.primeWithdrawn w c).mono (by omega)

theorem primeLeft_told (w : State) (c : Channel) (o : Origins) (cause : SuspendCause) (room : w.lane.events.length < 64) :
    ⟨w.now, .stationFailed (.prime c) .noInk none⟩ ∈ (w.primeLeft c o cause).lane.events := by
  have told := State.mem_raise (w.withdraw fun op => op = .prime c) (.stationFailed (.prime c) .noInk none) room
  unfold State.primeLeft
  dsimp only
  split
  · exact (Quiet.suspendLadder ..).lane.mem told
  · exact told

theorem primeLeft_supply (w : State) (c : Channel) (o : Origins) (cause : SuspendCause) :
    (w.primeLeft c o cause).supply = w.supply := by
  unfold State.primeLeft
  dsimp only
  split
  · unfold State.suspendLadder
    dsimp only
    split
    · rw [State.setLadder_eq]
      dsimp only
      split_ifs <;> rfl
    · rfl
  · rfl

/-! ## Why it is withdrawn (R101; log 36) -/

variable (formed : s.SupplyInv) (idle : s.supply[c].refill = none)
include formed idle

/-- The supply state of a channel that is not being refilled. -/
theorem state_of_formed : (s.supply[c].state = .starved ↔ s.supply[c].faultMark = false ∧ s.supply[c].need ≠ none) ∧
    (s.supply[c].state = .fault ↔ s.supply[c].faultMark = true) := by
  rw [show s.supply[c].state = s.formedSupply c from formed c]
  unfold State.formedSupply
  dsimp only
  rw [idle]
  cases s.supply[c].faultMark <;> cases s.supply[c].need <;> simp <;> split_ifs <;> simp

end

/-! ## The need that a PRIME records stands (R60) -/

/-- From s to t a recorded need of channel c keeps its origin PRIME and the kind FILL TO MARK. -/
def NeedKept (c : Channel) (s t : State) : Prop :=
  ∀ n, s.supply[c].need = some n →
    ∃ m, t.supply[c].need = some m ∧ (n.origins.prime = true → m.origins.prime = true) ∧ (n.kind = .fill → m.kind = .fill)

theorem NeedKept.of_need {c : Channel} {s t : State} (h : t.supply[c].need = s.supply[c].need) : NeedKept c s t :=
  fun n hn => ⟨n, h.trans hn, id, id⟩

theorem NeedKept.trans {c : Channel} {s t u : State} (h : NeedKept c s t) (k : NeedKept c t u) : NeedKept c s u := fun n hn => by
  obtain ⟨m, hm, prime, fill⟩ := h n hn
  obtain ⟨l, hl, prime', fill'⟩ := k m hm
  exact ⟨l, hl, prime' ∘ prime, fill' ∘ fill⟩

theorem NeedKept.requestRefill (c : Channel) (s : State) (d : Channel) (k : RefillKind) (a : Option Nat) (o : Origins) :
    NeedKept c s (s.requestRefill d k a o) := by
  rcases s.requestRefill_cases d k a o with e | ⟨-, e⟩ | ⟨-, e⟩ <;> rw [e]
  · exact .of_need rfl
  · exact .of_need rfl
  · by_cases hd : c = d
    · subst hd
      intro n hn
      refine ⟨_, congrArg Supply.need (modifyAt_self ..), ?_⟩
      rw [hn]
      refine ⟨fun prime => ?_, fun fill => ?_⟩
      · simp [Need.join, Origins.union, prime]
      · simp [Need.join, fill]
    · exact .of_need (congrArg Supply.need (modifyAt_ne hd _))

theorem NeedKept.gateRequest (c : Channel) (s : State) (t : InkTest) (d : Channel) : NeedKept c s (s.gateRequest t d) := by
  rw [State.gateRequest_eq]
  split
  next k a _ =>
    exact NeedKept.trans (t := s.requestRefill d k a byGate) (.requestRefill c s d k a byGate) (.of_need (State.reformSupply_need ..))
  next => exact .of_need rfl

theorem NeedKept.evaluate (c : Channel) (s : State) : NeedKept c s s.evaluate := by
  unfold State.evaluate
  split
  next i rep rest _ =>
    have reported : NeedKept c s (s.reportCapacity s.slots[i] i rep rest) := .of_need (by rw [State.reportCapacity_frame])
    have sent : NeedKept c s (s.inkSent i rep rest) :=
      foldl_keeps (P := NeedKept c s) (fun t d h => h.trans (.gateRequest c t _ d)) reported channels
    exact sent.trans (.of_need (by rw [(evaluateSwath_lane_supply s i rep rest).2]))
  next =>
    unfold State.evaluateAdvance
    dsimp only
    split <;> exact .of_need rfl
  · exact .of_need rfl
  · exact .of_need rfl

theorem NeedKept.finish (c : Channel) (force : Bool) (s0 x : State) : NeedKept c x (State.finish force s0 x) := by
  have formed : NeedKept c x x.reformAll :=
    foldl_keeps (P := NeedKept c x) (fun t d h => h.trans (.of_need (t.reformSupply_need d c))) (.of_need rfl) channels
  have gate : NeedKept c x ((x.reformAll).runGate force s0) :=
    State.runGate_keeps (P := NeedKept c x) (fun t h => h.trans (.evaluate c t))
      (formed.trans (.of_need (by rw [(idleGate_frame _).2.2.1]))) force s0
  exact gate.trans (.of_need rfl)

/-! ## A PRIME withdrawn with nothing in its place -/

section

variable {s w : State} {r : Request} {c : Channel} {cause : SuspendCause}

/-- What withdraws a PRIME pending alone, which has asked for nothing that a cartridge can supply. -/
theorem prime_withdrawn (free : s.service.holder = .free) (noPass : s.pass = none) (clear : s.stop.set = false)
    (alone : s.service.pending = [r]) (asked : s.service.passAsked = false) (prime : r.op = .prime c) (dry : s.primeFits c = false)
    (asks : s.primeAsks c = w) (lost : w.primeLost c = some cause) (formed : w.SupplyInv) (pending : w.service.pending = [r])
    (ladders : w.service.ladders = s.service.ladders) (latched : ∀ k, k ≠ .eventsLost → w.lane.conditions.latched k = s.lane.conditions.latched k) :
    ∃ t, exec .arbiterGrant s = .next t ∧ ((∀ q ∈ t.service.pending, q.op ≠ .prime c) ∧
      s.tells t (.stationFailed (.prime c) .noInk none) ∧ t.service.ladders[c] = s.service.ladders[c].primeLeft r.origins cause) ∧
      Follows { s with service := { s.service with pending := [], ladders := t.service.ladders } } t ∧
      t.lane.conditions.stationFault = s.lane.conditions.stationFault ∧ NeedKept c w t := by
  have quiet : Quiet 2 s w := asks ▸ Quiet.primeAsks s c
  have fails : s.primeFails c r.origins = w.primeLeft c r.origins cause := by
    rw [primeFails_of_lost (by rw [asks]; exact lost), asks]
  have left := Quiet.primeLeft w c r.origins cause
  have whole := quiet.trans left
  have gone : (w.primeLeft c r.origins cause).service.pending = [] :=
    primeLeft_pending (by rw [pending]; simp [prime]) (fun q hq => absurd hq List.not_mem_nil) _ _
  have ladder := primeLeft_ladder w c r.origins cause
  rw [ladders] at ladder
  have told := primeLeft_told w c r.origins cause
  have still := CapsStand.primeLeft_clear w c r.origins cause (kd := .stationFault) (by decide)
  have supply := primeLeft_supply w c r.origins cause
  have notAsked : (w.primeLeft c r.origins cause).service.passAsked = false := by rw [whole.frame]; exact asked
  have step := arbiterGrant_dry free noPass clear alone prime dry (by rw [fails]; exact .inr (by rw [gone]; nofun)) (by rw [fails]; exact notAsked)
  rw [fails] at step
  generalize w.primeLeft c r.origins cause = x at *
  have none' : x.firstRequest = none := by
    unfold State.firstRequest
    rw [gone]
    rfl
  rw [none'] at step
  dsimp only at step
  have inv : x.SupplyInv := supplyInv_congr supply left.accounts left.tables formed
  obtain ⟨t, ht, follows⟩ := ends_follows false s x
  have tends : Tends x t := Host.Outcome.next.inj ht ▸ Tends.finish false s x
  have kept : NeedKept c x t := Host.Outcome.next.inj ht ▸ NeedKept.finish c false s x
  have same := tends.ladders inv
  have from_s := whole.follows.trans follows
  rw [gone, ← same] at from_s
  refine ⟨t, step.trans ht, ⟨fun q hq e => ?_, fun room => ?_, ?_⟩, { from_s with
    refills := fun d => ⟨(follows.refills d).1.trans (whole.refills d).1, (follows.refills d).2.trans (whole.refills d).2⟩ }, ?_, ?_⟩
  · have := tends.requests inv q hq (by rw [e]; rfl)
    rw [gone] at this
    cases this
  · refine follows.events.subset (List.mem_append_right _ ?_)
    rw [← quiet.now]
    refine told ?_
    have := quiet.lane.length_le
    omega
  · rw [same]
    exact ladder
  · exact (tends.clear .stationFault (by decide) (by decide)).trans (still.trans (latched .stationFault (by decide)))
  · exact (NeedKept.of_need (by rw [supply])).trans kept

end

end Sys2Proof.Machine
end

section
/-!
PROOFS. A refill granted in the place of a PRIME that it cannot make grantable, and the statement on a granted PRIME (R101, R62 to R66).
-/

-- One declaration at a time: side by side, the threads' stacks come near the memory limit of the check.
set_option Elab.async false

namespace Sys2Proof.Machine

/-! ## A refill changes its own channel alone (R58, R62 to R66) -/

/-- From s to t the supply state of channel c has not been formed again yet; the others stand formed, every ladder stands, and refills alone
are placed. -/
structure Unformed (c : Channel) (s t : State) : Prop where
  state : t.supply[c].state = s.supply[c].state
  others : ∀ d, d ≠ c → s.Formed d → t.Formed d
  ladders : t.service.ladders = s.service.ladders
  requests : ∀ q ∈ t.service.pending, q.op.refillChannel = none → q ∈ s.service.pending

section

variable {c : Channel} {s t u : State}

theorem Unformed.refl (c : Channel) (s : State) : Unformed c s s := ⟨rfl, fun _ _ h => h, rfl, fun _ h _ => h⟩

theorem Unformed.trans (h : Unformed c s t) (k : Unformed c t u) : Unformed c s u where
  state := k.state.trans h.state
  others d hd hs := k.others d hd (h.others d hd hs)
  ladders := k.ladders.trans h.ladders
  requests q hq ho := h.requests q (k.requests q hq ho) ho

/-- A record of channel c is written, and requests are withdrawn. -/
theorem Unformed.write (state : t.supply[c].state = s.supply[c].state) (supply : ∀ d, d ≠ c → t.supply[d] = s.supply[d])
    (accounts : ∀ d, d ≠ c → t.accounts[d] = s.accounts[d]) (tables : t.tables = s.tables := by rfl)
    (ladders : t.service.ladders = s.service.ladders := by rfl)
    (requests : ∀ q ∈ t.service.pending, q ∈ s.service.pending := by exact fun _ h => h) : Unformed c s t :=
  ⟨state, fun d hd h => h.of_eq (supply d hd) (accounts d hd) tables, ladders, fun q hq _ => requests q hq⟩

/-- Where the channel was not STARVED, forming its supply state again completes the change. -/
theorem Unformed.reform (h : Unformed c s t) (inv : s.SupplyInv) (wet : s.supply[c].state ≠ .starved) :
    (t.reformSupply c).SupplyInv ∧ (t.reformSupply c).service.ladders = s.service.ladders ∧
      ∀ q ∈ (t.reformSupply c).service.pending, q.op.refillChannel = none → q ∈ s.service.pending := by
  have quiet := reformSupply_requests (s := t) (c := c) fun _ => .inl (by rw [h.state]; exact wet)
  refine ⟨fun d => ?_, quiet.1.trans h.ladders, fun q hq ho => h.requests q (quiet.2 q hq ho) ho⟩
  by_cases hd : d = c
  · subst hd; exact State.reformSupply_formed ..
  · exact (h.others d hd (inv d)).reformSupply c

theorem Unformed.raise (c : Channel) (s : State) (e : Event) : Unformed c s (s.raise e) := .write rfl (fun _ _ => rfl) fun _ _ => rfl

theorem Unformed.raiseCondition (c : Channel) (s : State) (r : CondRaise) : Unformed c s (s.raiseCondition r) :=
  .write rfl (fun _ _ => rfl) fun _ _ => rfl

theorem Unformed.closeRefill (s : State) (c : Channel) (k : Refill) : Unformed c s (s.closeRefill c k) :=
  .write (Eq.trans (congrArg Supply.state (modifyAt_self ..)) rfl) (fun _ hd => modifyAt_ne hd _) fun _ _ => rfl

theorem Unformed.setFaultMark (s : State) (c : Channel) : Unformed c s (s.setFaultMark c) :=
  .write (Eq.trans (congrArg Supply.state (modifyAt_self ..)) rfl) (fun _ hd => modifyAt_ne hd _) (fun _ _ => rfl)
    (requests := fun _ h => (List.mem_filter.1 h).1)

theorem Unformed.requestRefill (s : State) (c : Channel) (k : RefillKind) (a : Option Nat) (o : Origins) :
    Unformed c s (s.requestRefill c k a o) := by
  have requests := requestRefill_requests s c k a o
  have others : ∀ d, d ≠ c → (s.requestRefill c k a o).supply[d] = s.supply[d] := fun d hd => s.requestRefill_supply_ne hd k a o
  have quiet := Quiet.requestRefill s c k a o
  refine ⟨?_, fun d hd h => h.of_eq (others d hd) (by rw [quiet.accounts]) quiet.tables, requests.1, requests.2⟩
  rcases s.requestRefill_cases c k a o with e | ⟨-, e⟩ | ⟨-, e⟩ <;> rw [e]
  · rfl
  · exact Eq.trans (congrArg Supply.state (modifyAt_self ..)) rfl

theorem Unformed.emptied (s : State) (c : Channel) : Unformed c s (s.emptied c) := by
  unfold State.emptied
  split
  · exact .refl c s
  rw [State.setCart_told]
  have told (r : Cartridge) : Unformed c s (s.cartTold c r) := .write rfl (fun _ _ => rfl) fun _ _ => rfl
  split
  · have withdrawn : Unformed c (s.cartTold c { s.carts[c] with state := .empty })
        ((s.cartTold c { s.carts[c] with state := .empty }).withdraw fun op => op.refillChannel = some c) :=
      .write rfl (fun _ _ => rfl) (fun _ _ => rfl) (requests := fun _ h => (List.mem_filter.1 h).1)
    exact ((told _).trans withdrawn).trans (foldl_keeps (P := Unformed c _)
      (fun t (r : Request) h => h.trans (.requestRefill t c (r.op.refillKind.getD .refill) r.amount r.origins)) (.refl c _) _)
  · rw [if_neg (by simp [CartState.canSupply])]
    exact told _

/-- From s to t the supply states stand formed, every ladder stands, and refills alone are placed. -/
structure Steady (s t : State) : Prop where
  formed : t.SupplyInv
  ladders : t.service.ladders = s.service.ladders
  requests : ∀ q ∈ t.service.pending, q.op.refillChannel = none → q ∈ s.service.pending

theorem Steady.trans (h : Steady s t) (k : Steady t u) : Steady s u :=
  ⟨k.formed, k.ladders.trans h.ladders, fun q hq ho => h.requests q (k.requests q hq ho) ho⟩

/-- What is written besides supply records, accounts, tables and ladders, requests being withdrawn. -/
theorem Steady.of_eq (inv : s.SupplyInv) (supply : t.supply = s.supply := by rfl) (accounts : t.accounts = s.accounts := by rfl)
    (tables : t.tables = s.tables := by rfl) (ladders : t.service.ladders = s.service.ladders := by rfl)
    (requests : ∀ q ∈ t.service.pending, q ∈ s.service.pending := by exact fun _ h => h) : Steady s t :=
  ⟨supplyInv_congr supply accounts tables inv, ladders, fun q hq _ => requests q hq⟩

section

variable (inv : s.SupplyInv) (wet : s.supply[c].state ≠ .starved)
include inv wet

theorem Unformed.steady (h : Unformed c s t) : Steady s (t.reformSupply c) := by
  obtain ⟨formed, ladders, requests⟩ := h.reform inv wet
  exact ⟨formed, ladders, requests⟩

theorem Steady.endRefill (h : Unformed c s t) (k : Refill) (why : RefillEnd) : Steady s (t.endRefill c k why) :=
  ((h.trans (.closeRefill t c k)).trans (.raise ..)).steady inv wet

theorem Steady.faultRefill (h : Unformed c s t) (k : Refill) (why : RefillFaultReason) : Steady s (t.faultRefill c k why) :=
  (((h.trans (.closeRefill t c k)).trans (.setFaultMark ..)).trans (.raise ..)).trans (.raiseCondition ..) |>.steady inv wet

end

theorem Steady.strokeBegun (inv : s.SupplyInv) {k : Refill} (hk : s.supply[c].refill = some k) : Steady s (s.strokeBegun c k) := by
  refine ⟨fun d => ?_, rfl, fun q hq _ => hq⟩
  by_cases hd : d = c
  · subst hd
    have written : (s.strokeBegun d k).supply[d] = { s.supply[d] with refill := some { k with inStroke := true, markSeen := false } } :=
      modifyAt_self ..
    have same : (s.strokeBegun d k).formedSupply d = s.formedSupply d := by
      unfold State.formedSupply
      dsimp only
      rw [written, hk]
      rfl
    show (s.strokeBegun d k).supply[d].state = _
    rw [same, written]
    exact inv d
  · exact State.Formed.of_eq (s := s) (inv d) (modifyAt_ne hd _) rfl rfl

/-- The check of a first stroke leaves the ladders and the requests of no refill. -/
theorem Steady.beginStroke (inv : s.SupplyInv) (wet : s.supply[c].state ≠ .starved) : Steady s (s.beginStroke c) := by
  cases hk : s.supply[c].refill with
  | none => rw [State.beginStroke_of_none hk]; exact ⟨inv, rfl, fun _ h _ => h⟩
  | some k =>
    rw [State.beginStroke_eq hk]
    split
    · exact .endRefill inv wet (.refl c s) k _
    · split
      · exact .endRefill inv wet (.emptied s c) k _
      · split
        · exact .faultRefill inv wet (.refl c s) k _
        · split
          · exact .faultRefill inv wet (.refl c s) k _
          · exact .strokeBegun inv hk

/-- A refill's record written makes the channel FILLING. -/
theorem Unformed.recorded (s : State) (c : Channel) (kind : RefillKind) (k : Refill) :
    Unformed c s { s.zeroed c kind with supply := modifyAt s.supply c fun q => { q with refill := some k } } := by
  refine .write (Eq.trans (congrArg Supply.state (modifyAt_self ..)) rfl) (fun d hd => modifyAt_ne hd _) (fun d hd => ?_)
  unfold State.zeroed
  dsimp only
  split
  · exact modifyAt_ne hd _
  · rfl

theorem refillWritten_wet (s : State) (c : Channel) (kind : RefillKind) (a : Option Nat) :
    (s.refillWritten c kind a).supply[c].state ≠ .starved := by
  have filling : (s.refillWritten c kind a).supply[c].refill ≠ none := by
    have same : (s.refillWritten c kind a).supply[c].refill = _ := ((Quiet.reformSupply _ c).refills c).1
    have written : (modifyAt s.supply c fun q => { q with
        refill := some (newRefill s.tables.channel[c] s.accounts[c].reserved kind a) })[c].refill =
          some (newRefill s.tables.channel[c] s.accounts[c].reserved kind a) := congrArg Supply.refill (modifyAt_self ..)
    rw [same]
    dsimp only
    rw [Ne, written]
    nofun
  have formed : (s.refillWritten c kind a).Formed c := State.reformSupply_formed ..
  rw [show (s.refillWritten c kind a).supply[c].state = _ from formed, Ne, State.formedSupply_eq_starved]
  rintro ⟨-, idle, -⟩
  exact filling (Option.isNone_iff_eq_none.1 (by rw [← Option.not_isSome, idle]; rfl))

/-- A granted refill leaves the ladders and the requests of no refill. -/
theorem Steady.startRefill (inv : s.SupplyInv) (wet : s.supply[c].state ≠ .starved) (kind : RefillKind) (a : Option Nat) :
    Steady s (s.startRefill c kind a) := by
  have written : Steady s (s.refillWritten c kind a) := (Unformed.recorded s c kind _).steady inv wet
  have wet' := refillWritten_wet s c kind a
  rw [State.startRefill_eq]
  dsimp only
  split
  · exact written.trans (.endRefill written.formed wet' (.refl c _) _ _)
  · split
    · exact written.trans (.beginStroke written.formed wet')
    · exact written

theorem Steady.grantOp {q : Request} (inv : s.SupplyInv) (wet : s.supply[c].state ≠ .starved) {kd : RefillKind} (refill : q.op = kd.op c) :
    Steady s (s.grantOp q) := by
  have channel : q.op.refillChannel = some c := by rw [refill]; cases kd <;> rfl
  have kind : q.op.refillKind = some kd := by rw [refill]; cases kd <;> rfl
  have granted : Steady s (s.granted q) ∧ (s.granted q).supply = s.supply := by
    cases docked : s.service.docked with
    | true =>
      rw [State.granted_docked docked]
      exact ⟨.of_eq inv (requests := fun _ h => (List.mem_filter.1 h).1), rfl⟩
    | false =>
      rw [State.granted_undocked docked]
      exact ⟨.of_eq inv (requests := fun _ h => (List.mem_filter.1 h).1), rfl⟩
  obtain ⟨steady, supply⟩ := granted
  rw [State.grantOp_eq, channel, kind]
  dsimp only
  generalize s.granted q = g at *
  split
  · have runs : Steady g (g.refillRuns (s.grantedOp q)) := .of_eq steady.formed
    exact (steady.trans runs).trans (.startRefill runs.formed (by rw [show (g.refillRuns _).supply = _ from supply]; exact wet) kd q.amount)
  · exact steady.trans (.startRefill steady.formed (by rw [supply]; exact wet) kd q.amount)

end

/-! ## The statement -/

section

variable {s : State} {r : Request} {c : Channel} {k : InkKind}
  (free : s.service.holder = .free) (noPass : s.pass = none) (clear : s.stop.set = false)
  (alone : s.service.pending = [r]) (asked : s.service.passAsked = false) (prime : r.op = .prime c)

include free noPass clear alone asked prime

/-- A PRIME whose volume can never fit below the mark is withdrawn, and the refill that it asked for is granted. -/
theorem prime_never_fits (inv : s.SupplyInv) (idle : s.supply[c].refill = none) (kind : s.tables.kindOf c = some k)
    (dry : s.primeFits c = false) (mark : s.supply[c].faultMark = false) (able : s.canSupply c = true) (unneeded : s.supply[c].need = none)
    (never : s.tables.channel[c].markLevel < s.tables.channel[c].floor + k.primeVolume) :
    ∃ t, exec .arbiterGrant s = .next t ∧ (∀ q ∈ t.service.pending, q.op ≠ .prime c) ∧
      s.tells t (.stationFailed (.prime c) .noInk none) ∧ t.service.ladders[c] = s.service.ladders[c].primeLeft r.origins .fault := by
  obtain ⟨wet, notFault⟩ := formedSupply_wet mark idle unneeded
  have state : s.supply[c].state = s.formedSupply c := inv c
  rw [← state] at wet notFault
  have formed : (s.primeAsked c k.primeVolume).SupplyInv := supplyInv_congr rfl rfl rfl inv
  have asks : s.primeAsks c = s.primeAsked c k.primeVolume :=
    (primeAsks_of_able kind mark able).trans (State.reformSupply_of_formed (formed c))
  have lost : (s.primeAsks c).primeLost c = some .fault := by
    have stands : (s.primeAsks c).supply = s.supply ∧ (s.primeAsks c).tables = s.tables := by rw [asks]; exact ⟨rfl, rfl⟩
    unfold State.primeLost
    rw [stands.1, stands.2, kind, if_neg wet]
    dsimp only
    rw [if_neg notFault, if_pos never]
  have fails := primeFails_of_lost lost r.origins
  rw [asks] at fails
  have asksQuiet : Follows s (s.primeAsked c k.primeVolume) := Follows.place ..
  have pending := primeAsked_pending alone prime k.primeVolume
  have others : ((s.primeAsked c k.primeVolume).service.pending.filter fun q => !decide (q.op = .prime c)) =
      [primeCall c s.accounts[c].known k.primeVolume] := by
    rw [pending]
    cases s.accounts[c].known <;> simp [prime, primeCall]
  have left := primeLeft_pending others (by simp [primeCall, byPrime]) r.origins .fault
  have ladder := primeLeft_ladder (s.primeAsked c k.primeVolume) c r.origins .fault
  have told := primeLeft_told (s.primeAsked c k.primeVolume) c r.origins .fault
  have quiet := Quiet.primeLeft (s.primeAsked c k.primeVolume) c r.origins .fault
  have supply := primeLeft_supply (s.primeAsked c k.primeVolume) c r.origins .fault
  have notAsked : ((s.primeAsked c k.primeVolume).primeLeft c r.origins .fault).service.passAsked = false := by rw [quiet.frame]; exact asked
  have step := arbiterGrant_dry free noPass clear alone prime dry (by
    rw [fails]
    refine .inl (List.any_eq_true.2 ⟨primeCall c s.accounts[c].known k.primeVolume, by rw [left]; exact List.mem_singleton.2 rfl, ?_⟩)
    cases s.accounts[c].known <;> rfl) (by rw [fails]; exact notAsked)
  rw [fails] at step
  have ladders : (s.primeAsked c k.primeVolume).service.ladders = s.service.ladders := rfl
  have lane : (s.primeAsked c k.primeVolume).lane = s.lane ∧ (s.primeAsked c k.primeVolume).now = s.now := ⟨rfl, rfl⟩
  rw [ladders] at ladder
  rw [lane.1, lane.2] at told
  have inv' : ((s.primeAsked c k.primeVolume).primeLeft c r.origins .fault).SupplyInv :=
    supplyInv_congr supply quiet.accounts quiet.tables formed
  have wet' : ((s.primeAsked c k.primeVolume).primeLeft c r.origins .fault).supply[c].state ≠ .starved := by rw [supply]; exact wet
  generalize (s.primeAsked c k.primeVolume).primeLeft c r.origins .fault = x at step ladder told left inv' wet'
  have goes : x.firstRequest = some (primeCall c s.accounts[c].known k.primeVolume) := by
    unfold State.firstRequest State.grantable
    rw [left]
    cases s.accounts[c].known <;> rfl
  rw [goes] at step
  dsimp only at step
  have steady := Steady.grantOp (q := primeCall c s.accounts[c].known k.primeVolume) inv' wet'
    (kd := if s.accounts[c].known then .urgent else .fill) (by cases s.accounts[c].known <;> rfl)
  have granted := Kept.grantOp x (primeCall c s.accounts[c].known k.primeVolume)
  generalize x.grantOp (primeCall c s.accounts[c].known k.primeVolume) = y at step steady granted
  obtain ⟨t, ht, follows⟩ := ends_follows false s y
  have tends : Tends y t := Host.Outcome.next.inj ht ▸ Tends.finish false s y
  refine ⟨t, step.trans ht, fun q hq e => ?_, fun room => ?_, ?_⟩
  · have here := steady.requests q (tends.requests steady.formed q hq (by rw [e]; rfl)) (by rw [e]; rfl)
    rw [left, List.mem_singleton] at here
    rw [here] at e
    cases h : s.accounts[c].known <;> rw [h] at e <;> cases e
  · exact follows.events.subset (List.mem_append_right _ (granted.lane.mem (told (by omega))))
  · rw [tends.ladders steady.formed, steady.ladders]
    exact ladder

omit free noPass clear alone asked prime in
/-- The need that a PRIME records where no cartridge can supply (R60). -/
theorem primeAsks_of_unable (kind : s.tables.kindOf c = some k) (mark : s.supply[c].faultMark = false) (unable : s.canSupply c = false) :
    s.primeAsks c = (s.recordNeed c ⟨if s.accounts[c].known then .urgent else .fill, some k.primeVolume, byPrime⟩).reformSupply c := by
  rw [primeAsks_of_kind kind, requestRefill_prime, mark, unable, if_neg Bool.false_ne_true, if_neg Bool.false_ne_true]

omit free noPass clear alone asked prime in
theorem primeAsks_needs (kind : s.tables.kindOf c = some k) (mark : s.supply[c].faultMark = false) (unable : s.canSupply c = false) :
    ∃ n, (s.primeAsks c).supply[c].need = some n ∧ n.origins.prime = true ∧ (s.accounts[c].known = false → n.kind = .fill) := by
  rw [primeAsks_of_unable kind mark unable, State.reformSupply_need]
  refine ⟨_, congrArg Supply.need (modifyAt_self ..), ?_⟩
  cases s.supply[c].need with
  | none => exact ⟨rfl, fun unknown => by rw [unknown]; rfl⟩
  | some o =>
    refine ⟨by simp [Need.join, Origins.union, byPrime], fun unknown => ?_⟩
    rw [unknown]
    simp [Need.join]

/-- A PRIME that no refill can serve is withdrawn alone: bound to no kind, under the fault mark, or without a cartridge that can supply. -/
theorem prime_unserved (inv : s.SupplyInv) (idle : s.supply[c].refill = none) (cause : SuspendCause) (dry : s.primeFits c = false)
    (why : (s.tables.kindOf c = none ∧ cause = if s.supply[c].faultMark = false ∧ s.supply[c].need ≠ none then SuspendCause.starved else .fault) ∨
      (s.tables.kindOf c ≠ none ∧ s.supply[c].faultMark = true ∧ cause = .fault) ∨
      (s.tables.kindOf c ≠ none ∧ s.supply[c].faultMark = false ∧ s.canSupply c = false ∧ cause = .starved)) :
    ∃ t, exec .arbiterGrant s = .next t ∧ ((∀ q ∈ t.service.pending, q.op ≠ .prime c) ∧
      s.tells t (.stationFailed (.prime c) .noInk none) ∧ t.service.ladders[c] = s.service.ladders[c].primeLeft r.origins cause) ∧
      Follows { s with service := { s.service with pending := [], ladders := t.service.ladders } } t ∧
      t.lane.conditions.stationFault = s.lane.conditions.stationFault ∧ NeedKept c (s.primeAsks c) t := by
  obtain ⟨starved_iff, fault_iff⟩ := state_of_formed inv idle
  rcases why with ⟨kind, rfl⟩ | ⟨bound, mark, rfl⟩ | ⟨bound, mark, unable, rfl⟩
  · have asks : s.primeAsks c = s := by unfold State.primeAsks; rw [kind]
    rw [asks]
    refine prime_withdrawn free noPass clear alone asked prime dry asks ?_ inv alone rfl fun _ _ => rfl
    unfold State.primeLost
    rw [kind]
    by_cases starved : s.supply[c].state = .starved
    · rw [if_pos starved, if_pos (starved_iff.1 starved)]
    · rw [if_neg starved, if_neg (mt starved_iff.2 starved)]
  · obtain ⟨k, kind⟩ := Option.ne_none_iff_exists'.1 bound
    have asks : s.primeAsks c = s := by
      rw [primeAsks_of_kind kind, requestRefill_prime, if_pos mark, State.reformSupply_of_formed (inv c)]
    rw [asks]
    refine prime_withdrawn free noPass clear alone asked prime dry asks ?_ inv alone rfl fun _ _ => rfl
    have notStarved : s.supply[c].state ≠ .starved := fun h => by rw [(starved_iff.1 h).1] at mark; cases mark
    unfold State.primeLost
    rw [kind, if_neg notStarved]
    exact if_pos (fault_iff.2 mark)
  · obtain ⟨k, kind⟩ := Option.ne_none_iff_exists'.1 bound
    have reforms : Reforms s (s.primeAsks c) := by rw [primeAsks_of_kind kind]; exact .requestReform ..
    have pending : (s.primeAsks c).service.pending = [r] := by
      rw [primeAsks_of_unable kind mark unable, recordNeed_reform_pending inv, alone]
    have quiet := Quiet.primeAsks s c
    obtain ⟨n, need, -⟩ := primeAsks_needs kind mark unable
    have formed := reforms.supply inv
    have starved : (s.primeAsks c).supply[c].state = .starved := by
      rw [show (s.primeAsks c).supply[c].state = _ from formed c, State.formedSupply_eq_starved, (quiet.refills c).1, (quiet.refills c).2,
        need, idle]
      exact ⟨mark, rfl, rfl⟩
    refine prime_withdrawn free noPass clear alone asked prime dry rfl ?_ formed pending (reforms.ladders inv) reforms.clear
    unfold State.primeLost
    exact if_pos starved

end

/-- Settles O29. -/
theorem grantedPrimeHasItsInk : Obligations.GrantedPrimeHasItsInk := by
  intro s r c free noPass clear alone asked prime
  refine ⟨fun k kind => ⟨fun inked => ?inked, fun dry mark able idle unneeded undocked fits => ?refilled⟩, fun inv idle => ?withdrawn⟩
  case inked =>
    have fits := (s.primeFits_iff c).2 ⟨k, kind, inked⟩
    refine ⟨prime_granted_undocked free noPass clear alone asked prime fits, fun docked => ?_⟩
    have granted := prime_granted_docked free noPass clear alone asked prime fits docked
    rw [kind] at granted
    exact granted
  case refilled => exact prime_refilled free noPass clear alone asked prime kind dry mark able idle unneeded undocked fits
  case withdrawn =>
    intro l inked starved withdrawn
    have dry (h : ¬ inked) : s.primeFits c = false := by
      rw [Bool.eq_false_iff, ne_eq, State.primeFits_iff]
      exact h
    refine ⟨fun cause why => ?_, fun k kind notInked mark able unneeded never => ?_⟩
    · have unfit : s.primeFits c = false := by
        rcases why with ⟨kind, -⟩ | ⟨-, h, -⟩ | ⟨h, -⟩
        · unfold State.primeFits
          rw [kind]
        · exact dry h
        · exact dry h.2.1
      obtain ⟨t, step, left, follows, latched, need⟩ := prime_unserved free noPass clear alone asked prime inv idle cause unfit (by
        rcases why with h | ⟨bound, -, mark, e⟩ | ⟨⟨bound, -, mark, unable⟩, e⟩
        · exact .inl h
        · exact .inr (.inl ⟨bound, mark, e⟩)
        · exact .inr (.inr ⟨bound, mark, unable, e⟩))
      refine ⟨t, step, left, follows, latched, fun ⟨bound, _, mark, unable⟩ => ?_⟩
      obtain ⟨k, kind⟩ := Option.ne_none_iff_exists'.1 bound
      obtain ⟨n, hn, origin, fill⟩ := primeAsks_needs kind mark unable
      obtain ⟨m, hm, origin', fill'⟩ := need n hn
      exact ⟨m, hm, origin' origin, fun unknown => fill' (fill unknown)⟩
    · exact prime_never_fits free noPass clear alone asked prime inv idle kind (dry notInked) mark able unneeded never

end Sys2Proof.Machine
end

section
/-!
PROOFS. ENGINE RESET on a state outside the ladder's and the supply state's tables: an interrupted PRIME is charged before the ladders are
reset, and that charge returns a SUSPENDED ladder to whatever step its record names (R115). A record that names DEGRADED leaves the ladder
DEGRADED, which R113 keeps. LadderInv and SupplyInv exclude such a state; the statement takes neither as a premise.
-/

-- One declaration at a time: side by side, the threads' stacks come near the memory limit of the check.
set_option Elab.async false

namespace Sys2Proof.Machine

/-- A PRIME of channel 0 runs, whose ladder is SUSPENDED in a step recorded as DEGRADED. -/
def misformedReset : State := misformed (.prime 0) .cap (starvedLadder .degraded .operation)

theorem misformedReset_leaves_degraded :
    (State.finish false misformedReset misformedReset.engineReset).service.ladders[(0 : Channel)].state = .degraded := by
  have hburst : ∀ c, (spitless (.prime 0)).req.op.burst (spitless (.prime 0)).spit c = Counts.zero := by decide
  have running : misformedReset.abortPass.abandonOp = misformedReset.haltOp (spitless (.prime 0)) .abandoned := rfl
  unfold State.engineReset
  rw [running]
  unfold State.haltOp State.opInterrupted
  rw [State.opCharged_of_burst_zero hburst _ _ wholeProgress]
  decide +kernel

/-- Refutes O26: the charge of the PRIME makes channel 0 leave STARVED and its ladder DEGRADED before the ladders are reset. -/
theorem not_engineResetReturnsToTheInitialState : ¬ Obligations.EngineResetReturnsToTheInitialState := by
  intro h
  obtain ⟨t, ht, ⟨-, -, -, -, -, -, -, -, -, -, -, -, ladders, -⟩, -⟩ := (h misformedReset).1
  have degraded : t.service.ladders[(0 : Channel)].state = .degraded := Host.Outcome.next.inj ht ▸ misformedReset_leaves_degraded
  have normal : t.service.ladders[(0 : Channel)].state = .normal := (ladders 0).2.2 (by decide)
  rw [degraded] at normal
  cases normal

end Sys2Proof.Machine
end

section
/-!
PROOFS. The writes of the loaded tables (R153 to R158): how TABLE WRITE answers a write of a record, and what each table's write leaves.
-/

-- One declaration at a time: side by side, the threads' stacks come near the memory limit of the check.
set_option Elab.async false

namespace Sys2Proof.Machine

/-! ## The answer to a write of a record -/

/-- A body that reads as a write of a loaded table is none of the SUBSTITUTION operations. -/
theorem isTableWrite_of_read {tag : Byte} {body : List Byte} {tb ix : Nat} {fs : List (Nat × Int)}
    (h : readTableWrite body = some (tb, ix, fs)) (loaded : tb ≠ 6) : isTableWrite ⟨0x18#8, tag, body⟩ = true := by
  have first : ∀ op, isSubstitution op ⟨0x18#8, tag, body⟩ = false := fun op => by
    unfold isSubstitution
    dsimp only
    split
    next t i o n1 n0 =>
      have table : t.toNat = tb := by
        unfold readTableWrite at h
        dsimp only at h
        split at h
        · obtain ⟨l, -, same⟩ := Option.map_eq_some_iff.1 h
          exact congrArg Prod.fst same
        · cases h
      simp [table, loaded]
    · exact Bool.and_false _
  unfold isTableWrite
  rw [ofKind_self, first, first, first]
  rfl

/-- The state with the reply of a write that was stored, with the stored value of each clamped field (R153). -/
def State.wrote (u : State) (tag : Byte) (cl : List (Nat × Int)) : State :=
  u.replied 0x18#8 tag (if cl = [] then .done else .clamped) (if cl = [] then .none else .clamped cl)

section

variable {s : State} {tag : Byte} {body : List Byte} {tb ix : Nat} {fs : List (Nat × Int)}

theorem tableWrite_serves (h : s.asks 0x18#8 tag body) (loaded : isTableWrite ⟨0x18#8, tag, body⟩ = true) {a : Answer}
    (ha : tableWrite body s.popped = a) :
    ∃ t, exec .tableWrite s = .next t ∧ Follows (a.state.replied 0x18#8 tag a.outcome a.data) t := by
  subst ha
  have run : exec .tableWrite s = serveWith true isTableWrite tableWrite s := rfl
  exact runs_of_ends _ (run.trans (serveWith_of_asks h true _ loaded tableWrite))

/-- What reads as no write of a record is refused with RANGE. -/
theorem unreadable_refused (h : s.asks 0x18#8 tag body) (loaded : isTableWrite ⟨0x18#8, tag, body⟩ = true)
    (none : readTableWrite body = none ∨ ∃ tb ix fs, readTableWrite body = some (tb, ix, fs) ∧ writeTable tb ix fs s.popped = .none) :
    Runs .tableWrite s (s.answered 0x18#8 tag .range) := by
  refine tableWrite_serves h loaded (a := .refuse s.popped .range) ?_
  unfold tableWrite
  rcases none with unread | ⟨tb, ix, fs, read, norecord⟩
  · rw [unread]
  · simp only [read, norecord]

theorem write_refused (h : s.asks 0x18#8 tag body) (read : readTableWrite body = some (tb, ix, fs)) (loaded : tb ≠ 6) {o : ReplyOutcome}
    (hw : writeTable tb ix fs s.popped = some (.refused o)) : Runs .tableWrite s (s.answered 0x18#8 tag o) := by
  refine tableWrite_serves h (isTableWrite_of_read read loaded) (a := .refuse s.popped o) ?_
  unfold tableWrite
  simp only [read, hw]

/-- A write that is stored leaves what its table does, with its reply. -/
theorem write_stored (h : s.asks 0x18#8 tag body) (read : readTableWrite body = some (tb, ix, fs)) (loaded : tb ≠ 6) {x : State}
    {cl : List (Nat × Int)} (hw : writeTable tb ix fs s.popped = some (.stored x cl)) :
    ∃ t, exec .tableWrite s = .next t ∧ Follows (x.wrote tag cl) t := by
  cases cl with
  | nil =>
    refine tableWrite_serves h (isTableWrite_of_read read loaded) (a := .done x) ?_
    unfold tableWrite
    simp only [read, hw]
  | cons c cs =>
    refine tableWrite_serves h (isTableWrite_of_read read loaded) (a := ⟨x, .clamped, .clamped (c :: cs)⟩) ?_
    unfold tableWrite
    simp only [read, hw]

end

/-- A write reaches no record exactly where a read does not. -/
theorem writeTable_eq_none {tb ix : Nat} {fs : List (Nat × Int)} {s : State} (h : readRecord tb ix s = none) :
    writeTable tb ix fs s = none := by
  unfold readRecord at h
  unfold writeTable
  dsimp only at h
  split at h
  case h_4 => split_ifs at h ⊢; rfl
  case h_5 =>
    split_ifs at h ⊢
    rw [Option.map_eq_none_iff] at h ⊢
    exact h
  case h_7 => rfl
  all_goals
    rw [Option.map_eq_none_iff] at h ⊢
    exact h

section

variable {α : Type} {put : α → Nat → Int → FieldWrite α} {old r : α} {fs cl : List (Nat × Int)} {valid : α → Bool} {inUse : Bool}
  {store : α → State}

theorem writeRecord_of_refused (h : putFields put fs old = none) :
    writeRecord put old fs valid inUse store = .refused .range := by
  unfold writeRecord
  rw [h]

theorem writeRecord_of_invalid (h : putFields put fs old = some (r, cl)) (bad : valid r = false) :
    writeRecord put old fs valid inUse store = .refused .range := by
  unfold writeRecord
  rw [h]
  simp [bad]

theorem writeRecord_of_used (h : putFields put fs old = some (r, cl)) (good : valid r = true) (used : inUse = true) :
    writeRecord put old fs valid inUse store = .refused .inUse := by
  unfold writeRecord
  rw [h]
  simp [good, used]

theorem writeRecord_of_free (h : putFields put fs old = some (r, cl)) (good : valid r = true) (free : inUse = false) :
    writeRecord put old fs valid inUse store = .stored (store r) cl := by
  unfold writeRecord
  rw [h]
  simp [good, free]

end

/-! ## The records by their table -/

theorem intFin_val {n : Nat} (k : Fin n) : intFin n k.val = some k := intFin_natCast k.isLt

theorem writeTable_ink (k : Fin 16) (fs : List (Nat × Int)) (s : State) : writeTable 0 k.val fs s = some (writeInk k fs s) := by
  show (intFin 16 k.val).map _ = _
  rw [intFin_val]; rfl

theorem writeTable_channel (c : Channel) (fs : List (Nat × Int)) (s : State) :
    writeTable 1 c.val fs s = some (writeChannel c fs s) := by
  show (intFin 6 c.val).map _ = _
  rw [intFin_val]; rfl

theorem writeTable_profile (k : Fin 16) (fs : List (Nat × Int)) (s : State) :
    writeTable 2 k.val fs s = some (writeProfile k fs s) := by
  show (intFin 16 k.val).map _ = _
  rw [intFin_val]; rfl

theorem writeTable_scan (i : AIn) (fs : List (Nat × Int)) (s : State) : writeTable 4 i.val fs s = some (writeScan i fs s) := by
  show (if i.val = 12 then _ else (intFin 12 i.val).map _) = _
  rw [if_neg (by have := i.isLt; omega), intFin_val]; rfl

theorem writeTable_input (i : DIn) (fs : List (Nat × Int)) (s : State) : writeTable 5 i.val fs s = some (writeInput i fs s) := by
  show (intFin 16 i.val).map _ = _
  rw [intFin_val]; rfl

/-! ## A changed spit count (R155) -/

/-- A changed spit count changes the operation in flight and the free choices taken alone. -/
theorem State.respit_frame (u : State) : u.respit =
    { u with freeCount := u.respit.freeCount, service := { u.service with holder := u.respit.service.holder } } := by
  rcases u.respit_eq with kept | ⟨o, b, v, -, -, changed⟩
  · rw [kept]
  · rw [changed]

theorem Service.inFlight_eq_none {v : Service} (h : ∀ o, v.holder ≠ .op o) : v.inFlight = none := by
  unfold Service.inFlight
  split
  next o ho => exact absurd ho (h o)
  · rfl

theorem State.respit_tracked (u : State) : spitTracked u u.respit := by
  have tables : u.respit.tables = u.tables := by rw [u.respit_frame]
  refine ⟨fun o ho => ?_, fun no => ?_⟩
  · rw [tables]
    unfold State.respit
    rw [show u.service.inFlight = some o from Service.inFlight_eq_some.2 ho]
    by_cases due : o.running = true ∧ o.req.op.spits = true ∧ o.spat = false ∧ o.spit ≠ u.tables.spitCounts
    · obtain ⟨running, spits, waits, other⟩ := due
      simp only [running, spits, waits, other, ne_eq, not_false_eq_true, decide_true, Bool.not_false, Bool.and_true, and_self, if_true]
      cases Config.spitBegun u.freeCount with
      | true => exact ⟨_, rfl, .inl rfl⟩
      | false => exact ⟨_, rfl, .inr (by simp)⟩
    · dsimp only
      rw [if_neg (by simpa [and_assoc] using due)]
      exact ⟨o, ho, by rw [if_neg due]; exact ⟨rfl, rfl⟩⟩
  · have same : u.respit = u := by
      unfold State.respit
      rw [Service.inFlight_eq_none no]
    rw [same]
    exact ⟨rfl, rfl⟩

/-- What is tracked of the spit stands where the operation in flight and the free choices stand. -/
theorem spitTracked_congr {u x s t : State} (h : spitTracked u x) (hs : s.service.holder = u.service.holder) (fs : s.freeCount = u.freeCount)
    (ht : t.service.holder = x.service.holder) (ft : t.freeCount = x.freeCount) (tables : t.tables = x.tables) : spitTracked s t := by
  unfold spitTracked at *
  rw [hs, fs, ht, ft, tables]
  exact h

section

variable {s : State} {tag : Byte} {body : List Byte} {fs : List (Nat × Int)}

theorem inkInUse_iff (k : Fin 16) : s.inkInUse k = true ↔ (∃ c : Channel, s.tables.channel[c].kind = some k) ∧
    ∃ i : SlotIx, s.slots[i].state = .queued ∨ s.slots[i].state = .printing := by
  unfold State.inkInUse
  rw [Bool.and_eq_true, List.any_eq_true, List.any_eq_true]
  refine and_congr ⟨fun ⟨c, _, h⟩ => ⟨c, of_decide_eq_true h⟩, fun ⟨c, h⟩ => ⟨c, mem_channels c, decide_eq_true h⟩⟩ ⟨?_, ?_⟩
  · rintro ⟨sl, mem, h⟩
    obtain ⟨i, hi, rfl⟩ := List.mem_iff_getElem.1 mem
    rw [Vector.length_toList] at hi
    exact ⟨⟨i, hi⟩, by simpa using h⟩
  · rintro ⟨i, h⟩
    exact ⟨s.slots[i], by simp, by simpa using h⟩

theorem ink_written (h : s.asks 0x18#8 tag body) (k : Fin 16) (read : readTableWrite body = some (0, k.val, fs)) {r : InkKind}
    {cl : List (Nat × Int)} (put : putFields InkKind.put fs s.tables.ink[k] = some (r, cl)) (free : s.inkInUse k = false) :
    ∃ t, exec .tableWrite s = .next t ∧ spitTracked s t ∧ Follows (({ s.popped with
      tables := { s.tables with ink := setAt s.tables.ink k r }, freeCount := t.freeCount
      service := { s.service with holder := t.service.holder } } : State).wrote tag cl) t := by
  let u : State := s.popped.tabled { s.tables with ink := setAt s.tables.ink k r } s.maps.next
  have wrote : writeInk k fs s.popped = .stored u.respit cl := writeRecord_of_free (valid := fun _ => true) put rfl free
  obtain ⟨t, ht, follows⟩ := write_stored h read (by decide) ((writeTable_ink ..).trans (congrArg some wrote))
  have tracked := spitTracked_congr u.respit_tracked (s := s) rfl rfl follows.holder follows.freeCount follows.tables
  refine ⟨t, ht, tracked, ?_⟩
  have holder : t.service.holder = u.respit.service.holder := follows.holder
  have count : t.freeCount = u.respit.freeCount := follows.freeCount
  rw [u.respit_frame, ← holder, ← count] at follows
  exact follows

end

end Sys2Proof.Machine
end

section
/-!
PROOFS. Settles O23: the write of a channel record, of the service record and of a scan record, and the statement on TABLE WRITE.
-/

-- One declaration at a time: side by side, the threads' stacks come near the memory limit of the check.
set_option Elab.async false

namespace Sys2Proof.Machine

theorem Follows.wrote {u v : State} (h : Follows u v) (tag : Byte) (cl : List (Nat × Int)) : Follows (u.wrote tag cl) (v.wrote tag cl) :=
  h.replied _ _ _ _

/-! ## A channel record written (R73, R85, R155, R156) -/

/-- The cartridge record of slot c after a channel record's write: its state formed again where the write names what forms it (R73). -/
def State.recarted (u : State) (c : Channel) (fields : List (Nat × Int)) : Cartridge :=
  { u.carts[c] with
    state := if u.carts[c].state.identified = true ∧ namesCartridge fields = true then
        formedCart u.tables.channel[c] u.carts[c].remaining
      else u.carts[c].state }

theorem carted_same (u : State) (c : Channel) : u.carted c u.carts[c] = u := by
  have same : setAt u.carts c u.carts[c] = u.carts := Vector.set_getElem_self ..
  unfold State.carted
  rw [same]

theorem reformCart_quiet (u : State) (c : Channel) (fields : List (Nat × Int)) (named : namesCartridge fields = true) :
    Quiet 4 (u.carted c (u.recarted c fields)) (u.reformCart c) := by
  unfold State.reformCart
  dsimp only
  split
  next changed =>
    obtain ⟨identified, other⟩ := Bool.and_eq_true_iff.1 changed
    have formed : u.recarted c fields = { u.carts[c] with state := formedCart u.tables.channel[c] u.carts[c].remaining } := by
      unfold State.recarted
      rw [if_pos ⟨identified, named⟩]
    rw [formed]
    exact (Quiet.setCart ..).mono (by omega)
  next same =>
    have kept : u.recarted c fields = u.carts[c] := by
      unfold State.recarted
      split
      next names =>
        have equal : u.carts[c].state = formedCart u.tables.channel[c] u.carts[c].remaining := by
          by_contra other
          exact same (Bool.and_eq_true_iff.2 ⟨names.1, decide_eq_true other⟩)
        rw [← equal]
      · rfl
    rw [kept, carted_same]
    exact (Quiet.refl u).mono (by omega)

/-- After its record a channel's write respits, forms the cartridge record again, and is quiet. -/
theorem channelFormed_quiet (u : State) (c : Channel) (fields : List (Nat × Int)) :
    Quiet 6 (u.respit.carted c (u.recarted c fields)) (u.channelFormed c fields) := by
  have same : u.recarted c fields = u.respit.recarted c fields := by
    rw [u.respit_frame]
    rfl
  rw [same]
  unfold State.channelFormed
  by_cases named : namesCartridge fields = true
  · rw [if_pos named]
    exact (reformCart_quiet _ c fields named).trans (.reformSupply ..)
  · rw [if_neg named]
    have kept : u.respit.recarted c fields = u.respit.carts[c] := by
      unfold State.recarted
      rw [if_neg fun h => named h.2]
    rw [kept, carted_same]
    exact (Quiet.reformSupply ..).mono (by omega)

/-- A channel record's write changes no more of the Next bank than its lists. -/
theorem channelNext_frame (s : State) (c : Channel) (r : ChannelRec × Int) :
    s.channelNext c r = { s.maps.next with lists := (s.channelNext c r).lists } := by
  unfold State.channelNext
  split <;> rfl

theorem map_dead_channelNext (s : State) (c : Channel) (r : ChannelRec × Int) (d : Channel) :
    (s.channelNext c r).lists[d].map (·.dead) = s.maps.next.lists[d].map (·.dead) := deadList_channelNext s c r d

theorem channelNext_other (s : State) {c d : Channel} (hd : d ≠ c) (r : ChannelRec × Int) :
    (s.channelNext c r).lists[d] = s.maps.next.lists[d] := by
  unfold State.channelNext
  split
  · rw [Bank.getElem_reResolve, getElem_channelSingle, if_neg (by simpa using hd)]
  · rfl

/-- A channel's list is resolved again where its policy or partner changes. -/
theorem channelNext_resolved {s : State} {c : Channel} {r : ChannelRec × Int}
    (h : s.tables.channel[c].policy ≠ r.1.policy ∨ s.tables.channel[c].partner ≠ r.1.partner) :
    ∀ e ∈ (s.channelNext c r).lists[c], e.sub = resolve (s.channelTables c r) (s.channelNext c r) c e.dead := by
  intro e he
  unfold State.channelNext at he ⊢
  rw [if_pos h] at he ⊢
  rw [Bank.getElem_reResolve, getElem_channelSingle, if_pos (decide_eq_true rfl)] at he
  obtain ⟨d, -, rfl⟩ := List.mem_map.1 he
  exact (Bank.resolve_reResolve ..).symm

theorem channelTables_self (s : State) (c : Channel) (r : ChannelRec × Int) : (s.channelTables c r).channel[c] = r.1 :=
  setAt_self ..

theorem namesCartridge_iff (fields : List (Nat × Int)) : namesCartridge fields = true ↔ ∃ f ∈ fields, f.1 = 7 ∨ f.1 = 14 := by
  unfold namesCartridge
  simp

theorem bindingHeld_iff (s : State) (c : Channel) (fields : List (Nat × Int)) : s.bindingHeld c fields = true ↔
    s.accounts[c].known = true ∧ 0 < s.accounts[c].level ∧ ∃ f ∈ fields, f.1 = 0 ∧ f.2 ≠ codeOrNone s.tables.channel[c].kind := by
  unfold State.bindingHeld
  simp [-Fin.getElem_fin, and_assoc]

section

variable {s : State} {tag : Byte} {body : List Byte} {fs : List (Nat × Int)}

/-- The state s with channel record c written and its Next list resolved again, the request taken. -/
def State.channelWritten (s : State) (c : Channel) (r : ChannelRec × Int) : State :=
  s.popped.tabled (s.channelTables c r) (s.channelNext c r)

theorem channel_stored (h : s.asks 0x18#8 tag body) (c : Channel) (read : readTableWrite body = some (1, c.val, fs)) {r : ChannelRec × Int}
    {cl : List (Nat × Int)} (put : putFields ChannelRec.put fs (s.tables.channel[c], s.tables.reverseShift[headOf c]) = some (r, cl))
    (windows : r.1.windowsValid = true) (free : s.bindingHeld c fs = false) :
    ∃ t, exec .tableWrite s = .next t ∧ Follows (((s.channelWritten c r).channelFormed c fs).wrote tag cl) t := by
  have wrote : writeChannel c fs s.popped = .stored (s.popped.storeChannel c fs r) cl := writeRecord_of_free put windows free
  rw [State.storeChannel_eq] at wrote
  exact write_stored h read (by decide) ((writeTable_channel ..).trans (congrArg some wrote))

/-- A channel record's write leaves what its record's frame says, the spit it may change and the cartridge record formed again. -/
theorem channelFormed_leaves (c : Channel) (r : ChannelRec × Int) (cl : List (Nat × Int)) {t : State}
    (follows : Follows (((s.channelWritten c r).channelFormed c fs).wrote tag cl) t) :
    Follows (({ s.popped with
        tables := s.channelTables c r, maps := { s.maps with next := { s.maps.next with lists := t.maps.next.lists } }
        freeCount := t.freeCount, carts := t.carts
        service := { s.service with
          pending := t.service.pending, ladders := t.service.ladders, holder := t.service.holder } } : State).wrote tag cl) t ∧
      spitTracked s t ∧ t.maps.next = s.channelNext c r ∧ t.maps = { s.maps with next := t.maps.next } ∧
      t.tables = s.channelTables c r ∧
      ∀ d : Channel, { t.carts[d] with link := s.carts[d].link } =
        if d = c then (s.channelWritten c r).recarted c fs else s.carts[d] := by
  have quiet := channelFormed_quiet (s.channelWritten c r) c fs
  have tracked := (s.channelWritten c r).respit_tracked
  have respit := (s.channelWritten c r).respit_frame
  generalize (s.channelWritten c r).channelFormed c fs = x at follows quiet
  generalize (s.channelWritten c r).respit = y at quiet tracked respit
  have whole := (quiet.follows.wrote ..).trans follows
  have maps : t.maps = { s.maps with next := s.channelNext c r } := whole.maps.trans (congrArg State.maps respit)
  have tables : t.tables = s.channelTables c r := whole.tables.trans (congrArg State.tables respit)
  have holder : t.service.holder = y.service.holder := whole.holder
  have count : t.freeCount = y.freeCount := whole.freeCount
  have next : t.maps.next = s.channelNext c r := congrArg Maps.next maps
  have supply : y.supply = s.supply := (congrArg State.supply respit).trans rfl
  have carts : y.carts = s.carts := (congrArg State.carts respit).trans rfl
  have refills : ∀ d : Channel, t.supply[d].refill = s.supply[d].refill ∧ t.supply[d].faultMark = s.supply[d].faultMark := fun d => by
    obtain ⟨refill, mark⟩ := quiet.refills d
    rw [show (y.carted c _).supply = s.supply from supply] at refill mark
    exact ⟨(whole.refills d).1.trans refill, (whole.refills d).2.trans mark⟩
  refine ⟨?_, spitTracked_congr tracked rfl rfl holder count (whole.tables), next, by rw [next]; exact maps, tables, fun d => ?_⟩
  · rw [respit] at whole
    exact { whole with
      maps := by
        refine maps.trans ?_
        rw [channelNext_frame, ← next]
        rfl
      freeCount := rfl, carts := fun _ => rfl, links := fun _ _ => rfl
      refills := refills
      holder := rfl
      requests := fun q mem _ => ⟨q, mem, Request.covers_self q⟩
      ladders := fun _ _ => rfl }
  · have cart := whole.carts d
    have same : (y.carted c ((s.channelWritten c r).recarted c fs)).carts[d] =
        if d = c then (s.channelWritten c r).recarted c fs else s.carts[d] := by
      show (setAt y.carts c _)[d] = _
      rw [getElem_setAt, carts]
    refine (congrArg (fun k : Cartridge => { k with link := s.carts[d].link }) (cart.trans same)).trans ?_
    by_cases own : d = c
    · subst own
      rw [if_pos rfl]
      rfl
    · rw [if_neg own]

theorem channelWritten_writes (h : s.asks 0x18#8 tag body) (c : Channel) (read : readTableWrite body = some (1, c.val, fs)) {r : ChannelRec}
    {x : Int} {cl : List (Nat × Int)}
    (put : putFields ChannelRec.put fs (s.tables.channel[c], s.tables.reverseShift[headOf c]) = some ((r, x), cl))
    (windows : r.windowsValid = true) (free : s.bindingHeld c fs = false) :
    ∃ t, exec .tableWrite s = .next t ∧ Follows (({ s.popped with
        tables := { s.tables with
          channel := setAt s.tables.channel c r, reverseShift := setAt s.tables.reverseShift (headOf c) x }
        maps := { s.maps with next := { s.maps.next with lists := t.maps.next.lists } }, freeCount := t.freeCount
        carts := t.carts
        service := { s.service with
          pending := t.service.pending, ladders := t.service.ladders, holder := t.service.holder } } : State).wrote tag cl) t ∧
      spitTracked s t ∧
      (r.policy = s.tables.channel[c].policy → r.partner = s.tables.channel[c].partner → t.maps = s.maps) ∧
      (∀ d : Channel, t.maps.next.lists[d].map (·.dead) = s.maps.next.lists[d].map (·.dead) ∧
        (d ≠ c → t.maps.next.lists[d] = s.maps.next.lists[d])) ∧
      ((r.policy ≠ s.tables.channel[c].policy ∨ r.partner ≠ s.tables.channel[c].partner) →
        ∀ e ∈ t.maps.next.lists[c], e.sub = resolve t.tables t.maps.next c e.dead) ∧
      (∀ d : Channel, { t.carts[d] with state := s.carts[d].state, link := s.carts[d].link } = s.carts[d]) ∧
      ∀ d : Channel, t.carts[d].state =
        if d = c ∧ s.carts[d].state.identified = true ∧ (∃ f ∈ fs, f.1 = 7 ∨ f.1 = 14) then formedCart r s.carts[c].remaining
        else s.carts[d].state := by
  obtain ⟨t, ht, whole⟩ := channel_stored h c read put windows free
  obtain ⟨follows, tracked, next, maps, tables, carts⟩ := channelFormed_leaves c (r, x) cl whole
  refine ⟨t, ht, follows, tracked, fun policy partner => ?_, fun d => ?_, fun changed => ?_, fun d => ?_, fun d => ?_⟩
  · rw [maps, next]
    unfold State.channelNext
    rw [if_neg (by simp only [policy, partner, ne_eq, not_true_eq_false, or_self, not_false_eq_true])]
  · rw [next]
    exact ⟨map_dead_channelNext .., fun other => channelNext_other s other _⟩
  · rw [next, tables]
    exact channelNext_resolved (changed.imp Ne.symm Ne.symm)
  · refine (congrArg (fun k : Cartridge => { k with state := s.carts[d].state }) (carts d)).trans ?_
    by_cases own : d = c
    · subst own
      rw [if_pos rfl]
      rfl
    · rw [if_neg own]
  · refine (congrArg Cartridge.state (carts d)).trans ?_
    by_cases own : d = c
    · subst own
      rw [if_pos rfl]
      simp only [true_and, ← namesCartridge_iff]
      unfold State.recarted
      rw [show (s.channelWritten d (r, x)).tables.channel[d] = r from channelTables_self ..]
      rfl
    · rw [if_neg own, if_neg fun both => own both.1]

/-! ## The service record written (R157) -/

theorem service_written (h : s.asks 0x18#8 tag body) (read : readTableWrite body = some (3, 0, fs)) {r : ServiceRec}
    {cl : List (Nat × Int)} (put : putFields ServiceRec.put fs s.tables.service = some (r, cl)) :
    ∃ t, exec .tableWrite s = .next t ∧ Follows (({ s.popped with tables := { s.tables with service := r } } : State).wrote tag cl) t ∧
      ((∃ f ∈ fs, f.1 = 0) → s.lane.conditions.stationFault = false → ∀ h : Head, r.wipeInterval ≤ s.service.drops[h] →
        s.service.wipeAsked h = false → ∃ q ∈ t.service.pending, q.covers ⟨.wipe h, none, byWear⟩) := by
  let u : State := { s.popped with tables := { s.tables with service := r } }
  have wrote : writeService fs s.popped = .stored (if fs.any (fun f => f.1 = 0) then u.wearTests else u) cl :=
    writeRecord_of_free (valid := fun _ => true) put rfl rfl
  obtain ⟨t, ht, follows⟩ := write_stored h read (by decide) (congrArg some wrote)
  have tests : Follows u (if fs.any (fun f => f.1 = 0) then u.wearTests else u) := by
    split
    · exact Follows.wearTests u
    · exact Follows.refl u
  refine ⟨t, ht, (tests.wrote ..).trans follows, fun named clear h worn asked => ?_⟩
  have interval : fs.any (fun f => decide (f.1 = 0)) = true := by simpa using named
  rw [if_pos interval] at follows
  exact follows.covers nofun (wearTests_asks (s := u) asked worn clear)

/-! ## A scan record written (R158) -/

theorem not_fresh_iff {u : State} {i : AIn} (valid : u.scan.results[i].valid = true) :
    u.fresh i = false ↔ ∀ a, u.scan.results[i].convertedAt = some a → u.tables.scan[i].maxAge < u.now - a := by
  unfold State.fresh
  rw [valid, Bool.true_and]
  cases u.scan.results[i].convertedAt with
  | none => simp
  | some a => simp [-Fin.getElem_fin, Nat.lt_sub_iff_add_lt]

/-- The state s with scan record i written, the request taken. -/
def State.scanWritten (s : State) (i : AIn) (r : ScanRec) : State :=
  { s.popped with tables := { s.tables with scan := setAt s.tables.scan i r } }

/-- After the write of scan record i its result is late: valid, and never converted or older than the maximum age. -/
theorem late_iff (i : AIn) (r : ScanRec) :
    ((s.scanWritten i r).scan.results[i].valid && !(s.scanWritten i r).fresh i) = true ↔
      s.scan.results[i].valid = true ∧ ∀ a, s.scan.results[i].convertedAt = some a → r.maxAge < s.now - a := by
  have age : (s.scanWritten i r).tables.scan[i] = r := (getElem_setAt ..).trans (if_pos rfl)
  rw [Bool.and_eq_true, Bool.not_eq_true']
  refine and_congr_right fun valid => ?_
  rw [not_fresh_iff valid, age]
  exact Iff.rfl

theorem scan_stored (h : s.asks 0x18#8 tag body) (i : AIn) (read : readTableWrite body = some (4, i.val, fs)) {r : ScanRec}
    {cl : List (Nat × Int)} (put : putFields ScanRec.put fs s.tables.scan[i] = some (r, cl)) :
    ∃ t, exec .tableWrite s = .next t ∧ Follows ((if (s.scanWritten i r).scan.results[i].valid && !(s.scanWritten i r).fresh i
      then (s.scanWritten i r).makeStale i else s.scanWritten i r).wrote tag cl) t := by
  have wrote : writeScan i fs s.popped = .stored (if (s.scanWritten i r).scan.results[i].valid && !(s.scanWritten i r).fresh i
      then (s.scanWritten i r).makeStale i else s.scanWritten i r) cl := writeRecord_of_free (valid := fun _ => true) put rfl rfl
  exact write_stored h read (by decide) ((writeTable_scan ..).trans (congrArg some wrote))

/-- A result late after the write of its record becomes stale, with SENSOR STALE. -/
theorem scan_late (h : s.asks 0x18#8 tag body) (i : AIn) (read : readTableWrite body = some (4, i.val, fs)) {r : ScanRec}
    {cl : List (Nat × Int)} (put : putFields ScanRec.put fs s.tables.scan[i] = some (r, cl))
    (late : s.scan.results[i].valid = true ∧ ∀ a, s.scan.results[i].convertedAt = some a → r.maxAge < s.now - a) :
    ∃ t, exec .tableWrite s = .next t ∧ Follows (((s.scanWritten i r).resultStale i).wrote tag cl) t ∧
      t.lane.conditions.sensorStale = true ∧
      ∀ a, s.scan.results[i].convertedAt = some a → s.tells t (.sensorStale i s.scan.results[i].value (s.now - a)) := by
  obtain ⟨t, ht, follows⟩ := scan_stored h i read put
  rw [if_pos ((late_iff i r).2 late)] at follows
  refine ⟨t, ht, ((makeStale_follows ..).wrote ..).trans follows, ?_, fun a converted room => ?_⟩
  · refine follows.latched .sensorStale ?_
    show ((s.scanWritten i r).makeStale i).lane.conditions.latched .sensorStale = true
    rw [State.makeStale_eq]
    exact Lane.raiseCondition_latched _ (.sensorStale i) _
  · refine follows.events.subset (List.mem_append_right _ ?_)
    show _ ∈ ((s.scanWritten i r).makeStale i).lane.events
    rw [State.makeStale_eq, show (s.scanWritten i r).scan.results[i].convertedAt = some a from converted]
    refine (Quiet.raiseCondition _ _).lane.mem ?_
    exact State.mem_raise ((s.scanWritten i r).resultStale i) _ (Nat.lt_of_le_of_lt room (by decide))

end

/-! ## The statement -/

/-- Settles O23. -/
theorem tableWriteStoresTheRecord : Obligations.TableWriteStoresTheRecord := by
  intro s tag body h
  refine ⟨fun loaded norecord => ?norecord, fun k fs read => ⟨fun put => ?inkBad, fun r cl put => ?ink⟩,
    fun c fs read => ⟨fun put => ?channelBad, fun r x cl put => ⟨fun windows => ?turned, fun gate stop => ⟨fun held => ?held, fun free => ?channel⟩⟩⟩,
    fun k fs read => ⟨fun put => ?profileBad, fun r cl put => ⟨fun bound => ?bound, fun free => ?profile⟩⟩,
    fun fs read => ⟨fun put => ?serviceBad, fun r cl put => service_written h read put⟩,
    fun i fs read => ⟨fun put => ?scanBad, fun r cl put => ⟨fun fresh => ?fresh, fun late => scan_late h i read put late⟩⟩,
    fun fs read => ⟨fun put => ?modeBad, fun r cl put => ?mode⟩,
    fun i fs read => ⟨fun put => ?inputBad, fun r cl put => ?input⟩⟩
  case norecord =>
    refine unreadable_refused h loaded (norecord.imp_right ?_)
    rintro ⟨tb, ix, fs, read, unread⟩
    exact ⟨tb, ix, fs, read, writeTable_eq_none (s := s.popped) unread⟩
  case inkBad =>
    exact write_refused h read (by decide) ((writeTable_ink ..).trans (congrArg some (writeRecord_of_refused put)))
  case ink =>
    refine ⟨fun used => ?_, fun free => ?_⟩
    · exact write_refused h read (by decide) ((writeTable_ink ..).trans
        (congrArg some (writeRecord_of_used (valid := fun _ => true) put rfl ((inkInUse_iff k).2 used))))
    · exact ink_written h k read put (Bool.eq_false_iff.2 fun used => free ((inkInUse_iff k).1 used))
  case channelBad =>
    exact write_refused h read (by decide) ((writeTable_channel ..).trans (congrArg some (writeRecord_of_refused put)))
  case turned =>
    have bad : r.windowsValid = false := by
      unfold ChannelRec.windowsValid
      rcases windows with turned | turned <;> simp [turned]
    exact write_refused h read (by decide) ((writeTable_channel ..).trans
      (congrArg some (writeRecord_of_invalid (valid := fun r : ChannelRec × Int => r.1.windowsValid) put bad)))
  case held =>
    have good : r.windowsValid = true := by simp [ChannelRec.windowsValid, gate, stop]
    exact write_refused h read (by decide) ((writeTable_channel ..).trans
      (congrArg some (writeRecord_of_used (valid := fun r : ChannelRec × Int => r.1.windowsValid) put good
        ((bindingHeld_iff s c fs).2 held))))
  case channel =>
    have good : r.windowsValid = true := by simp [ChannelRec.windowsValid, gate, stop]
    exact channelWritten_writes h c read put good (Bool.eq_false_iff.2 fun held => free ((bindingHeld_iff s c fs).1 held))
  case profileBad =>
    exact write_refused h read (by decide) ((writeTable_profile ..).trans (congrArg some (writeRecord_of_refused put)))
  case bound =>
    exact write_refused h read (by decide) ((writeTable_profile ..).trans
      (congrArg some (writeRecord_of_used (valid := fun _ => true) put rfl (decide_eq_true bound))))
  case profile =>
    exact write_stored h read (by decide) ((writeTable_profile ..).trans
      (congrArg some (writeRecord_of_free (valid := fun _ => true) put rfl (decide_eq_false free))))
  case serviceBad => exact write_refused h read (by decide) (congrArg some (writeRecord_of_refused put))
  case scanBad =>
    exact write_refused h read (by decide) ((writeTable_scan ..).trans (congrArg some (writeRecord_of_refused put)))
  case fresh =>
    obtain ⟨t, ht, follows⟩ := scan_stored h i read put
    rw [if_neg fun late => fresh ((late_iff i r).1 late)] at follows
    exact ⟨t, ht, follows⟩
  case modeBad => exact write_refused h read (by decide) (congrArg some (writeRecord_of_refused put))
  case mode =>
    exact write_stored h read (by decide) (congrArg some (writeRecord_of_free (valid := fun _ => true) put rfl rfl))
  case inputBad =>
    exact write_refused h read (by decide) ((writeTable_input ..).trans (congrArg some (writeRecord_of_refused put)))
  case input =>
    exact write_stored h read (by decide) ((writeTable_input ..).trans
      (congrArg some (writeRecord_of_free (valid := fun _ => true) put rfl rfl)))

end Sys2Proof.Machine
end

section
/-!
PROOFS. Digital inputs, the levels that set no stop (R146, R147): a level accepted, and what a level accepted from a cartridge present input
does (R71, R75).
-/

-- One declaration at a time: side by side, the threads' stacks come near the memory limit of the check.
set_option Elab.async false

namespace Sys2Proof.Machine

/-! ## Levels accepted (R146) -/

/-- The filtered level of input i has become raw in y, with at most one event. -/
structure LevelIn (s y : State) (i : DIn) (raw : Bool) : Prop where
  frame : y = { s with inputs := setAt s.inputs i ⟨some raw, none⟩, lane := y.lane }
  lane : s.lane.Raised 1 y.lane
  latched : ∀ k, k ≠ .eventsLost → y.lane.conditions.latched k = s.lane.conditions.latched k

theorem LevelIn.levelSet (s : State) (i : DIn) (raw : Bool) : LevelIn s (s.levelSet i raw) i raw := by
  refine ⟨?_, (Acts.levelSet s i raw).lane, fun k hk => ?_⟩
  · unfold State.levelSet
    split <;> rfl
  · unfold State.levelSet
    split
    · exact Lane.raise_latched_iff _ _ _ hk
    · rfl

section

variable {s y : State} {i : DIn} {raw : Bool}

theorem LevelIn.follows (h : LevelIn s y i raw) : Follows { s with inputs := setAt s.inputs i ⟨some raw, none⟩ } y := by
  have raised := Follows.of_raised (u := { s with inputs := setAt s.inputs i ⟨some raw, none⟩ }) h.lane
  rwa [← h.frame] at raised

theorem LevelIn.room (h : LevelIn s y i raw) (room : s.lane.events.length ≤ 32) : y.lane.events.length ≤ 33 := by
  have := h.lane.length_le
  omega

theorem LevelIn.level (h : LevelIn s y i raw) : y.inputs[i].level = some raw := by
  rw [h.frame]
  exact congrArg InputRec.level ((getElem_setAt ..).trans (if_pos rfl))

end

theorem edge_told (s : State) (i : DIn) (raw b : Bool) (was : s.inputs[i].level = some b) (edge : s.tables.input[i].edge = .both ∨
    (s.tables.input[i].edge = .rising ∧ raw = true) ∨ (s.tables.input[i].edge = .falling ∧ raw = false))
    (room : s.lane.events.length ≤ 32) : ⟨s.now, .inputEdge i raw s.now⟩ ∈ (s.levelSet i raw).lane.events := by
  have matching : s.tables.input[i].edge.matchesLevel raw = true := by
    rcases edge with h | ⟨h, rfl⟩ | ⟨h, rfl⟩ <;> rw [h] <;> rfl
  unfold State.levelSet
  rw [was, if_pos (by rw [Option.isNone_some, matching]; rfl)]
  exact State.mem_raise _ _ (Nat.lt_of_le_of_lt room (by decide))

/-! ## Cartridge present inputs (R71, R75) -/

/-- What a removal leaves: the cartridge gone, and a refill of its channel ended. -/
structure Removes (s x : State) (c : Channel) : Prop where
  refills : Refills c 6 s x
  accounts : x.accounts = s.accounts
  cart : x.carts[c] = ({ (match s.supply[c].refill with
    | some k => s.carts[c].drained k
    | none => s.carts[c]) with link := none } : Cartridge).removed
  refill : x.supply[c].refill = none
  ended : ∀ k, s.supply[c].refill = some k → x.service.holder = .free ∧ x.service.idleSince = s.now ∧ x.out.station = .closeValve c ∧
    (s.lane.events.length ≤ 60 →
      ⟨s.now, .refillDone c k.kind .cartridgeRemoved k.strokes k.drawn s.accounts[c].level s.accounts[c].known⟩ ∈ x.lane.events)
  stands : s.supply[c].refill = none → x.service.holder = s.service.holder ∧ x.service.idleSince = s.service.idleSince ∧
    x.out.station = s.out.station
  told : s.lane.events.length ≤ 60 → ⟨s.now, .cartridgeState c .absent none none none none 0⟩ ∈ x.lane.events

theorem Refills.unlinked (s : State) (c : Channel) : Refills c 0 s (s.unlinked c) :=
  .write (frame := rfl) fun _ hd => ⟨rfl, modifyAt_ne hd _, rfl, rfl⟩

/-- The record of a slot cleared, with its event (R75). -/
def State.discarded (w : State) (c : Channel) : State := w.setCart c w.carts[c].removed true

/-- Clearing a slot's record changes neither account nor carriage, and tells CARTRIDGE STATE. -/
theorem State.discarded_leaves (w : State) (c : Channel) :
    (w.discarded c).accounts = w.accounts ∧ (w.discarded c).carts[c] = w.carts[c].removed ∧
      (w.discarded c).supply[c].refill = w.supply[c].refill ∧ (w.discarded c).service.holder = w.service.holder ∧
      (w.discarded c).service.idleSince = w.service.idleSince ∧ (w.discarded c).out = w.out := by
  have quiet : Quiet 3 (w.carted c w.carts[c].removed) (w.discarded c) := Quiet.setCart w c w.carts[c].removed true
  refine ⟨quiet.accounts, ?_, (quiet.refills c).1, quiet.holder, ?_, ?_⟩
  · rw [quiet.carts]
    exact setAt_self ..
  · rw [quiet.frame]; rfl
  · rw [quiet.frame]; rfl

theorem State.discarded_tells (w : State) (c : Channel) (room : w.lane.events.length < 64) :
    ⟨w.now, .cartridgeState c .absent none none none none 0⟩ ∈ (w.discarded c).lane.events := by
  have event : w.carts[c].removed.event c = .cartridgeState c .absent none none none none 0 := rfl
  have told : ⟨w.now, .cartridgeState c .absent none none none none 0⟩ ∈ (w.cartTold c w.carts[c].removed).lane.events :=
    event ▸ State.mem_raise (w.carted c w.carts[c].removed) _ room
  unfold State.discarded
  rw [State.setCart_told]
  split
  · exact (Quiet.handBack ..).lane.mem told
  · split
    · exact (Quiet.cartridgeAble ..).lane.mem told
    · exact told

theorem Removes.removeCartridge (s : State) (c : Channel) : Removes s (s.removeCartridge c) c := by
  have unlinked := Refills.unlinked s c
  have cart : (s.unlinked c).carts[c] = { s.carts[c] with link := none } := modifyAt_self ..
  have split : s.removeCartridge c = ((s.unlinked c).endRefillAt c .cartridgeRemoved).discarded c := rfl
  rw [split]
  unfold State.endRefillAt
  cases hk : s.supply[c].refill with
  | some k =>
    rw [show (s.unlinked c).supply[c].refill = some k from hk]
    dsimp only
    have ended := Closes.endRefill (s.unlinked c) c k .cartridgeRemoved
    have done := endRefill_told (s.unlinked c) c k .cartridgeRemoved
    have step := unlinked.trans (Refills.endRefill (s.unlinked c) c k .cartridgeRemoved)
    generalize (s.unlinked c).endRefill c k .cartridgeRemoved = w at ended done step ⊢
    obtain ⟨accounts, gone, refill, holder, idle, out⟩ := w.discarded_leaves c
    have tells := w.discarded_tells c
    have after := Refills.setCart w c w.carts[c].removed true
    have few := step.lane.length_le
    refine ⟨step.trans after, accounts.trans ended.accounts, ?_, refill.trans ended.refill, fun j hj => ?_,
      (fun no => nomatch hk.symm.trans no), fun room => ?_⟩
    · rw [gone, ended.carts, cart, hk]
      rfl
    · cases hk.symm.trans hj
      exact ⟨holder.trans ended.holder, idle.trans ended.idle, (congrArg Outputs.station out).trans ended.station,
        fun room => after.lane.mem (done (Nat.lt_of_le_of_lt room (by decide)))⟩
    · have now : w.now = s.now := ended.now
      exact now ▸ tells (by omega)
  | none =>
    rw [show (s.unlinked c).supply[c].refill = none from hk]
    dsimp only
    obtain ⟨accounts, gone, refill, holder, idle, out⟩ := (s.unlinked c).discarded_leaves c
    have after := Refills.setCart (s.unlinked c) c (s.unlinked c).carts[c].removed true
    refine ⟨(unlinked.trans after).mono (by omega), accounts, ?_, refill.trans hk, fun j hj => ?_,
      fun _ => ⟨holder, idle, congrArg Outputs.station out⟩, fun room => (s.unlinked c).discarded_tells c (Nat.lt_of_le_of_lt room (by decide))⟩
    · rw [gone, cart, hk]
    · cases hk.symm.trans hj

theorem Cartridge.sendOwed_removed (r : Cartridge) (now : Nat) : r.removed.sendOwed now = r.removed := by
  unfold Cartridge.sendOwed
  exact if_neg (by simp [Cartridge.removed])

/-- What is owed of a cartridge is kept unsynced at its removal (R70, R75). -/
theorem Cartridge.removed_unsynced (r : Cartridge) : r.removed.unsynced = match r.serial with
    | some ser => if 0 < r.owed then some ⟨ser, r.owed + (match r.unsynced with
        | some u => if u.serial = ser then u.amount else 0
        | none => 0)⟩ else r.unsynced
    | none => r.unsynced := by
  show r.keepOwed.unsynced = _
  unfold Cartridge.keepOwed
  cases r.serial with
  | none => rfl
  | some ser =>
    dsimp only
    split
    · unfold addUnsynced
      cases r.unsynced with
      | none => rfl
      | some u =>
        dsimp only
        split
        · rw [Nat.add_comm]
        · rfl
    · rfl

section

variable {s y t : State} {i : DIn} {raw : Bool} {c : Channel}

theorem insertion_acts (h : LevelIn s y i raw) (absent : s.carts[c].state = .absent) (ht : Follows (y.beginInsertion c) t) :
    Follows { s with
      inputs := t.inputs
      carts := setAt s.carts c { s.carts[c] with state := .reading, reject := none, link := some (.read, s.now + 20) } } t := by
  have carts : y.carts = s.carts := by rw [h.frame]
  have now : y.now = s.now := by rw [h.frame]
  have unable : y.canSupply c = false := by
    unfold State.canSupply
    rw [carts, absent]
    rfl
  have begun : y.beginInsertion c = { y with
      carts := setAt s.carts c { s.carts[c] with state := .reading, reject := none, link := some (.read, s.now + 20) } } := by
    rw [← carts, ← now]
    exact State.setCart_quiet unable rfl
  have written : Follows { s with
      inputs := setAt s.inputs i ⟨some raw, none⟩
      carts := setAt s.carts c { s.carts[c] with state := .reading, reject := none, link := some (.read, s.now + 20) } }
      (y.beginInsertion c) := by
    rw [begun]
    exact { h.follows with carts := fun _ => rfl, links := fun _ _ => rfl }
  have whole := written.trans ht
  have inputs : t.inputs = setAt s.inputs i ⟨some raw, none⟩ := whole.inputs
  rw [inputs]
  exact whole

theorem level_stands (h : LevelIn s y i raw) (ht : Follows y t) : Follows { s with inputs := t.inputs } t := by
  have whole := h.follows.trans ht
  have inputs : t.inputs = setAt s.inputs i ⟨some raw, none⟩ := whole.inputs
  rw [inputs]
  exact whole

/-- A removal leaves what its record's frame says. -/
theorem Removes.follows {x : State} (removes : Removes y x c) (ht : Follows x t) : Follows { y with
    carts := t.carts, supply := t.supply, service := t.service, out := { y.out with station := t.out.station } } t := by
  have raised := Follows.of_raised (u := { y with
    carts := x.carts, supply := x.supply, service := x.service, out := { y.out with station := x.out.station } }) removes.refills.lane
  have same : x = { y with
      carts := x.carts, supply := x.supply, service := x.service, out := { y.out with station := x.out.station }, lane := x.lane } := by
    have frame := removes.refills.frame
    have accounts := removes.accounts
    rw [frame] at accounts ⊢
    dsimp only at accounts ⊢
    rw [accounts]
  have whole : Follows { y with
      carts := x.carts, supply := x.supply, service := x.service, out := { y.out with station := x.out.station } } t := by
    rw [← same] at raised
    exact raised.trans ht
  have station : t.out.station = x.out.station := (congrArg Outputs.station whole.out).trans rfl
  rw [station]
  exact { whole with
    carts := fun _ => rfl, links := fun _ _ => rfl, refills := fun _ => ⟨rfl, rfl⟩, stamps := rfl, drops := rfl, capped := rfl, docked := rfl
    holder := rfl, idleSince := rfl, uncapInFlight := rfl, requests := fun q mem _ => ⟨q, mem, q.covers_self⟩, ladders := fun _ _ => rfl }

/-- What a removal in a step leaves, from the state before the level was accepted. -/
theorem removal_acts (h : LevelIn s y i raw) {x : State} (removes : Removes y x c) (ht : t = State.finish false s x) :
    Follows { s with
      inputs := t.inputs, carts := t.carts, supply := t.supply, service := t.service
      out := { s.out with station := t.out.station } } t ∧ t.carts[c] = x.carts[c] ∧
    (∀ d : Channel, d ≠ c → t.supply[d].refill = s.supply[d].refill ∧ { t.carts[d] with link := s.carts[d].link } = s.carts[d]) ∧
    t.supply[c].refill = none ∧
    (∀ k, s.supply[c].refill = some k → t.service.holder = .free ∧ t.out.station = .closeValve c ∧
      s.tells t (.refillDone c k.kind .cartridgeRemoved k.strokes k.drawn s.accounts[c].level s.accounts[c].known)) ∧
    (s.supply[c].refill = none → t.service.holder = s.service.holder ∧ t.out.station = s.out.station) ∧
    s.tells t (.cartridgeState c .absent none none none none 0) := by
  have follows : Follows x t := ht ▸ Follows.finish false s x
  have cart : t.carts[c] = x.carts[c].sendOwed x.now := ht ▸ (State.finish_carts false s x c).1
  have whole := removes.follows follows
  have supply : y.supply = s.supply := by rw [h.frame]
  have carts : y.carts = s.carts := by rw [h.frame]
  have accounts : y.accounts = s.accounts := by rw [h.frame]
  have service : y.service = s.service := by rw [h.frame]
  have out : y.out = s.out := by rw [h.frame]
  have now : y.now = s.now := by rw [h.frame]
  have room := h.room
  have level := h.follows
  refine ⟨?_, ?_, fun d hd => ?_, (follows.refills c).1.trans removes.refill, fun k hk => ?_, fun hk => ?_,
    tells_of_mem (fun few => now ▸ removes.told (by have := room few; omega)) follows⟩
  · have inputs : t.inputs = setAt s.inputs i ⟨some raw, none⟩ := whole.inputs.trans level.inputs
    rw [inputs]
    exact Follows.trans (t := { y with carts := t.carts, supply := t.supply, service := t.service, out := { y.out with station := t.out.station } })
      { level with
        out := by dsimp only; rw [out]
        carts := fun _ => rfl, links := fun _ _ => rfl, refills := fun _ => ⟨rfl, rfl⟩, stamps := rfl, drops := rfl, capped := rfl
        docked := rfl, holder := rfl, idleSince := rfl, uncapInFlight := rfl
        requests := fun q mem _ => ⟨q, mem, q.covers_self⟩, ladders := fun _ _ => rfl } whole
  · rw [cart, removes.cart, Cartridge.sendOwed_removed]
  · obtain ⟨-, other, refill, -⟩ := removes.refills.others d hd
    have kept := follows.carts d
    rw [other, carts] at kept
    exact ⟨by rw [(follows.refills d).1, refill, supply], kept⟩
  · obtain ⟨holder, -, station, told⟩ := removes.ended k (by rw [supply]; exact hk)
    rw [accounts, now] at told
    exact ⟨follows.holder.trans holder, (congrArg Outputs.station follows.out).trans station,
      tells_of_mem (fun few => told (by have := room few; omega)) follows⟩
  · obtain ⟨holder, -, station⟩ := removes.stands (by rw [supply]; exact hk)
    rw [service] at holder
    rw [out] at station
    exact ⟨follows.holder.trans holder, (congrArg Outputs.station follows.out).trans station⟩

/-- What a level accepted from the cartridge present input of slot c does. -/
theorem cartridge_acts (h : LevelIn s y i raw) (ht : t = State.finish false s (y.cartSensor c raw)) : CartridgeInputActs s t c raw := by
  have carts : y.carts = s.carts := by rw [h.frame]
  have supply : y.supply = s.supply := by rw [h.frame]
  unfold State.cartSensor at ht
  rw [carts] at ht
  refine ⟨fun present absent => ?_, fun other => ?_, fun gone was => ?_⟩
  · rw [if_pos present, if_pos absent] at ht
    exact insertion_acts h absent (ht ▸ Follows.finish ..)
  · have stands : t = State.finish false s y := by
      cases raw with
      | true => rwa [if_pos rfl, if_neg (other.1 rfl)] at ht
      | false =>
        have absent : s.carts[c].state = .absent := by
          by_contra no
          cases other.2 no
        rwa [if_neg nofun, if_pos absent] at ht
    exact level_stands h (stands ▸ Follows.finish ..)
  · rw [if_neg (by rw [gone]; nofun), if_neg was] at ht
    have removes := Removes.removeCartridge y c
    have cart := removes.cart
    obtain ⟨follows, same, others, refill, ended, stands, told⟩ := removal_acts h removes ht
    rw [cart, carts, supply] at same
    refine ⟨follows, ?_, ?_, others, refill, ended, stands, told⟩
    · rw [same]
      rfl
    · rw [same, Cartridge.removed_unsynced]
      cases s.supply[c].refill <;> rfl

end

end Sys2Proof.Machine
end

section
/-!
PROOFS. Digital inputs: what a level accepted from a feed input does (R117, R119, R124, R129, R131, R133, R135).
-/

-- One declaration at a time: side by side, the threads' stacks come near the memory limit of the check.
set_option Elab.async false

namespace Sys2Proof.Machine

/-- The motion m goes on in t with another work, and nothing else of s is written but the feed drive. -/
def MotionGoesOn (s t : State) (m : Motion) (w : MotionWork) : Prop := ∃ m',
  Follows { s with inputs := t.inputs, feed := { s.feed with motion := some m' }, out := { s.out with feed := t.out.feed } } t ∧
    m'.work = w ∧ m'.owner = m.owner ∧ m'.paused = m.paused ∧ m'.count = m.count

/-- The cut's cutter m has failed in t (R130, R135). -/
def CutterJams (s t : State) (m : Motion) : Prop :=
  Follows { s with
    inputs := t.inputs, queue := if m.owner = .entry then s.queue.tail else s.queue
    feed := { s.feed with path := .jammed, motion := none, jam := some .cutter, cutter := .home }
    out := { s.out with cutter := .stop } } t ∧
  t.lane.conditions.jam = true ∧ (s.lane.conditions.jam = false → s.tells t (.condition (.jam .cutter)))

/-- The record in TAIL OUT, from where the media's end is (R124). -/
def Feed.tailed (f : Feed) : Feed := { f with path := .tailOut, tail := f.pos.map (· + 28000) }

section

variable {s y x t : State} {i : DIn} {raw : Bool} {n : Nat}

theorem LevelIn.feed (h : LevelIn s y i raw) : y.feed = s.feed := by rw [h.frame]
theorem LevelIn.queue (h : LevelIn s y i raw) : y.queue = s.queue := by rw [h.frame]
theorem LevelIn.wetEdge (h : LevelIn s y i raw) : y.wetEdge = s.wetEdge := by rw [h.frame]
theorem LevelIn.out (h : LevelIn s y i raw) : y.out = s.out := by rw [h.frame]
theorem LevelIn.now (h : LevelIn s y i raw) : y.now = s.now := by rw [h.frame]

/-- What a feed operation after the level leaves of queue, wet-edge timer, feed record and outputs. -/
theorem LevelIn.felt (h : LevelIn s y i raw) (f : Feeds n y x) (ht : Follows x t) :
    Follows { s with inputs := t.inputs, queue := x.queue, wetEdge := x.wetEdge, feed := x.feed, out := x.out } t := by
  have level := h.follows
  have whole := f.follows.trans ht
  have inputs : t.inputs = setAt s.inputs i ⟨some raw, none⟩ := whole.inputs.trans level.inputs
  rw [inputs]
  exact Follows.trans (t := { y with queue := x.queue, wetEdge := x.wetEdge, feed := x.feed, out := x.out })
    { level with queue := rfl, wetEdge := rfl, feed := rfl, out := rfl } whole

/-- Only the feed record is written. -/
theorem LevelIn.leaves (h : LevelIn s y i raw) (f : Feeds n y x) (ht : Follows x t) {g : Feed} (feed : x.feed = g)
    (queue : x.queue = y.queue) (wet : x.wetEdge = y.wetEdge) (out : x.out = y.out) :
    Follows { s with inputs := t.inputs, feed := g } t := by
  have felt := h.felt f ht
  rw [feed, queue, wet, out, h.queue, h.wetEdge, h.out] at felt
  exact felt

/-- Nothing is done but the level. -/
theorem LevelIn.rests (h : LevelIn s y i raw) (ht : Follows x t) (same : x = y) : Follows { s with inputs := t.inputs, feed := s.feed } t := by
  subst same
  exact h.leaves (Feeds.refl x) ht h.feed rfl rfl rfl

/-- The feed record set with its report. -/
theorem LevelIn.sets (h : LevelIn s y i raw) {g : Feed} (hx : x = y.setFeed g) (ht : Follows x t)
    (residue : y.feed.residue < 3000000 → g.residue < 3000000 := by exact id)
    (window : y.feed.window.length ≤ 4 → g.window.length ≤ 4 := by exact id) : Follows { s with inputs := t.inputs, feed := g } t := by
  subst hx
  exact h.leaves ((Feeds.refl y).setFeed g residue window) ht (State.setFeed_feed ..) (State.setFeed_queue ..)
    (State.setFeed_wetEdge ..) (State.setFeed_out ..)

theorem LevelIn.redrives (h : LevelIn s y i raw) {m m' : Motion} {w : MotionWork}
    (hx : x = ({ y with feed := { y.feed with motion := some m' } } : State).redrive) (ht : Follows x t) (work : m'.work = w)
    (owner : m'.owner = m.owner) (paused : m'.paused = m.paused) (count : m'.count = m.count) : MotionGoesOn s t m w := by
  have feeds : Feeds 0 y x := hx ▸ Feeds.redrive (Feeds.refl y).write
  have felt := h.felt feeds ht
  rw [State.redrive_eq] at hx
  have queue : x.queue = s.queue := (congrArg State.queue hx).trans h.queue
  have wet : x.wetEdge = s.wetEdge := (congrArg State.wetEdge hx).trans h.wetEdge
  have feed : x.feed = { s.feed with motion := some m' } := (congrArg State.feed hx).trans (by rw [← h.feed]; rfl)
  have out : x.out = { s.out with feed := t.out.feed } := by
    rw [ht.out, ← h.out, hx]
    rfl
  rw [queue, wet, feed, out] at felt
  exact ⟨m', felt, work, owner, paused, count⟩

theorem LevelIn.goesOn (h : LevelIn s y i raw) {m : Motion} {w : MotionWork} (hx : x = y.withMotion { m with work := w })
    (ht : Follows x t) : MotionGoesOn s t m w := by
  obtain ⟨m', hm', work, owner, paused, count⟩ : ∃ m', (({ y.feed with motion := some { m with work := w } } : Feed).reband y.now).motion =
      some m' ∧ m'.work = w ∧ m'.owner = m.owner ∧ m'.paused = m.paused ∧ m'.count = m.count := by
    refine ⟨_, rfl, ?_, ?_, ?_, ?_⟩ <;> simp
  refine h.redrives (m' := m') ?_ ht work owner paused count
  rw [hx, State.withMotion, ← hm']
  rfl

/-! ## Leading edges (R119) -/

section

variable {m : Motion} {st : Int} {e0 e1 : Option Int} {old : Option Nat} {left : Bool}

theorem loadSensor_records (hm : y.feed.motion = some m) (work : m.work = .load .forward st e0 e1 old) :
    y.loadSensor left true = y.withMotion { m with
      work := .load (if (if left then some (e0.getD m.count) else e0) ≠ none ∧ (if left then e1 else some (e1.getD m.count)) ≠ none
          then .toRest else .forward)
        st (if left then some (e0.getD m.count) else e0) (if left then e1 else some (e1.getD m.count)) old } := by
  unfold State.loadSensor
  rw [hm]
  dsimp only
  rw [work]
  dsimp only
  rw [if_pos rfl]
  unfold State.withMotion
  have both (a b : Option Int) : (a.isSome && b.isSome) = decide (a ≠ none ∧ b ≠ none) := by cases a <;> cases b <;> rfl
  rw [both]
  simp only [decide_eq_true_eq]

theorem loadSensor_clears (hm : y.feed.motion = some m) (work : m.work = .load .clearing st e0 e1 old) (off0 : y.active 0 = false)
    (off1 : y.active 1 = false) : y.loadSensor left false = ({ y with feed := { y.feed with
      motion := some { m with work := .load .forward m.count none none old, inBandSince := none } } } : State).redrive := by
  unfold State.loadSensor State.beginAttempt
  rw [hm]
  dsimp only
  rw [work]
  dsimp only
  rw [off0, off1]
  exact if_pos rfl

theorem loadSensor_rests (rests : ∀ m st e0 e1 old, y.feed.motion = some m → (m.work = .load .forward st e0 e1 old → raw = false) ∧
    (m.work = .load .clearing st e0 e1 old → raw = true ∨ y.active 0 = true ∨ y.active 1 = true)) : y.loadSensor left raw = y := by
  unfold State.loadSensor
  split
  next m hm =>
    split
    next st e0 e1 old work =>
      rw [((rests m st e0 e1 old hm).1 work), if_neg nofun]
    next st e0 e1 old work =>
      refine if_neg fun off => ?_
      rcases (rests m st e0 e1 old hm).2 work with h | h | h <;> simp [h] at off
    · rfl
  next => rfl

end

/-! ## The trailing end (R117, R124, R131, R133) -/

theorem checkTail_seen (ready : y.feed.path = .ready) (seen : y.tailSeen = true) : y.checkTail = y.setFeed y.feed.tailed := by
  unfold State.checkTail
  rw [ready, seen]
  rfl

theorem tailSeen_of_end (off : y.inputs[(2 : DIn)].level = some false) : y.tailSeen = true := by
  unfold State.tailSeen State.inactive
  rw [off]
  rfl

theorem tailSeen_of_roll {e : DIn} (roll : y.feed.source.bind Source.rollEnd = some e) (active : y.inputs[e].level = some true) :
    y.tailSeen = true := by
  unfold State.tailSeen State.active
  rw [roll]
  dsimp only
  rw [active]
  exact Bool.or_true _

section

variable {m : Motion}

theorem pathSensorClears_ejects (path : y.feed.path = .ejecting) (hm : y.feed.motion = some m) (work : m.work = .eject none) :
    y.pathSensorClears = y.withMotion { m with work := .eject (some m.count) } := by
  unfold State.pathSensorClears
  rw [path, hm]
  dsimp only
  rw [work]
  rfl

theorem pathSensorClears_unloads (path : y.feed.path = .unloading) (hm : y.feed.motion = some m) (work : m.work = .unload none) :
    y.pathSensorClears = y.withMotion { m with work := .unload (some m.count) } := by
  unfold State.pathSensorClears
  rw [path, hm]
  dsimp only
  rw [work]
  rfl

theorem pathSensorClears_rests (ready : y.feed.path ≠ .ready) (held : y.feed.path ≠ .held)
    (rests : ∀ m, y.feed.motion = some m → (y.feed.path = .ejecting → m.work ≠ .eject none) ∧
      (y.feed.path = .unloading → m.work ≠ .unload none)) : y.pathSensorClears = y := by
  unfold State.pathSensorClears
  split
  next path => exact absurd path ready
  next path => exact absurd path held
  next m path hm =>
    split
    next work => exact absurd work ((rests m hm).1 path)
    · rfl
  next m path hm =>
    split
    next work => exact absurd work ((rests m hm).2 path)
    · rfl
  · rfl

end

/-! ## The roll ends (R119, R124) -/

theorem rollEnds_other (other : y.feed.source.bind Source.rollEnd ≠ some i) : y.rollEnds i = y := if_neg other

theorem rollEnds_ready (roll : y.feed.source.bind Source.rollEnd = some i) (path : y.feed.path = .ready) : y.rollEnds i = y.checkTail := by
  unfold State.rollEnds
  rw [if_pos roll, path]

theorem rollEnds_loading (roll : y.feed.source.bind Source.rollEnd = some i) (path : y.feed.path = .loading ∨ y.feed.path = .aligning) :
    y.rollEnds i = y.loadFails .rollEnd := by
  unfold State.rollEnds
  rcases path with path | path <;> rw [if_pos roll, path]

theorem loadFails_rests (rests : ∀ m, y.feed.motion = some m → m.work.kind ≠ .load) (why : LoadFailReason) : y.loadFails why = y := by
  rcases y.loadFails_cases why with same | ⟨m, ph, st, e0, e1, skew, hm, work, -⟩
  · exact same
  · refine absurd ?_ (rests m hm)
    rw [work]
    rfl

theorem rollEnds_rests (ready : y.feed.path ≠ .ready) (rests : y.feed.path = .loading ∨ y.feed.path = .aligning →
    ∀ m, y.feed.motion = some m → m.work.kind ≠ .load) : y.rollEnds i = y := by
  by_cases roll : y.feed.source.bind Source.rollEnd = some i
  · by_cases path : y.feed.path = .loading ∨ y.feed.path = .aligning
    · rw [rollEnds_loading roll path, loadFails_rests (rests path)]
    · simp only [not_or] at path
      unfold State.rollEnds
      rw [if_pos roll]
      split
      next h => exact absurd h ready
      next h => exact absurd h path.1
      next h => exact absurd h path.2
      · rfl
  · exact rollEnds_other roll

theorem LevelIn.loadFails (h : LevelIn s y i raw) {m : Motion} {ph : LoadPhase} {st : Int} {e0 e1 : Option Int} {old : Option Nat}
    (hm : y.feed.motion = some m) (work : m.work = .load ph st e0 e1 old) (ht : Follows (y.loadFails .rollEnd) t) :
    Follows { s with
      inputs := t.inputs
      feed := { s.feed with path := .empty, source := none, profile := none, rollRemaining := none, motion := none }
      out := { s.out with feed := .stop } } t ∧
    s.tells t (.loadFailed s.feed.source s.feed.profile .rollEnd s.feed.attempt old) := by
  rw [State.loadFails_eq hm work] at ht
  have felt := h.felt (Senses.loadFailed y .rollEnd old).toFeeds ht
  have told := State.mem_raise y (.loadFailed y.feed.source y.feed.profile .rollEnd y.feed.attempt old)
  have raised := State.setFeed_raised (y.raise (.loadFailed y.feed.source y.feed.profile .rollEnd y.feed.attempt old)) y.feed.unloaded
  have frame : (y.loadFailed .rollEnd old).queue = y.queue ∧ (y.loadFailed .rollEnd old).wetEdge = y.wetEdge ∧
      (y.loadFailed .rollEnd old).feed = y.feed.unloaded ∧ (y.loadFailed .rollEnd old).out = { y.out with feed := .stop } := by
    rw [State.loadFailed, State.driveFeed_eq]
    dsimp only
    rw [State.setFeed_queue, State.setFeed_wetEdge, State.setFeed_feed, State.setFeed_out]
    exact ⟨rfl, rfl, rfl, rfl⟩
  obtain ⟨queue, wet, feed, out⟩ := frame
  rw [queue, wet, feed, out, h.queue, h.wetEdge, h.out, h.feed] at felt
  rw [h.feed, h.now] at told
  rw [h.feed] at raised
  refine ⟨felt, tells_of_mem (x := y.loadFailed .rollEnd old) (fun few => ?_) ht⟩
  unfold State.loadFailed
  rw [h.feed]
  exact raised.mem (told (by have := h.room few; omega))

/-! ## The cutter (R129, R130, R135) -/

section

variable {m : Motion} {d : Nat} {left : Bool}

theorem cutterSensor_leaves (hm : y.feed.motion = some m) (work : m.work = .cut d left) (paused : m.paused = false) :
    y.cutterSensor false = y.cutterLeft m d := by
  obtain ⟨w, o, p, b, g, k, a⟩ := m
  cases work
  cases paused
  unfold State.cutterSensor
  rw [hm]
  rfl

theorem cutterSensor_home (hm : y.feed.motion = some m) (work : m.work = .cut d left) (paused : m.paused = false) :
    y.cutterSensor true = if left = true then (if y.now ≤ d then y.cutDone m else y.cutFails) else y := by
  unfold State.cutterSensor
  rw [hm]
  dsimp only
  rw [work, paused]
  rfl

theorem cutterSensor_paused (hm : y.feed.motion = some m) (work : m.work = .cut d left) (paused : m.paused = true) :
    y.cutterSensor raw = if raw = true ∧ y.feed.cutter = .returning ∧ d < y.now then y.cutFails
      else y.withCutter (if raw then .home else if y.feed.cutter = .home then .away else y.feed.cutter) := by
  unfold State.cutterSensor
  rw [hm]
  dsimp only
  rw [work, paused]
  simp only [Bool.and_eq_true, decide_eq_true_eq, and_assoc]
  split
  · rfl
  · cases raw with
    | true => rfl
    | false =>
      simp only [Bool.false_eq_true, if_false]
      split <;> rfl

theorem cutterSensor_idle (rests : ∀ m, y.feed.motion = some m → m.work.kind ≠ .cut) :
    y.cutterSensor raw = y.withCutter y.idleCutter := by
  unfold State.cutterSensor
  split
  next m hm =>
    have kind := rests m hm
    split
    next work _ => exact absurd (by rw [work]; rfl) kind
    next work _ => exact absurd (by rw [work]; rfl) kind
    · rfl
  · rfl

/-- The record once a cut has completed, a standing tail condition taken. -/
theorem State.cutFinished_frame (y : State) : y.cutFinished.queue = y.queue ∧ y.cutFinished.wetEdge = none ∧
    y.cutFinished.feed = { y.feed with
      cutter := .home, path := if y.feed.beforeCut = .ready ∧ y.tailSeen = true then .tailOut else y.feed.beforeCut
      pos := some 0, target := some 0, residue := 0, window := [], motion := none
      tail := if y.feed.beforeCut = .ready ∧ y.tailSeen = true then some 28000 else y.feed.tail.map fun x => x - y.feed.pos.getD 0 } ∧
    y.cutFinished.out = y.out := by
  have seen : (y.setFeed y.feed.cutEnded).tailSeen = y.tailSeen :=
    State.tailSeen_eq (by rw [((Feeds.refl y).setFeed y.feed.cutEnded (fun _ => by show 0 < 3000000; omega) fun _ => by show 0 ≤ 4; omega).frame])
      (by rw [State.setFeed_feed]; rfl)
  obtain ⟨queue, -, feed, out⟩ := State.checkTail_frame (y.setFeed y.feed.cutEnded)
  rw [seen, State.setFeed_feed] at feed
  refine ⟨y.cutFinished_queue, rfl, feed.trans ?_, out.trans (State.setFeed_out ..)⟩
  have path : y.feed.cutEnded.path = y.feed.beforeCut := rfl
  rw [path]
  split <;> rfl

/-- The cutter home too late jams the path. -/
theorem LevelIn.cutJams (h : LevelIn s y 8 true) (hm : y.feed.motion = some m) (work : m.work = .cut d left)
    (ht : Follows y.cutFails t) : CutterJams s t m := by
  have home : y.idleCutter = .home := by
    rw [State.idleCutter_eq, h.level, if_pos rfl]
  have failed : y.cutFails = (y.withCutter .home).jam .cutter := by rw [← home]; rfl
  obtain ⟨queue, wet, feed, out⟩ := State.jam_frame (s := y.withCutter .home) hm .cutter
  obtain ⟨latched, told⟩ := State.jam_lane (s := y.withCutter .home) hm .cutter
  have felt := h.felt (Senses.cutFails y).toFeeds ht
  rw [if_pos (by rw [work]; rfl)] at out
  rw [failed, queue, wet, feed, out] at felt
  rw [failed] at ht
  have frame : y.withCutter .home = { y with feed := { s.feed with cutter := .home } } := by
    rw [← h.feed]
    rfl
  rw [show (y.withCutter .home).queue = s.queue from h.queue, show (y.withCutter .home).wetEdge = s.wetEdge from h.wetEdge,
    show (y.withCutter .home).out = s.out from h.out, show (y.withCutter .home).feed = { s.feed with cutter := .home } by rw [frame]] at felt
  refine ⟨felt, ht.latched .jam latched, fun clear => tells_of_mem (x := (y.withCutter .home).jam .cutter) (fun few => ?_) ht⟩
  rw [show (y.withCutter .home).now = s.now from h.now] at told
  exact told ((h.latched .jam nofun).trans clear) (Nat.lt_of_le_of_lt (h.room few) (by decide))

theorem LevelIn.other (h : LevelIn s y i raw) {j : DIn} (hj : j ≠ i) : y.inputs[j] = s.inputs[j] := by
  rw [h.frame]
  exact (getElem_setAt ..).trans (if_neg hj)

/-- The tail condition reads DI2 and the roll end inputs alone. -/
theorem LevelIn.tailSeen (h : LevelIn s y 8 raw) : y.tailSeen = s.tailSeen := by
  unfold State.tailSeen State.inactive State.active
  rw [h.feed, h.other (show (2 : DIn) ≠ 8 by decide)]
  cases s.feed.source with
  | none => rfl
  | some src =>
    cases src with
    | roll1 =>
      show (_ || decide (y.inputs[(3 : DIn)].level = some true)) = _
      rw [h.other (show (3 : DIn) ≠ 8 by decide)]
      rfl
    | roll2 =>
      show (_ || decide (y.inputs[(4 : DIn)].level = some true)) = _
      rw [h.other (show (4 : DIn) ≠ 8 by decide)]
      rfl
    | sheet => rfl

/-- The cutter home in time completes the cut. -/
theorem LevelIn.cutDone (h : LevelIn s y 8 true) (ht : Follows (y.cutDone m) t) :
    let ends := s.feed.beforeCut = .ready ∧ s.tailSeen = true
    Follows { s with
      inputs := t.inputs, wetEdge := none, queue := if m.owner = .entry then s.queue.tail else s.queue
      feed := { s.feed with
        cutter := .home, path := if ends then .tailOut else s.feed.beforeCut
        pos := some 0, target := some 0, residue := 0, window := [], motion := none
        tail := if ends then some 28000 else s.feed.tail.map fun x => x - s.feed.pos.getD 0 } } t ∧
    s.tells t (.cutDone .cut s.feed.source s.feed.rollRemaining) := by
  obtain ⟨queue, wet, feed, out⟩ := y.cutFinished_frame
  have raised := (Feeds.cutFinished y).lane
  have feeds : Feeds 3 y (y.cutDone m) := by
    rw [State.cutDone_eq]
    exact ((Feeds.cutFinished y).raise _).dropEntry _
  have felt := h.felt feeds ht
  have parts : (y.cutDone m).queue = (if m.owner = .entry then s.queue.tail else s.queue) ∧ (y.cutDone m).wetEdge = none ∧
      (y.cutDone m).feed = y.cutFinished.feed ∧ (y.cutDone m).out = s.out := by
    rw [State.cutDone_eq, State.dropEntry_eq]
    refine ⟨?_, wet, rfl, out.trans h.out⟩
    show (if m.owner = .entry then y.cutFinished.queue.tail else y.cutFinished.queue) = _
    rw [queue, h.queue]
  obtain ⟨queue, wet, same, out⟩ := parts
  rw [queue, wet, same, out, feed, h.feed, h.tailSeen] at felt
  refine ⟨felt, tells_of_mem (x := y.cutDone m) (fun few => ?_) ht⟩
  rw [State.cutDone_eq, State.dropEntry_eq]
  have told := State.mem_raise y.cutFinished (.cutDone .cut y.feed.source y.feed.rollRemaining)
    (by have := raised.length_le; have := h.room few; omega)
  rw [(Feeds.cutFinished y).now, h.now, h.feed] at told
  rw [h.feed]
  exact told

end

end

end Sys2Proof.Machine
end

section
/-!
PROOFS. Digital inputs: what a level accepted from a feed input does, input by input.
-/

-- One declaration at a time: side by side, the threads' stacks come near the memory limit of the check.
set_option Elab.async false

namespace Sys2Proof.Machine

section

variable {s y t : State} {i : DIn} {raw st : Bool}

theorem feedSensed_edge {i : DIn} (edge : i = 0 ∨ i = 1) (y : State) (raw st : Bool) :
    y.feedSensed i raw st = y.loadSensor (decide (i = 0)) raw := by
  rcases edge with rfl | rfl <;> rfl

theorem edge_acts (h : LevelIn s y i raw) (edge : i = 0 ∨ i = 1) (ht : Follows (y.feedSensed i raw st) t) (inputs : t.inputs = y.inputs) :
    (∀ m st e0 e1 old, s.feed.motion = some m →
      let e0' := if i = 0 then some (e0.getD m.count) else e0
      let e1' := if i = 1 then some (e1.getD m.count) else e1
      (m.work = .load .forward st e0 e1 old → raw = true →
        MotionGoesOn s t m (.load (if e0' ≠ none ∧ e1' ≠ none then .toRest else .forward) st e0' e1' old)) ∧
      (m.work = .load .clearing st e0 e1 old → raw = false → t.inputs[(0 : DIn)].level ≠ some true → t.inputs[(1 : DIn)].level ≠ some true →
        MotionGoesOn s t m (.load .forward m.count none none old))) ∧
    ((∀ m st e0 e1 old, s.feed.motion = some m → (m.work = .load .forward st e0 e1 old → raw = false) ∧
      (m.work = .load .clearing st e0 e1 old → raw = true ∨ t.inputs[(0 : DIn)].level = some true ∨ t.inputs[(1 : DIn)].level = some true)) →
      Follows { s with inputs := t.inputs, feed := s.feed } t) := by
  rw [feedSensed_edge edge] at ht
  have active (j : DIn) : y.active j = true ↔ t.inputs[j].level = some true := by
    unfold State.active
    rw [inputs]
    exact decide_eq_true_iff
  rw [← h.feed]
  refine ⟨fun m st e0 e1 old hm => ⟨fun work up => ?_, fun work down off0 off1 => ?_⟩, fun rests => ?_⟩
  · subst up
    have goes := h.goesOn (loadSensor_records hm work) ht
    rcases edge with rfl | rfl <;> exact goes
  · subst down
    have off0 : y.active 0 = false := Bool.eq_false_iff.2 fun on => off0 ((active 0).1 on)
    have off1 : y.active 1 = false := Bool.eq_false_iff.2 fun on => off1 ((active 1).1 on)
    exact h.redrives (loadSensor_clears hm work off0 off1) ht rfl rfl rfl rfl
  · have rest := h.rests ht (loadSensor_rests fun m st e0 e1 old hm => by
      rw [active, active]
      exact rests m st e0 e1 old hm)
    rw [h.feed]
    exact rest

theorem tail_acts (h : LevelIn s y i raw) (ready : s.feed.path = .ready) (seen : y.tailSeen = true) (ht : Follows y.checkTail t) :
    Follows { s with inputs := t.inputs, feed := s.feed.tailed } t := by
  rw [← h.feed] at ready ⊢
  exact h.sets (checkTail_seen ready seen) ht

theorem path_lost (h : LevelIn s y 2 false) (ht : Follows (y.feedSensed 2 false st) t) :
    (s.feed.path = .ready → Follows { s with inputs := t.inputs, feed := s.feed.tailed } t) ∧
    (s.feed.path = .held → Follows { s with inputs := t.inputs, feed := { s.feed with path := .empty } } t) ∧
    (∀ m, s.feed.motion = some m →
      (s.feed.path = .ejecting → m.work = .eject none → MotionGoesOn s t m (.eject (some m.count))) ∧
      (s.feed.path = .unloading → m.work = .unload none → MotionGoesOn s t m (.unload (some m.count)))) ∧
    (s.feed.path ≠ .ready → s.feed.path ≠ .held →
      (∀ m, s.feed.motion = some m → (s.feed.path = .ejecting → m.work ≠ .eject none) ∧
        (s.feed.path = .unloading → m.work ≠ .unload none)) → Follows { s with inputs := t.inputs, feed := s.feed } t) := by
  have clears : y.feedSensed 2 false st = y.pathSensorClears := rfl
  rw [clears] at ht
  have feed := h.feed
  refine ⟨fun ready => ?_, fun held => ?_, fun m hm => ⟨fun path work => ?_, fun path work => ?_⟩, fun ready held rests => ?_⟩
  · have tail : y.pathSensorClears = y.checkTail := by
      unfold State.pathSensorClears
      rw [feed, ready]
    exact tail_acts h ready (tailSeen_of_end h.level) (tail ▸ ht)
  · have emptied : y.pathSensorClears = y.setFeed { s.feed with path := .empty } := by
      unfold State.pathSensorClears
      rw [feed, held]
    exact h.sets emptied ht (feed ▸ id) (feed ▸ id)
  · rw [← feed] at hm path
    exact h.goesOn (pathSensorClears_ejects path hm work) ht
  · rw [← feed] at hm path
    exact h.goesOn (pathSensorClears_unloads path hm work) ht
  · rw [← feed] at ready held rests
    exact h.rests ht (pathSensorClears_rests ready held rests)

theorem path_found (h : LevelIn s y 2 true) (ht : Follows (y.feedSensed 2 true s.inputs[(2 : DIn)].level.isNone) t) :
    Follows { s with inputs := t.inputs, feed := if s.inputs[(2 : DIn)].level = none ∧ s.feed.path = .empty
      then { s.feed with path := .held } else s.feed } t := by
  have senses : y.feedSensed 2 true s.inputs[(2 : DIn)].level.isNone = if s.inputs[(2 : DIn)].level.isNone && y.feed.path = .empty
      then y.setFeed { y.feed with path := .held } else y := rfl
  rw [senses, h.feed] at ht
  by_cases both : s.inputs[(2 : DIn)].level = none ∧ s.feed.path = .empty
  · rw [if_pos both]
    rw [if_pos (by simp only [both.1, both.2]; rfl)] at ht
    exact h.sets (x := y.setFeed { s.feed with path := .held }) rfl ht (h.feed ▸ id) (h.feed ▸ id)
  · rw [if_neg both]
    rw [if_neg (by simpa [-Fin.getElem_fin] using both)] at ht
    exact h.rests ht rfl

/-- The roll end input of the engaged roll. -/
theorem rollEnd_of (roll : (i = 3 ∧ s.feed.source = some .roll1) ∨ (i = 4 ∧ s.feed.source = some .roll2)) :
    s.feed.source.bind Source.rollEnd = some i := by
  rcases roll with ⟨rfl, h⟩ | ⟨rfl, h⟩ <;> rw [h] <;> rfl

theorem roll_ends (h : LevelIn s y i true) (roll : (i = 3 ∧ s.feed.source = some .roll1) ∨ (i = 4 ∧ s.feed.source = some .roll2))
    (ht : Follows (y.feedSensed i true st) t) :
    (s.feed.path = .ready → Follows { s with inputs := t.inputs, feed := s.feed.tailed } t) ∧
    (∀ m ph st e0 e1 old, s.feed.path = .loading ∨ s.feed.path = .aligning → s.feed.motion = some m → m.work = .load ph st e0 e1 old →
      Follows { s with
        inputs := t.inputs
        feed := { s.feed with path := .empty, source := none, profile := none, rollRemaining := none, motion := none }
        out := { s.out with feed := .stop } } t ∧
      s.tells t (.loadFailed s.feed.source s.feed.profile .rollEnd s.feed.attempt old)) ∧
    (s.feed.path ≠ .ready → (s.feed.path = .loading ∨ s.feed.path = .aligning → ∀ m, s.feed.motion = some m → m.work.kind ≠ .load) →
      Follows { s with inputs := t.inputs, feed := s.feed } t) := by
  have senses : y.feedSensed i true st = y.rollEnds i := by rcases roll with ⟨rfl, -⟩ | ⟨rfl, -⟩ <;> rfl
  rw [senses] at ht
  have engaged : y.feed.source.bind Source.rollEnd = some i := by rw [h.feed]; exact rollEnd_of roll
  have feed := h.feed
  refine ⟨fun ready => ?_, fun m ph st e0 e1 old path hm work => ?_, fun ready rests => ?_⟩
  · rw [rollEnds_ready engaged (by rw [feed]; exact ready)] at ht
    exact tail_acts h ready (tailSeen_of_roll engaged h.level) ht
  · rw [rollEnds_loading engaged (by rw [feed]; exact path)] at ht
    exact h.loadFails (by rw [feed]; exact hm) work ht
  · rw [← feed] at ready rests
    exact h.rests ht (rollEnds_rests ready rests)

theorem cutter_acts (h : LevelIn s y 8 raw) (ht : Follows (y.feedSensed 8 raw st) t) :
    (∀ m d left, s.feed.motion = some m → m.work = .cut d left →
      (m.paused = false →
        (raw = false → Follows { s with inputs := t.inputs, feed := { s.feed with motion := some { m with work := .cut d true } } } t) ∧
        (raw = true → left = false → Follows { s with inputs := t.inputs, feed := s.feed } t) ∧
        (raw = true → left = true → d < s.now → CutterJams s t m) ∧
        (raw = true → left = true → s.now ≤ d →
          let ends := s.feed.beforeCut = .ready ∧ s.tailSeen = true
          Follows { s with
            inputs := t.inputs, wetEdge := none, queue := if m.owner = .entry then s.queue.tail else s.queue
            feed := { s.feed with
              cutter := .home, path := if ends then .tailOut else s.feed.beforeCut
              pos := some 0, target := some 0, residue := 0, window := [], motion := none
              tail := if ends then some 28000 else s.feed.tail.map fun x => x - s.feed.pos.getD 0 } } t ∧
          s.tells t (.cutDone .cut s.feed.source s.feed.rollRemaining))) ∧
      (m.paused = true →
        (raw = true → s.feed.cutter = .returning → d < s.now → CutterJams s t m) ∧
        (raw = false ∨ s.feed.cutter ≠ .returning ∨ s.now ≤ d → Follows { s with inputs := t.inputs, feed := { s.feed with
          cutter := if raw then .home else if s.feed.cutter = .home then .away else s.feed.cutter } } t))) ∧
    ((∀ m, s.feed.motion = some m → m.work.kind ≠ .cut) →
      Follows { s with inputs := t.inputs, feed := { s.feed with cutter := if raw then .home else .away } } t) := by
  have senses : y.feedSensed 8 raw st = y.cutterSensor raw := rfl
  rw [senses] at ht
  have feed := h.feed
  have cutter (c : CutterState) (hc : y.cutterSensor raw = y.withCutter c) :
      Follows { s with inputs := t.inputs, feed := { s.feed with cutter := c } } t :=
    h.leaves (Senses.withCutter y c).toFeeds (hc ▸ ht) (by rw [← feed]; rfl) rfl rfl rfl
  refine ⟨fun m d left hm work => ?_, fun rests => ?_⟩
  · rw [← feed] at hm
    refine ⟨fun going => ⟨fun away => ?_, fun home stays => ?_, fun home was late => ?_, fun home was due => ?_⟩,
      fun paused => ⟨fun home returns late => ?_, fun rests => ?_⟩⟩
    · subst away
      rw [cutterSensor_leaves hm work going] at ht
      exact h.leaves (Feeds.write (Feeds.refl y)) ht (by rw [← feed]; rfl) rfl rfl rfl
    · subst home
      rw [cutterSensor_home hm work going, if_neg (by rw [stays]; nofun)] at ht
      exact h.rests ht rfl
    · subst home
      rw [cutterSensor_home hm work going, if_pos was, h.now, if_neg (by omega)] at ht
      exact h.cutJams hm work ht
    · subst home
      rw [cutterSensor_home hm work going, if_pos was, h.now, if_pos due] at ht
      exact h.cutDone ht
    · subst home
      rw [cutterSensor_paused hm work paused, feed, h.now, if_pos ⟨rfl, returns, late⟩] at ht
      exact h.cutJams hm work ht
    · have written := cutterSensor_paused (raw := raw) hm work paused
      rw [feed, h.now, if_neg fun both => by
        obtain ⟨home, returns, late⟩ := both
        rcases rests with away | other | due
        · exact absurd home (by rw [away]; nofun)
        · exact other returns
        · omega] at written
      exact cutter _ written
  · rw [← feed] at rests
    have idle : y.idleCutter = if raw then .home else .away := by
      rw [State.idleCutter_eq, h.level]
      cases raw <;> rfl
    exact cutter _ (idle ▸ cutterSensor_idle rests)

/-- The engaged roll has no other end than its own. -/
theorem rollEnd_other (other : ¬ ((i = 3 ∧ y.feed.source = some .roll1) ∨ (i = 4 ∧ y.feed.source = some .roll2))) :
    y.feed.source.bind Source.rollEnd ≠ some i := by
  intro roll
  refine other ?_
  cases hs : y.feed.source with
  | none => rw [hs] at roll; cases roll
  | some src =>
    rw [hs] at roll
    cases src with
    | roll1 => exact .inl ⟨(Option.some.inj roll).symm, rfl⟩
    | roll2 => exact .inr ⟨(Option.some.inj roll).symm, rfl⟩
    | sheet => cases roll

/-- An input of no sensor of the path, and a roll end that is not the engaged roll's or is lost, does nothing. -/
theorem feedSensed_other (others : i.val ∈ [5, 6, 7, 9] ∨ ((i = 3 ∨ i = 4) ∧ (raw = false ∨
    ¬ ((i = 3 ∧ y.feed.source = some .roll1) ∨ (i = 4 ∧ y.feed.source = some .roll2))))) : y.feedSensed i raw st = y := by
  rcases others with mem | ⟨ends, lost | other⟩
  · simp only [List.mem_cons, List.not_mem_nil, or_false] at mem
    unfold State.feedSensed
    rw [if_neg (by rintro rfl; omega), if_neg (by rintro rfl; omega), if_neg (by rintro rfl; omega), if_neg (by rintro (rfl | rfl) <;> omega),
      if_neg (by rintro rfl; omega)]
  · subst lost
    rcases ends with rfl | rfl <;> rfl
  · have rests := rollEnds_other (rollEnd_other other)
    cases raw with
    | true => rcases ends with rfl | rfl <;> exact rests
    | false => rcases ends with rfl | rfl <;> rfl

/-- What a level accepted from a feed input does. -/
theorem feed_acts (h : LevelIn s y i raw) (ht : Follows (y.feedSensed i raw s.inputs[i].level.isNone) t) : FeedInputActs s t i raw := by
  have inputs : t.inputs = y.inputs := by
    have frame := (Senses.feedSensed y i raw s.inputs[i].level.isNone).toFeeds.frame
    exact ht.inputs.trans ((congrArg State.inputs frame).trans rfl)
  refine ⟨fun m st e0 e1 old edge => ?_, fun edge rests => ?_, fun end2 lost => ?_, fun end2 found => ?_, fun roll up => ?_, fun end8 => ?_,
    fun others => ?_⟩
  · exact (edge_acts h edge ht inputs).1 m st e0 e1 old
  · exact (edge_acts h edge ht inputs).2 rests
  · subst end2 lost
    exact path_lost h ht
  · subst end2 found
    exact path_found h ht
  · subst up
    exact roll_ends h roll ht
  · subst end8
    exact cutter_acts h ht
  · exact h.rests ht (feedSensed_other (by rw [h.feed]; exact others))

end

end Sys2Proof.Machine
end

section
/-!
PROOFS. What a stop leaves of a station operation or refill in flight (R53, R54, R68, R112).
-/

-- One declaration at a time: side by side, the threads' stacks come near the memory limit of the check.
set_option Elab.async false

namespace Sys2Proof.Machine

/-! ## The drops an interrupted operation fired (R53) -/

theorem GroupSet.size_le (g : GroupSet) : GroupSet.size g ≤ 24 := by
  unfold GroupSet.size
  exact List.countP_le_length.trans (by rw [Vector.length_toList])

/-- n whole bursts of b drops, and less than one burst more while a group remains, are at most 24 bursts. -/
theorem fired_le {n b x : Nat} (h : n ≤ 24) : n * b + (if n < 24 then min x b else 0) ≤ 24 * b := by
  split
  next few =>
    calc n * b + min x b ≤ (n + 1) * b := by rw [Nat.succ_mul]; exact Nat.add_le_add_left (Nat.min_le_right ..) _
      _ ≤ 24 * b := Nat.mul_le_mul_right _ few
  next => exact Nat.mul_le_mul_right _ h

theorem StationOp.firedDrops_le (spit : Vector Nat 6) (op : StationOp) (p : Config.StationProgress) (c : Channel) :
    (op.firedDrops spit p c).small ≤ 24 * (op.burst spit c).small ∧ (op.firedDrops spit p c).medium ≤ 24 * (op.burst spit c).medium ∧
      (op.firedDrops spit p c).large ≤ 24 * (op.burst spit c).large := by
  have few := GroupSet.size_le p.groups[c]
  unfold StationOp.firedDrops
  dsimp only
  generalize GroupSet.size p.groups[c] = n at few
  generalize op.burst spit c = b
  have part (x : Nat) := fired_le (b := b.small) (x := x) few
  have part2 (x : Nat) := fired_le (b := b.medium) (x := x) few
  have part3 (x : Nat) := fired_le (b := b.large) (x := x) few
  refine ⟨?_, ?_, ?_⟩
  · exact le_of_eq_of_le (by split <;> rfl) (part (min p.extra[c] (b.total - 1)))
  · exact le_of_eq_of_le (by split <;> rfl) (part2 (min p.extra[c] (b.total - 1)))
  · exact le_of_eq_of_le (by split <;> rfl) (part3 (min p.extra[c] (b.total - 1)))

/-- At most so many medium drops of channel d as a check fires. -/
def StationOp.mediumMost (op : StationOp) (d : Channel) : Nat :=
  match op with
  | .check set => if set[d] then 6144 else 0
  | _ => 0

/-- At most so many large drops of channel d as a post-wipe spit fires. -/
def StationOp.largeMost (op : StationOp) (spit : Vector Nat 6) (d : Channel) : Nat :=
  match op with
  | .wipe h => if headOf d = h then 768 * spit[d] else 0
  | .prime c => if headOf d = headOf c then 768 * spit[d] else 0
  | _ => 0

theorem StationOp.burst_most (spit : Vector Nat 6) (op : StationOp) (d : Channel) : (op.burst spit d).small = 0 ∧
    24 * (op.burst spit d).medium = op.mediumMost d ∧ 24 * (op.burst spit d).large = op.largeMost spit d := by
  unfold StationOp.burst StationOp.mediumMost StationOp.largeMost
  cases op with
  | wipe h =>
    dsimp only
    split
    · exact ⟨rfl, rfl, by show 24 * (32 * spit[d]) = 768 * spit[d]; omega⟩
    · exact ⟨rfl, rfl, rfl⟩
  | prime c =>
    dsimp only
    split
    · exact ⟨rfl, rfl, by show 24 * (32 * spit[d]) = 768 * spit[d]; omega⟩
    · exact ⟨rfl, rfl, rfl⟩
  | check set =>
    dsimp only
    split <;> exact ⟨rfl, rfl, rfl⟩
  | _ => exact ⟨rfl, rfl, rfl⟩

/-- The drops fired are of one size, and no more than the operation fires whole. -/
theorem StationOp.firedDrops_most (spit : Vector Nat 6) (op : StationOp) (p : Config.StationProgress) (d : Channel) :
    ∃ medium large, medium ≤ op.mediumMost d ∧ large ≤ op.largeMost spit d ∧ op.firedDrops spit p d = ⟨0, medium, large⟩ := by
  obtain ⟨small, medium, large⟩ := op.firedDrops_le spit p d
  obtain ⟨none, mediums, larges⟩ := op.burst_most spit d
  rw [none] at small
  rw [mediums] at medium
  rw [larges] at large
  refine ⟨_, _, medium, large, ?_⟩
  generalize op.firedDrops spit p d = n at small
  obtain ⟨a, b, c⟩ := n
  rw [show a = 0 from Nat.le_zero.1 small]

/-! ## Its charges (R54, R112) -/

theorem Account.charge_level (a : Account) (v : Nat) : (a.charge v).level = a.level - v := by rw [Account.charge_eq]

theorem State.serviceAccount_le (s : State) (d : Channel) (n : Counts) (a : Account) : (s.serviceAccount d n a).level ≤ a.level := by
  unfold State.serviceAccount
  split
  · exact le_refl _
  · split
    · exact Nat.sub_le ..
    · exact le_refl _

/-- Charging drops makes no level known. -/
theorem State.serviceAccount_unknown (s : State) (d : Channel) (n : Counts) {a : Account} (h : a.known = false) :
    (s.serviceAccount d n a).known = false := by
  unfold State.serviceAccount
  split
  · exact h
  · split
    · unfold Account.serviced
      dsimp only
      rw [h]
      rfl
    · exact h

theorem State.purgedBy_le (s : State) (o : OpInFlight) (d : Channel) : (s.purgedBy o).accounts[d].level ≤ s.accounts[d].level := by
  unfold State.purgedBy
  dsimp only
  split
  next c v _ _ =>
    rw [getElem_setAt]
    split
    next same => rw [Account.charge_level, same]; exact Nat.sub_le ..
    next => exact le_refl _
  next => exact le_refl _

theorem State.purgedBy_prime {s : State} {o : OpInFlight} {c : Channel} {v : Nat} (prime : o.req.op = .prime c) (purge : o.purge = some v) :
    (s.purgedBy o).accounts[c] = s.accounts[c].charge v := by
  unfold State.purgedBy
  dsimp only
  rw [prime, purge]
  exact setAt_self ..

/-- An interrupted operation is charged for what it fired. -/
theorem interrupted_charges (s : State) (o : OpInFlight) : InterruptedCharges s (s.opInterrupted o) o := by
  by_cases charged : o.running = true ∧ o.req.op.uncaps = true
  · obtain ⟨running, uncaps⟩ := charged
    have spent : s.opInterrupted o =
        ({ s with freeCount := s.freeCount + 1 } : State).opCharged o (Config.stationProgress s.freeCount) := by
      unfold State.opInterrupted
      rw [running, uncaps]
      rfl
    generalize Config.stationProgress s.freeCount = p at spent
    have accounts (d : Channel) : (s.opInterrupted o).accounts[d] =
        s.serviceAccount d (o.req.op.firedDrops o.spit p d) (s.purgedBy o).accounts[d] := by
      rw [spent]
      exact State.opCharged_accounts ..
    refine ⟨fun d => ?_, fun spared => ?_, fun _ _ => ⟨fun c v prime purge => ?_, fun carries d => ?_⟩⟩
    · rw [accounts]
      exact (State.serviceAccount_le ..).trans (State.purgedBy_le ..)
    · rcases spared with still | capped
      · exact nomatch running.symm.trans still
      · exact nomatch uncaps.symm.trans capped
    · rw [accounts, State.purgedBy_prime prime purge]
      refine ⟨(State.serviceAccount_le ..).trans (Account.charge_level ..).le, fun short => State.serviceAccount_unknown _ _ _ ?_⟩
      rw [Account.charge_eq]
      dsimp only
      rw [decide_eq_false (by omega), Bool.and_false]
    · obtain ⟨medium, large, most1, most2, fired⟩ := o.req.op.firedDrops_most o.spit p d
      refine ⟨medium, large, ?_, ?_, ?_⟩
      · exact most1
      · exact most2
      · rw [accounts, fired]
        exact State.serviceAccount_serviced (State.purgedBy_prices s o) _ fun _ => State.purgedBy_carry carries o d
  · have same : s.opInterrupted o = s := by
      unfold State.opInterrupted
      exact if_neg fun both => charged (Bool.and_eq_true_iff.1 both)
    rw [same]
    exact ⟨fun _ => le_refl _, fun _ => ⟨rfl, rfl⟩, fun running uncaps => absurd ⟨running, uncaps⟩ charged⟩

/-- The charges of an interrupted operation are said of the accounts and the stamps alone. -/
theorem InterruptedCharges.congr {s x t : State} {o : OpInFlight} (h : InterruptedCharges s x o) (accounts : t.accounts = x.accounts)
    (stamps : t.service.stamps = x.service.stamps) : InterruptedCharges s t o := by
  unfold InterruptedCharges at *
  rw [accounts, stamps]
  exact h

end Sys2Proof.Machine
end

section
/-!
PROOFS. What a stop leaves of the state: the pass aborted, or the operation in flight ended with its request placed again, and the motion
paused (R148, R112, R68, R135).
-/

-- One declaration at a time: side by side, the threads' stacks come near the memory limit of the check.
set_option Elab.async false

namespace Sys2Proof.Machine

/-! ## An operation halted (R112, R68) -/

theorem Follows.opInterrupted (u : State) (o : OpInFlight) : Follows { u with
    accounts := (u.opInterrupted o).accounts, freeCount := (u.opInterrupted o).freeCount
    service := { u.service with stamps := (u.opInterrupted o).service.stamps } } (u.opInterrupted o) := by
  unfold State.opInterrupted
  split
  · have charged := Follows.opCharged { u with freeCount := u.freeCount + 1 } o (Config.stationProgress u.freeCount)
    have count := charged.freeCount
    generalize ({ u with freeCount := u.freeCount + 1 } : State).opCharged o (Config.stationProgress u.freeCount) = a at charged count ⊢
    exact { charged with freeCount := rfl }
  · exact .refl u

/-- What the halt of the operation o of u leaves in w. -/
structure Halts (u w : State) (o : OpInFlight) : Prop where
  now : w.now = u.now
  holder : w.service.holder = .free
  docked : w.service.docked = false
  idle : w.service.idleSince = u.now
  drops : w.service.drops = u.service.drops
  capped : w.service.capped = (u.service.capped && decide (o.req.op ≠ .cap))
  carriage : w.out.carriage = .stop
  charges : InterruptedCharges u w o
  able : ∀ c : Channel, w.canSupply c = u.canSupply c
  marks : ∀ c : Channel, w.supply[c].faultMark = u.supply[c].faultMark
  station : o.req.op.refillChannel = none → w.out.station = .stop
  refill : ∀ c k, o.req.op.refillChannel = some c → u.supply[c].refill = some k →
    w.supply[c].refill = none ∧ w.out.station = .closeValve c ∧ (u.lane.events.length < 64 →
      ⟨u.now, .refillDone c k.kind .stopped k.strokes k.drawn u.accounts[c].level u.accounts[c].known⟩ ∈ w.lane.events)

theorem canSupply_of_carts {s t : State} {c : Channel} (h : t.carts[c].state = s.carts[c].state) : t.canSupply c = s.canSupply c := by
  unfold State.canSupply
  rw [h]

/-- What is written of the service record and the outputs after the refill of the halted operation has ended. -/
theorem State.haltOp_written (u : State) (o : OpInFlight) (why : RefillEnd) :
    let b := (u.opInterrupted o).stopStation.endRefillOf o.req.op why
    u.haltOp o why = { b with
      service := { b.service with
        capped := b.service.capped && decide (o.req.op ≠ .cap), holder := .free, idleSince := b.now, uncapInFlight := false
        docked := false }
      out := { b.out with carriage := .stop } } := by
  unfold State.haltOp State.capLost
  dsimp only
  split
  next cap =>
    rw [decide_eq_false (not_not.2 cap), Bool.and_false]
    rfl
  next other =>
    rw [decide_eq_true other, Bool.and_true]
    rfl

/-- The end of the refill of an operation, if it has one, leaves accounts, service record, cartridge states and fault marks. -/
theorem endRefill_stands (v : State) (c : Channel) (k : Refill) (why : RefillEnd) :
    (v.endRefill c k why).accounts = v.accounts ∧ (v.endRefill c k why).service.drops = v.service.drops ∧
      (v.endRefill c k why).service.capped = v.service.capped ∧ (v.endRefill c k why).service.stamps = v.service.stamps ∧
      (∀ d : Channel, (v.endRefill c k why).carts[d].state = v.carts[d].state) ∧
      ∀ d : Channel, (v.endRefill c k why).supply[d].faultMark = v.supply[d].faultMark := by
  have closes := Closes.endRefill v c k why
  have refills := Refills.endRefill v c k why
  have mark := endRefill_faultMark v c k why
  generalize v.endRefill c k why = b at closes refills mark ⊢
  have frame := refills.frame
  refine ⟨closes.accounts, by rw [frame], by rw [frame], by rw [frame], fun d => ?_, fun d => ?_⟩
  · by_cases own : d = c
    · subst own
      rw [closes.carts]
      rfl
    · rw [(refills.others d own).2.1]
  · by_cases own : d = c
    · subst own
      exact mark
    · exact (refills.others d own).2.2.2

theorem endRefillOf_stands (v : State) (op : StationOp) (why : RefillEnd) :
    (v.endRefillOf op why).now = v.now ∧
    (v.endRefillOf op why).accounts = v.accounts ∧ (v.endRefillOf op why).service.drops = v.service.drops ∧
      (v.endRefillOf op why).service.capped = v.service.capped ∧ (v.endRefillOf op why).service.stamps = v.service.stamps ∧
      (∀ d : Channel, (v.endRefillOf op why).carts[d].state = v.carts[d].state) ∧
      ∀ d : Channel, (v.endRefillOf op why).supply[d].faultMark = v.supply[d].faultMark := by
  unfold State.endRefillOf
  split
  · split
    next c _ _ k _ => exact ⟨(Closes.endRefill v c k why).now, endRefill_stands v c k why⟩
    · exact ⟨rfl, rfl, rfl, rfl, rfl, fun _ => rfl, fun _ => rfl⟩
  · exact ⟨rfl, rfl, rfl, rfl, rfl, fun _ => rfl, fun _ => rfl⟩

theorem Halts.haltOp (u : State) (o : OpInFlight) : Halts u (u.haltOp o .stopped) o := by
  have spent := Follows.opInterrupted u o
  have charges := interrupted_charges u o
  have written := u.haltOp_written o .stopped
  dsimp only at written
  have refilled (c : Channel) (h : o.req.op.refillChannel = some c) : u.opInterrupted o = u := by
    unfold State.opInterrupted
    exact if_neg (by simp [StationOp.uncaps_of_refill h])
  generalize u.opInterrupted o = a at spent charges written refilled
  obtain ⟨now, accounts, drops, capped, stamps, carts, marks⟩ := endRefillOf_stands a.stopStation o.req.op .stopped
  have noRefill (h : o.req.op.refillChannel = none) : a.stopStation.endRefillOf o.req.op .stopped = a.stopStation := by
    unfold State.endRefillOf
    rw [h]
  have refill (c : Channel) (k : Refill) (h : o.req.op.refillChannel = some c) (hk : u.supply[c].refill = some k) :
      a.stopStation.endRefillOf o.req.op .stopped = u.stopStation.endRefill c k .stopped := by
    rw [refilled c h]
    unfold State.endRefillOf
    rw [h]
    dsimp only
    rw [show u.stopStation.supply[c].refill = some k from hk]
  generalize a.stopStation.endRefillOf o.req.op .stopped = b at written now accounts drops capped stamps carts marks noRefill refill
  have state (c : Channel) : a.carts[c].state = u.carts[c].state := by
    have cart := congrArg Cartridge.state (spent.carts c)
    exact cart
  rw [written]
  exact {
    now := now.trans spent.now, holder := rfl, docked := rfl, idle := now.trans spent.now, drops := drops.trans spent.drops
    capped := congrArg (· && decide (o.req.op ≠ .cap)) (capped.trans spent.capped)
    carriage := rfl
    charges := charges.congr accounts stamps
    able := fun c => canSupply_of_carts ((carts c).trans (state c))
    marks := fun c => (marks c).trans (spent.refills c).2
    station := fun h => by rw [noRefill h]; rfl
    refill := fun c k h hk => by
      have closes := Closes.endRefill u.stopStation c k .stopped
      have told := endRefill_told u.stopStation c k .stopped
      rw [refill c k h hk]
      exact ⟨closes.refill, closes.station, told⟩ }

/-! ## Its request placed again (R112, R68) -/

theorem StationOp.refill_cases {op : StationOp} {c : Channel} (h : op.refillChannel = some c) : ∃ k : RefillKind, op.refillKind = some k ∧
    op = k.op c := by
  cases op with
  | urgentRefill d => cases h; exact ⟨.urgent, rfl, rfl⟩
  | fillToMark d => cases h; exact ⟨.fill, rfl, rfl⟩
  | refill d => cases h; exact ⟨.refill, rfl, rfl⟩
  | _ => cases h

/-- A FILL TO MARK stands for any refill of its channel. -/
theorem Request.fill_covers {k : RefillKind} {c : Channel} {a b : Option Nat} {o : Origins} :
    (⟨RefillKind.fill.op c, a, o⟩ : Request).covers ⟨k.op c, b, o⟩ := by
  refine ⟨?_, ?_, Origins.union_self o, nofun⟩
  · cases k <;> simp [RefillKind.op, StationOp.matches, StationOp.refillChannel]
  · cases k <;> simp [RefillKind.op, StationOp.rank]

theorem replaceRequest_covers {w : State} {r : Request} (passes : ∀ c, r.op.refillChannel = some c →
    w.supply[c].faultMark = false ∧ w.canSupply c = true) : ∃ q ∈ (w.replaceRequest r).service.pending, q.covers r := by
  unfold State.replaceRequest
  cases h : r.op.refillChannel with
  | none => exact w.place_covers r.op r.amount r.origins
  | some c =>
    obtain ⟨k, kind, op⟩ := StationOp.refill_cases h
    obtain ⟨mark, able⟩ := passes c h
    rw [kind]
    dsimp only
    unfold State.requestRefill
    rw [mark, Bool.false_and, if_neg nofun, if_pos able]
    have request : r = ⟨k.op c, r.amount, r.origins⟩ := by rw [← op]
    by_cases known : w.accounts[c].known = true
    · rw [if_pos known]
      obtain ⟨q, mem, covers⟩ := w.place_covers (k.op c) (if k = .urgent then r.amount else none) r.origins
      exact ⟨q, mem, by rw [request]; exact covers⟩
    · rw [if_neg known]
      obtain ⟨q, mem, covers⟩ := w.place_covers (RefillKind.fill.op c) (if RefillKind.fill = .urgent then r.amount else none) r.origins
      exact ⟨q, mem, by rw [request]; exact Request.covers_trans covers Request.fill_covers⟩

/-! ## The stop (R148) -/

/-- Requests and supply states written besides leave the halt. -/
theorem Halts.quiet {u w x : State} {o : OpInFlight} {n : Nat} (h : Halts u w o) (q : Quiet n w x) : Halts u x o where
  now := q.now.trans h.now
  holder := q.holder.trans h.holder
  docked := by rw [q.frame]; exact h.docked
  idle := by rw [q.frame]; exact h.idle
  drops := by rw [q.frame]; exact h.drops
  capped := by rw [q.frame]; exact h.capped
  carriage := by rw [q.frame]; exact h.carriage
  charges := h.charges.congr q.accounts (by rw [q.frame])
  able c := (canSupply_of_carts (by rw [q.carts])).trans (h.able c)
  marks c := (q.refills c).2.trans (h.marks c)
  station none := by rw [q.frame]; exact h.station none
  refill c k hc hk := by
    obtain ⟨refill, station, told⟩ := h.refill c k hc hk
    exact ⟨(q.refills c).1.trans refill, by rw [q.frame]; exact station, fun room => q.lane.mem (told room)⟩

/-- A feed operation that leaves carriage and station leaves the halt. -/
theorem Halts.feeds {u w x : State} {o : OpInFlight} {n : Nat} (h : Halts u w o) (f : Feeds n w x)
    (carriage : x.out.carriage = w.out.carriage) (station : x.out.station = w.out.station) : Halts u x o where
  now := f.now.trans h.now
  holder := by rw [f.service]; exact h.holder
  docked := by rw [f.service]; exact h.docked
  idle := by rw [f.service]; exact h.idle
  drops := by rw [f.service]; exact h.drops
  capped := by rw [f.service]; exact h.capped
  carriage := carriage.trans h.carriage
  charges := h.charges.congr f.accounts (by rw [f.service])
  able c := (canSupply_of_carts (by rw [f.carts])).trans (h.able c)
  marks c := by rw [f.supply]; exact h.marks c
  station none := station.trans (h.station none)
  refill c k hc hk := by
    obtain ⟨refill, closed, told⟩ := h.refill c k hc hk
    exact ⟨by rw [f.supply]; exact refill, station.trans closed, fun room => f.lane.mem (told room)⟩

/-- What the stop leaves of the state, a pass or an operation in flight apart. -/
structure Stops (y z : State) (cause : StopCause) : Prop where
  now : z.now = y.now
  stop : z.stop = ⟨true, some cause⟩
  pass : z.pass = none
  enable : z.driveEnable = false
  inputs : z.inputs = y.inputs
  scan : z.scan = y.scan
  paused : ∀ m, z.feed.motion = some m → m.paused = true
  told : y.lane.events.length < 64 → ⟨y.now, .forcedStop cause y.now (y.pass.map (·.slot))⟩ ∈ z.lane.events

theorem latched_told (y : State) (cause : StopCause) (room : y.lane.events.length < 64) :
    ⟨y.now, .forcedStop cause y.now (y.pass.map (·.slot))⟩ ∈ (y.latched cause).lane.events :=
  State.mem_raise { y with stop := ⟨true, some cause⟩, driveEnable := false } _ room

theorem pauseMotion_paused (w : State) (m : Motion) (h : w.pauseMotion.feed.motion = some m) : m.paused = true := by
  obtain ⟨_, _, _, paused⟩ := (Pauses.pauseMotion w).motion m h
  exact paused

theorem setStop_idle {y : State} (clear : y.stop.set = false) (idle : y.pass = none) (cause : StopCause) :
    y.setStop cause = (y.latched cause).stopOp.pauseMotion := by
  rw [State.setStop_eq, if_neg (by rw [clear]; nofun), State.abortPass_of_none (s := y.latched cause) idle]

theorem Stops.setStop {y : State} (clear : y.stop.set = false) (cause : StopCause) : Stops y (y.setStop cause) cause := by
  cases hp : y.pass with
  | none =>
    rw [setStop_idle clear hp]
    have kept := Kept.stopOp (y.latched cause)
    have told := latched_told y cause
    have paused := pauseMotion_paused (y.latched cause).stopOp
    have feeds := (Pauses.pauseMotion (y.latched cause).stopOp).toFeeds
    generalize (y.latched cause).stopOp = w at kept paused feeds ⊢
    have frame := kept.frame
    refine ⟨feeds.now.trans kept.now, feeds.stop.trans ?_, feeds.pass.trans ?_, feeds.driveEnable.trans ?_, ?_, ?_, paused,
      fun room => feeds.lane.mem (kept.lane.mem (hp ▸ told room))⟩
    · rw [frame]; rfl
    · rw [frame]; exact hp
    · rw [frame]; rfl
    · rw [feeds.frame, frame]; rfl
    · rw [feeds.frame, frame]; rfl
  | some p =>
    have follows := Follows.setStop_pass hp clear cause
    have told := latched_told y cause
    have paused : ∀ m, (y.setStop cause).feed.motion = some m → m.paused = true := by
      rw [State.setStop_pass hp clear]
      exact pauseMotion_paused _
    have lane : (y.latched cause).lane.Raised 13 (y.setStop cause).lane := by
      rw [State.setStop_pass hp clear]
      exact (Acts.endPass _ p false).lane.trans (Pauses.pauseMotion _).toFeeds.lane
    unfold State.passCharged at follows
    generalize (y.latched cause).passSettled p = b at follows
    generalize y.setStop cause = z at follows paused lane ⊢
    exact ⟨follows.now, follows.stop, follows.pass, follows.driveEnable, follows.inputs, follows.scan, paused,
      fun room => lane.mem (hp ▸ told room)⟩

/-- A stop with an operation in flight halts it and places its request again. -/
theorem setStop_halts {y : State} {o : OpInFlight} (clear : y.stop.set = false) (idle : y.pass = none) (ho : y.service.holder = .op o)
    (cause : StopCause) : Halts (y.latched cause) (y.setStop cause) o ∧
      ((∀ c, o.req.op.refillChannel = some c → y.supply[c].faultMark = false ∧ y.canSupply c = true) →
        ∃ q ∈ (y.setStop cause).service.pending, q.covers o.req) := by
  have stopped : (y.latched cause).stopOp = ((y.latched cause).haltOp o .stopped).replaceRequest o.req := by
    unfold State.stopOp
    rw [show (y.latched cause).service.inFlight = some o from Service.inFlight_eq_some.2 ho]
  rw [setStop_idle clear idle, stopped]
  have halts := Halts.haltOp (y.latched cause) o
  generalize (y.latched cause).haltOp o .stopped = w at halts ⊢
  have quiet := Quiet.replaceRequest w o.req
  have covers := replaceRequest_covers (w := w) (r := o.req)
  generalize w.replaceRequest o.req = x at quiet covers ⊢
  have feeds := (Pauses.pauseMotion x).toFeeds
  have frame := x.pauseMotion_frame
  refine ⟨(halts.quiet quiet).feeds feeds (by rw [frame]) (by rw [frame]), fun passes => ?_⟩
  rw [feeds.service]
  exact covers fun c hc => ⟨(halts.marks c).trans (passes c hc).1, (halts.able c).trans (passes c hc).2⟩

/-- An aborted pass (R40): what a stop that finds it in flight leaves, with the level accepted before. -/
theorem PassEnded.stopped {s y : State} {i : DIn} {raw : Bool} (h : LevelIn s y i raw) {p : PassContext} (hp : y.pass = some p)
    (clear : y.stop.set = false) (cause : StopCause) : PassEnded s (y.setStop cause) p false := by
  rw [State.setStop_pass hp clear]
  have alike : Alike s (y.latched cause) := by
    refine ⟨?_, fun off => ?_⟩
    · have frame := h.frame
      unfold State.latched State.raise
      rw [frame]
    · exact ((Alike.latched y cause).fault) ((h.latched .stationFault nofun).trans off)
  refine (PassEnded.of_endPass p false alike fun room => ?_).pauseMotion
  have few := (Acts.latched y cause).lane.length_le
  have := h.room room
  omega

end Sys2Proof.Machine
end

section
/-!
PROOFS. Settles O41: a CAP that a stop placed again stands while the stop does, and what the feed unit and the cartridge slots do with a level
that sets the stop leaves what the stop has done.
-/

-- One declaration at a time: side by side, the threads' stacks come near the memory limit of the check.
set_option Elab.async false

namespace Sys2Proof.Machine

/-! ## A CAP under the stop (R24, R105) -/

/-- The stop latch is set and the request pends. -/
def StoppedWith (q : Request) (t : State) : Prop := t.stop.set = true ∧ q ∈ t.service.pending

theorem swathHolds_stopped {t : State} (stop : t.stop.set = true) (sl : Slot) : (t.swathHolds sl).isEmpty = false := by
  unfold Holds.isEmpty State.swathHolds
  simp only [stop, Bool.true_or, Bool.not_true]

section

variable {q : Request} {t : State}

theorem StoppedWith.caps {u : State} (h : StoppedWith q t) (cap : q.op = .cap) (c : CapsStand t u) (f : Follows t u) : StoppedWith q u :=
  ⟨by rw [f.stop]; exact h.1, c.caps q h.2 cap⟩

/-- While the stop stands the gate asks for no pass, and withdraws no CAP. -/
theorem StoppedWith.evaluate (h : StoppedWith q t) (cap : q.op = .cap) : StoppedWith q t.evaluate := by
  refine ⟨by rw [(Follows.evaluate t).stop]; exact h.1, ?_⟩
  unfold State.evaluate
  split
  next i rep rest _ =>
    rw [State.evaluateSwath_eq, if_neg (by rw [swathHolds_stopped h.1]; nofun)]
    have reported : q ∈ (t.reportCapacity t.slots[i] i rep rest).service.pending := by
      unfold State.reportCapacity
      split <;> exact h.2
    exact foldl_keeps (P := fun u => q ∈ u.service.pending) (fun u c hu => (Reforms.gateRequest u _ c).caps q hu cap) reported channels
  next =>
    unfold State.evaluateAdvance
    dsimp only
    split <;> exact h.2
  · exact h.2
  · exact h.2

theorem StoppedWith.idleGate (h : StoppedWith q t) : StoppedWith q t.idleGate := by
  unfold State.idleGate
  split
  · exact h
  · split
    · exact h
    · split <;> exact h

/-- What follows a step leaves a CAP that pends under the stop. -/
theorem StoppedWith.finish (h : StoppedWith q t) (cap : q.op = .cap) (force : Bool) (s0 : State) :
    q ∈ (State.finish force s0 t).service.pending := by
  have formed : StoppedWith q t.reformAll := h.caps cap (Reforms.reformAll t).toCapsStand (Follows.reformAll t)
  exact (State.runGate_keeps (P := StoppedWith q) (fun _ hu => hu.evaluate cap) formed.idleGate force s0).2

end

/-! ## Levels under the stop -/

/-- What a feed input does while the motion is paused leaves. -/
structure Unmoved (z x : State) : Prop where
  window : x.feed.window = z.feed.window
  dry : x.feed.dryExpiry = z.feed.dryExpiry
  wet : x.wetEdge = z.wetEdge
  carriage : x.out.carriage = z.out.carriage
  station : x.out.station = z.out.station

theorem Unmoved.refl (z : State) : Unmoved z z := ⟨rfl, rfl, rfl, rfl, rfl⟩

theorem Unmoved.setFeed (z : State) (f : Feed) (window : f.window = z.feed.window) (dry : f.dryExpiry = z.feed.dryExpiry) :
    Unmoved z (z.setFeed f) := by
  refine ⟨?_, ?_, State.setFeed_wetEdge .., ?_, ?_⟩
  · rw [State.setFeed_feed]; exact window
  · rw [State.setFeed_feed]; exact dry
  · rw [State.setFeed_out]
  · rw [State.setFeed_out]

theorem Unmoved.redrive {z x : State} (h : Unmoved z x) : Unmoved z x.redrive := by
  rw [State.redrive_eq]
  exact ⟨h.window, h.dry, h.wet, h.carriage, h.station⟩

theorem Unmoved.withMotion (z : State) (m : Motion) : Unmoved z (z.withMotion m) :=
  Unmoved.redrive ⟨rfl, rfl, rfl, rfl, rfl⟩

theorem Unmoved.checkTail (z : State) : Unmoved z z.checkTail := by
  unfold State.checkTail State.tailOut
  split
  · exact .setFeed z _ rfl rfl
  · exact .refl z

theorem Unmoved.loadFails (z : State) (why : LoadFailReason) : Unmoved z (z.loadFails why) := by
  rcases z.loadFails_cases why with h | ⟨_, _, _, _, _, skew, _, _, h⟩ <;> rw [h]
  · exact .refl z
  · have set := Unmoved.setFeed (z.raise (.loadFailed z.feed.source z.feed.profile why z.feed.attempt skew)) z.feed.unloaded rfl rfl
    exact ⟨set.window, set.dry, set.wet, set.carriage, set.station⟩

theorem Unmoved.cutFails (z : State) : Unmoved z z.cutFails := by
  have jams : z.cutFails = (z.withCutter z.idleCutter).jam .cutter := rfl
  rw [jams]
  cases hm : z.feed.motion with
  | none =>
    rw [State.jam_of_none (s := z.withCutter z.idleCutter) hm]
    exact ⟨rfl, rfl, rfl, rfl, rfl⟩
  | some m =>
    obtain ⟨-, wet, feed, out⟩ := State.jam_frame (s := z.withCutter z.idleCutter) hm .cutter
    refine ⟨by rw [feed]; rfl, by rw [feed]; rfl, wet, ?_, ?_⟩
    · rw [out]; split <;> rfl
    · rw [out]; split <;> rfl

theorem Unmoved.withCutter (z : State) (c : CutterState) : Unmoved z (z.withCutter c) := ⟨rfl, rfl, rfl, rfl, rfl⟩

/-- A paused cut does not complete. -/
theorem Unmoved.cutterSensor {z : State} (paused : ∀ m, z.feed.motion = some m → m.paused = true) (level : Bool) :
    Unmoved z (z.cutterSensor level) := by
  by_cases cuts : ∃ m d left, z.feed.motion = some m ∧ m.work = .cut d left
  · obtain ⟨m, d, left, hm, work⟩ := cuts
    rw [cutterSensor_paused hm work (paused m hm)]
    split
    · exact .cutFails z
    · exact .withCutter ..
  · rw [cutterSensor_idle fun m hm kind => ?_]
    · exact .withCutter ..
    · refine cuts ?_
      cases work : m.work with
      | cut d left => exact ⟨m, d, left, hm, work⟩
      | _ => rw [work] at kind; cases kind

theorem Unmoved.feedSensed {z : State} (paused : ∀ m, z.feed.motion = some m → m.paused = true) (i : DIn) (level settling : Bool) :
    Unmoved z (z.feedSensed i level settling) := by
  have sensor (left : Bool) : Unmoved z (z.loadSensor left level) := by
    rcases z.loadSensor_cases left level with h | ⟨m, m', -, -, -, h | h⟩ <;> rw [h]
    · exact .refl z
    · exact .withMotion ..
    · exact Unmoved.redrive ⟨rfl, rfl, rfl, rfl, rfl⟩
  have path : Unmoved z (z.pathSensor level settling) := by
    unfold State.pathSensor
    split
    · rcases z.pathSensorClears_cases with h | h | h | ⟨m, m', -, -, -, h⟩ <;> rw [h]
      · exact .refl z
      · exact .checkTail z
      · exact .setFeed z _ rfl rfl
      · exact .withMotion ..
    · split
      · exact .setFeed z _ rfl rfl
      · exact .refl z
  have roll : Unmoved z (z.rollEnds i) := by
    rcases z.rollEnds_cases i with h | h | h <;> rw [h]
    · exact .refl z
    · exact .checkTail z
    · exact .loadFails ..
  unfold State.feedSensed
  split_ifs
  · exact sensor true
  · exact sensor false
  · exact path
  · exact roll
  · exact .refl z
  · exact .cutterSensor paused level
  · exact .refl z

end Sys2Proof.Machine
end

section
/-!
PROOFS. Settles O41: digital inputs filtered, reported, routed to the stop latch and taken by their blocks (R146 to R148).
-/

-- One declaration at a time: side by side, the threads' stacks come near the memory limit of the check.
set_option Elab.async false

namespace Sys2Proof.Machine

/-! ## What the blocks leave -/

/-- What the blocks do with a level leaves of the rest of the state. -/
structure Sensed (z x : State) : Prop where
  now : x.now = z.now
  inputs : x.inputs = z.inputs
  scan : x.scan = z.scan
  stop : x.stop = z.stop
  pass : x.pass = z.pass
  enable : x.driveEnable = z.driveEnable
  slots : x.slots = z.slots
  maps : x.maps = z.maps
  tables : x.tables = z.tables
  store : x.store = z.store
  accounts : x.accounts = z.accounts
  stamps : x.service.stamps = z.service.stamps
  drops : x.service.drops = z.service.drops
  lane : z.lane.Raised 6 x.lane
  wipes : ∀ q ∈ z.service.pending, ∀ h, q.op = .wipe h → ∃ r ∈ x.service.pending, r.covers q
  free : z.service.holder = .free → z.service.idleSince = z.now → x.service.holder = .free ∧ x.service.idleSince = z.now
  paused : (∀ m, z.feed.motion = some m → m.paused = true) → ∀ m, x.feed.motion = some m → m.paused = true

theorem Sensed.of_senses {z x : State} {n : Nat} (h : Senses n z x) (few : n ≤ 6) : Sensed z x where
  now := h.now
  inputs := by rw [h.frame]
  scan := by rw [h.frame]
  stop := h.stop
  pass := h.pass
  enable := h.driveEnable
  slots := h.slots
  maps := h.maps
  tables := h.tables
  store := by rw [h.frame]
  accounts := h.accounts
  stamps := by rw [h.service]
  drops := by rw [h.service]
  lane := h.lane.mono few
  wipes q mem _ _ := ⟨q, by rw [h.service]; exact mem, q.covers_self⟩
  free holder idle := by rw [h.service]; exact ⟨holder, idle⟩
  paused all m hm := by
    rcases h.motion with ⟨-, same⟩ | ⟨gone, -⟩
    · obtain ⟨m0, h0, -, paused⟩ := same m hm
      exact paused.trans (all m0 h0)
    · cases gone.symm.trans hm

theorem Sensed.of_refills {z x : State} {c : Channel} {n : Nat} (h : Refills c n z x) (few : n ≤ 6) (accounts : x.accounts = z.accounts)
    (free : z.service.holder = .free → z.service.idleSince = z.now → x.service.holder = .free ∧ x.service.idleSince = z.now) :
    Sensed z x where
  now := by rw [h.frame]
  inputs := by rw [h.frame]
  scan := by rw [h.frame]
  stop := by rw [h.frame]
  pass := by rw [h.frame]
  enable := by rw [h.frame]
  slots := by rw [h.frame]
  maps := by rw [h.frame]
  tables := by rw [h.frame]
  store := by rw [h.frame]
  accounts := accounts
  stamps := by rw [h.frame]
  drops := by rw [h.frame]
  lane := h.lane.mono few
  wipes q mem g wipe := h.requests q mem (by rw [wipe]; nofun) (by rw [wipe]; nofun)
  free := free
  paused all m hm := all m (by rw [h.frame] at hm; exact hm)

theorem Sensed.cartSensor (z : State) (c : Channel) (level : Bool) : Sensed z (z.cartSensor c level) := by
  unfold State.cartSensor
  split
  · split
    · have quiet : Quiet 3 _ (z.beginInsertion c) := Quiet.setCart ..
      refine .of_refills (.setCart z c _ false) (by omega) quiet.accounts fun holder idle => ⟨quiet.holder.trans holder, ?_⟩
      rw [quiet.frame]
      exact idle
    · exact .of_refills (.refl c z) (by omega) rfl fun holder idle => ⟨holder, idle⟩
  · split
    · exact .of_refills (.refl c z) (by omega) rfl fun holder idle => ⟨holder, idle⟩
    · have removes := Removes.removeCartridge z c
      refine .of_refills removes.refills (by omega) removes.accounts fun holder idle => ?_
      cases hk : z.supply[c].refill with
      | none =>
        obtain ⟨sameHolder, sameIdle, -⟩ := removes.stands hk
        exact ⟨sameHolder.trans holder, sameIdle.trans idle⟩
      | some k =>
        obtain ⟨ended, now, -, -⟩ := removes.ended k hk
        exact ⟨ended, now⟩

theorem Sensed.sensed (z : State) (i : DIn) (level settling : Bool) : Sensed z (z.sensed i level settling) := by
  cases h : cartInput i with
  | some c => rw [State.sensed_of_some h]; exact .cartSensor z c level
  | none => rw [State.sensed_of_none h]; exact .of_senses (Senses.feedSensed ..) (by omega)

theorem Unmoved.sensed {z : State} (paused : ∀ m, z.feed.motion = some m → m.paused = true) (i : DIn) (level settling : Bool) :
    (z.sensed i level settling).feed.window = z.feed.window ∧ (z.sensed i level settling).feed.dryExpiry = z.feed.dryExpiry ∧
      (z.sensed i level settling).wetEdge = z.wetEdge := by
  cases h : cartInput i with
  | some c =>
    have feed : (z.cartSensor c level).feed = z.feed ∧ (z.cartSensor c level).wetEdge = z.wetEdge := by
      rw [(Kept.cartSensor z c level).frame]
      exact ⟨rfl, rfl⟩
    rw [State.sensed_of_some h, feed.1, feed.2]
    exact ⟨rfl, rfl, rfl⟩
  | none =>
    rw [State.sensed_of_none h]
    have stays := Unmoved.feedSensed paused i level settling
    exact ⟨stays.window, stays.dry, stays.wet⟩

/-- The end of a pass stands while the blocks take the level. -/
theorem PassEnded.sensed {s z x : State} {p : PassContext} (h : PassEnded s z p false) (now : z.now = s.now) (k : Sensed z x)
    (window : x.feed.window = z.feed.window) (dry : x.feed.dryExpiry = z.feed.dryExpiry) (wet : x.wetEdge = z.wetEdge) :
    PassEnded s x p false where
  accounts := by rw [k.accounts]; exact h.accounts
  stamps := by rw [k.stamps]; exact h.stamps
  drops := by rw [k.drops]; exact h.drops
  wear clear g worn fresh := by
    rw [k.drops] at worn
    obtain ⟨q, hq, op, wear⟩ := h.wear clear g worn fresh
    obtain ⟨r, hr, hc⟩ := k.wipes q hq g op
    have same : r.op = .wipe g := Request.op_of_covers_wipe (a := q.amount) (o := q.origins) (by rw [← op]; exact hc)
    refine ⟨r, hr, same, fun formed => ?_⟩
    obtain ⟨-, -, union, -⟩ := hc
    rw [← union]
    simp [Origins.union, wear formed]
  window := window.trans h.window
  drying := by rw [window, dry]; exact h.drying
  told room := k.lane.reported.subset (h.told room)
  freed := by rw [k.slots]; exact h.freed
  wet := wet.trans h.wet
  enable := k.enable.trans h.enable
  noPass := k.pass.trans h.noPass
  holder := (k.free h.holder (h.idle.trans now.symm)).1
  idle := (k.free h.holder (h.idle.trans now.symm)).2.trans now

/-! ## An operation that the level's stop ends -/

section

variable {s y x t : State} {i : DIn} {raw : Bool} {o : OpInFlight} {cause : StopCause}

theorem LevelIn.latched_frame (h : LevelIn s y i raw) (cause : StopCause) : (y.latched cause).now = s.now ∧
    (y.latched cause).service = s.service ∧ (y.latched cause).accounts = s.accounts ∧ (y.latched cause).supply = s.supply ∧
    (y.latched cause).carts = s.carts := by
  have frame := h.frame
  refine ⟨h.now, ?_, ?_, ?_, ?_⟩
  · exact (congrArg State.service frame).trans rfl
  · exact (congrArg State.accounts frame).trans rfl
  · exact (congrArg State.supply frame).trans rfl
  · exact (congrArg State.carts frame).trans rfl

/-- The charges are those of the state before the level: what they read is not written by the level and the latch. -/
theorem InterruptedCharges.of_latched (h : LevelIn s y i raw) (charges : InterruptedCharges (y.latched cause) x o) :
    InterruptedCharges s x o := by
  have frame : y.latched cause = { s with
      inputs := setAt s.inputs i ⟨some raw, none⟩, stop := ⟨true, some cause⟩, driveEnable := false
      lane := (y.latched cause).lane } := by
    have level := h.frame
    have out : y.latched cause = { y with stop := ⟨true, some cause⟩, driveEnable := false, lane := (y.latched cause).lane } := rfl
    rw [out]
    rw [level]
  rw [frame] at charges
  exact charges

theorem request_stands (stop : x.stop.set = true) (h : ∃ q ∈ x.service.pending, q.covers o.req) (s : State) :
    ∃ q ∈ (State.finish false s x).service.pending, q.covers o.req := by
  by_cases cap : o.req.op = .cap
  · obtain ⟨q, mem, covers⟩ := h
    have isCap : q.op = .cap := Request.op_of_covers_cap (a := o.req.amount) (o := o.req.origins) (by rw [← cap]; exact covers)
    exact ⟨q, StoppedWith.finish ⟨stop, mem⟩ isCap false s, covers⟩
  · exact (Follows.finish false s x).covers cap h

theorem StoppedOp.of_halts (h : LevelIn s y i raw) (halts : Halts (y.latched cause) x o) (stop : x.stop.set = true)
    (placed : (∀ c, o.req.op.refillChannel = some c → y.supply[c].faultMark = false ∧ y.canSupply c = true) →
      ∃ q ∈ x.service.pending, q.covers o.req) : StoppedOp s (State.finish false s x) o := by
  have follows := Follows.finish false s x
  have stands := request_stands (o := o) stop
  obtain ⟨now, service, accounts, supply, carts⟩ := h.latched_frame cause
  have room (few : s.lane.events.length ≤ 32) : (y.latched cause).lane.events.length < 64 := by
    have latched := (Acts.latched y cause).lane.length_le
    have := h.room few
    omega
  refine ⟨follows.holder.trans halts.holder, follows.docked.trans halts.docked, follows.idleSince.trans (halts.idle.trans now),
    follows.drops.trans (halts.drops.trans (by rw [service])), follows.capped.trans (halts.capped.trans (by rw [service])),
    (congrArg Outputs.carriage follows.out).trans halts.carriage,
    (halts.charges.of_latched h).congr follows.accounts follows.stamps, fun none => ⟨?_, ?_⟩, fun c k hc hk => ?_⟩
  · exact (congrArg Outputs.station follows.out).trans (halts.station none)
  · exact stands (placed fun c hc => nomatch none.symm.trans hc) s
  · obtain ⟨refill, station, told⟩ := halts.refill c k hc (by rw [supply]; exact hk)
    have marks := halts.marks c
    rw [supply] at marks
    rw [now, accounts] at told
    refine ⟨(follows.refills c).1.trans refill, (follows.refills c).2.trans marks, (congrArg Outputs.station follows.out).trans station,
      tells_of_mem (fun few => told (room few)) follows, fun mark able => stands (placed fun d hd => ?_) s⟩
    cases hc.symm.trans hd
    exact ⟨(congrArg (fun v : Vector Supply 6 => v[c].faultMark) supply).trans mark,
      (canSupply_of_carts (congrArg (fun v : Vector Cartridge 6 => v[c].state) carts)).trans able⟩

end

end Sys2Proof.Machine
end

section
/-!
PROOFS. Settles O41: the two commands of the digital inputs.
-/

-- One declaration at a time: side by side, the threads' stacks come near the memory limit of the check.
set_option Elab.async false

namespace Sys2Proof.Machine

section

variable {s : State} {i : DIn} {raw : Bool}

theorem routing_matches : s.tables.input[i].routing.matchesLevel raw = true ↔
    (s.tables.input[i].routing = .rising ∧ raw = true) ∨ (s.tables.input[i].routing = .falling ∧ raw = false) := by
  cases s.tables.input[i].routing <;> cases raw <;> simp [StopRouting.matchesLevel]

theorem rawInput_drops (same : s.inputs[i].level = some raw) :
    Runs (.rawInputChange i raw) s { s with inputs := setAt s.inputs i ⟨some raw, none⟩ } := by
  refine runs_of_ends false (v := s) ?_
  show execRawInputChange i raw s = _
  unfold execRawInputChange State.rawInput
  dsimp only
  rw [if_pos same, same]

theorem rawInput_keeps (other : s.inputs[i].level ≠ some raw) (candidate : s.inputs[i].candidate.map (·.level) = some raw) :
    Runs (.rawInputChange i raw) s s := by
  refine runs_of_ends false (v := s) ?_
  show execRawInputChange i raw s = _
  unfold execRawInputChange State.rawInput
  dsimp only
  rw [if_neg other, if_pos candidate]

theorem rawInput_begins (other : s.inputs[i].level ≠ some raw) (fresh : s.inputs[i].candidate.map (·.level) ≠ some raw)
    (filter : s.tables.input[i].filter ≠ 0) : Runs (.rawInputChange i raw) s { s with
      inputs := setAt s.inputs i ⟨s.inputs[i].level, some ⟨raw, s.now, s.tables.input[i].filter⟩⟩ } := by
  refine runs_of_ends false (v := s) ?_
  show execRawInputChange i raw s = _
  unfold execRawInputChange State.rawInput
  dsimp only
  rw [if_neg other, if_neg fresh, if_neg filter]

theorem inputFilterExpiry_waits (waits : s.inputs[i].candidate = none ∨ ∃ k, s.inputs[i].candidate = some k ∧ s.now < k.since + k.filter) :
    exec (.inputFilterExpiry i) s = .next s := by
  show execInputFilterExpiry i s = _
  unfold execInputFilterExpiry
  rcases waits with none | ⟨k, hk, early⟩
  · rw [none]
  · rw [hk]
    exact if_neg (by omega)

/-- A level is accepted at once with a filter of 0 ms, and at its expiry otherwise. -/
theorem input_accepted {c : Instr} (h : (c = .rawInputChange i raw ∧ s.inputs[i].level ≠ some raw ∧
      (s.inputs[i].candidate.map (·.level)) ≠ some raw ∧ s.tables.input[i].filter = 0) ∨
    (c = .inputFilterExpiry i ∧ ∃ k, s.inputs[i].candidate = some k ∧ k.level = raw ∧ k.since + k.filter ≤ s.now)) :
    exec c s = .next (State.finish false s (s.acceptInput i raw)) := by
  rcases h with ⟨rfl, other, fresh, filter⟩ | ⟨rfl, k, hk, rfl, due⟩
  · show execRawInputChange i raw s = _
    unfold execRawInputChange State.rawInput
    dsimp only
    rw [if_neg other, if_neg fresh, if_pos filter]
    rfl
  · show execInputFilterExpiry i s = _
    unfold execInputFilterExpiry
    rw [hk]
    dsimp only
    rw [if_pos due]
    rfl

/-- What an accepted level sets the stop latch to, and what the stop leaves. -/
theorem input_stops (stops : s.tables.input[i].routing.matchesLevel raw = true) (clear : s.stop.set = false) :
    let t := State.finish false s (s.acceptInput i raw)
    t.inputs = setAt s.inputs i ⟨some raw, none⟩ ∧ t.scan = s.scan ∧ t.stop = ⟨true, some (.input i)⟩ ∧ t.pass = none ∧
      t.driveEnable = false ∧ s.tells t (.forcedStop (.input i) s.now (s.pass.map (·.slot))) ∧
      (∀ p, s.pass = some p → PassEnded s t p false) ∧ (∀ m, t.feed.motion = some m → m.paused = true) ∧
      (i.val < 10 → s.pass = none → ∀ o, s.service.holder = .op o → StoppedOp s t o) := by
  have level := LevelIn.levelSet s i raw
  have routed : s.levelRouted i raw = (s.levelSet i raw).setStop (.input i) := if_pos stops
  rw [State.acceptInput_eq, routed]
  generalize s.levelSet i raw = y at level
  have same : y.pass = s.pass ∧ y.stop = s.stop ∧ y.service = s.service ∧ y.scan = s.scan ∧
      y.inputs = setAt s.inputs i ⟨some raw, none⟩ := by
    rw [level.frame]
    exact ⟨rfl, rfl, rfl, rfl, rfl⟩
  obtain ⟨pass, stop, service, scan, inputs⟩ := same
  have clear : y.stop.set = false := by rw [stop]; exact clear
  have stopped := Stops.setStop clear (.input i)
  have ended (p : PassContext) (hp : s.pass = some p) := PassEnded.stopped level (pass.trans hp) clear (.input i)
  have halted (o : OpInFlight) (hp : s.pass = none) (ho : s.service.holder = .op o) :=
    setStop_halts clear (pass.trans hp) (service ▸ ho) (.input i)
  generalize y.setStop (.input i) = z at stopped ended halted
  have sensed := Sensed.sensed z i raw s.inputs[i].level.isNone
  obtain ⟨window, dry, wet⟩ := Unmoved.sensed stopped.paused i raw s.inputs[i].level.isNone
  have follows := Follows.finish false s (z.sensed i raw s.inputs[i].level.isNone)
  have latched : (z.sensed i raw s.inputs[i].level.isNone).stop = ⟨true, some (.input i)⟩ := sensed.stop.trans stopped.stop
  refine ⟨follows.inputs.trans (sensed.inputs.trans (stopped.inputs.trans inputs)),
    follows.scan.trans (sensed.scan.trans (stopped.scan.trans scan)), follows.stop.trans latched,
    follows.pass.trans (sensed.pass.trans stopped.pass), follows.driveEnable.trans (sensed.enable.trans stopped.enable), ?_,
    fun p hp => ((ended p hp).sensed (stopped.now.trans level.now) sensed window dry wet).follows follows, ?_, fun low hp o ho => ?_⟩
  · have told := stopped.told
    rw [level.now, pass] at told
    exact tells_of_mem (fun few => sensed.lane.mem (told (Nat.lt_of_le_of_lt (level.room few) (by decide)))) follows
  · rw [follows.feed]
    exact sensed.paused stopped.paused
  · obtain ⟨halts, placed⟩ := halted o hp ho
    have isFeed : cartInput i = none := dif_neg (by omega)
    rw [State.sensed_of_none isFeed] at latched ⊢
    have stays := Unmoved.feedSensed stopped.paused i raw s.inputs[i].level.isNone
    have feeds := (Senses.feedSensed z i raw s.inputs[i].level.isNone).toFeeds
    refine StoppedOp.of_halts level (halts.feeds feeds stays.carriage stays.station) (by rw [latched]) fun passes => ?_
    rw [feeds.service]
    exact placed passes

/-- What an accepted level that sets no stop does. -/
theorem input_senses (none : s.tables.input[i].routing.matchesLevel raw = false ∨ s.stop.set = true) :
    let t := State.finish false s (s.acceptInput i raw)
    t.inputs = setAt s.inputs i ⟨some raw, .none⟩ ∧ t.scan = s.scan ∧ t.stop = s.stop ∧ t.pass = s.pass ∧ t.slots = s.slots ∧
      t.maps = s.maps ∧ (i.val < 10 → FeedInputActs s t i raw) ∧ ∀ d : Channel, i.val = 10 + d.val → CartridgeInputActs s t d raw := by
  have level := LevelIn.levelSet s i raw
  have routed : s.levelRouted i raw = s.levelSet i raw := by
    have stop : (s.levelSet i raw).stop = s.stop := by rw [level.frame]
    unfold State.levelRouted
    rcases none with quiet | stopped
    · rw [quiet, if_neg nofun]
    · rw [State.setStop_of_set (by rw [stop]; exact stopped), ite_self]
  rw [State.acceptInput_eq, routed]
  generalize s.levelSet i raw = y at level
  have same : y.pass = s.pass ∧ y.stop = s.stop ∧ y.slots = s.slots ∧ y.scan = s.scan ∧ y.maps = s.maps ∧
      y.inputs = setAt s.inputs i ⟨some raw, .none⟩ := by
    rw [level.frame]
    exact ⟨rfl, rfl, rfl, rfl, rfl, rfl⟩
  obtain ⟨pass, stop, slots, scan, maps, inputs⟩ := same
  have sensed := Sensed.sensed y i raw s.inputs[i].level.isNone
  have follows := Follows.finish false s (y.sensed i raw s.inputs[i].level.isNone)
  refine ⟨follows.inputs.trans (sensed.inputs.trans inputs), follows.scan.trans (sensed.scan.trans scan),
    follows.stop.trans (sensed.stop.trans stop), follows.pass.trans (sensed.pass.trans pass),
    follows.slots.trans (sensed.slots.trans slots), follows.maps.trans (sensed.maps.trans maps), fun low => ?_, fun d hd => ?_⟩
  · have isFeed : cartInput i = .none := dif_neg (by omega)
    rw [State.sensed_of_none isFeed] at follows ⊢
    exact feed_acts level follows
  · have isCart : cartInput i = some d := by
      unfold cartInput
      rw [dif_pos (by omega)]
      exact congrArg some (Fin.ext (by dsimp only; omega))
    rw [State.sensed_of_some isCart]
    exact cartridge_acts level rfl

end

theorem acceptInput_raised (s : State) (i : DIn) (raw : Bool) : (s.levelSet i raw).lane.Raised 37 (s.acceptInput i raw).lane := by
  rw [State.acceptInput_eq]
  refine Lane.Raised.trans (m := 31) ?_ (Sensed.sensed ..).lane
  unfold State.levelRouted
  split
  · exact (Acts.setStop ..).lane
  · exact (Lane.Raised.refl _).mono (by omega)

/-- An accepted level is the filtered one, and no result is written, whatever it stops. -/
theorem acceptInput_takes (s : State) (i : DIn) (raw : Bool) : (State.finish false s (s.acceptInput i raw)).inputs =
    setAt s.inputs i ⟨some raw, none⟩ ∧ (State.finish false s (s.acceptInput i raw)).scan = s.scan := by
  by_cases stops : s.tables.input[i].routing.matchesLevel raw = true ∧ s.stop.set = false
  · obtain ⟨inputs, scan, -⟩ := input_stops stops.1 stops.2
    exact ⟨inputs, scan⟩
  · have quiet : s.tables.input[i].routing.matchesLevel raw = false ∨ s.stop.set = true := by
      rw [not_and_or, Bool.not_eq_true, Bool.not_eq_false] at stops
      exact stops
    obtain ⟨inputs, scan, -⟩ := input_senses quiet
    exact ⟨inputs, scan⟩

/-- Settles O41. -/
theorem inputsAreFilteredAndRouted : Obligations.InputsAreFilteredAndRouted := by
  refine fun s i raw => ⟨rawInput_drops, rawInput_keeps, rawInput_begins, inputFilterExpiry_waits, fun c h => ?_⟩
  have acts := Acts.acceptInput s i raw
  have follows := Follows.finish false s (s.acceptInput i raw)
  have edge := edge_told s i raw
  have onward := acceptInput_raised s i raw
  obtain ⟨inputs, scan⟩ := acceptInput_takes s i raw
  refine ⟨_, input_accepted h, inputs, follows.tables.trans acts.tables, follows.store.trans acts.store, follows.rx.trans acts.lane.rx, scan,
    fun b was matching => tells_of_mem (fun room => onward.mem (edge b was matching room)) follows, fun stops clear => ?_, fun none => ?_⟩
  · obtain ⟨-, -, stop, pass, enable, told, ended, paused, halted⟩ := input_stops (routing_matches.2 stops) clear
    exact ⟨stop, pass, enable, told, ended, paused, halted⟩
  · obtain ⟨-, -, stop, pass, slots, maps, feed, carts⟩ :=
      input_senses (none.imp_left fun no => Bool.eq_false_iff.2 fun yes => no (routing_matches.1 yes))
    exact ⟨stop, pass, slots, maps, feed, carts⟩

end Sys2Proof.Machine
end
